-- ==== Sys2Proof/Word.lean ====
section
/-! DEFINITION. Bytes, the two code sources, the three sensor inputs, the three phases, and one small
record with a field for each of them. -/

namespace Sys2Proof

/-- One byte of the host link or of the meter link (12 R177). -/
abbrev Byte := BitVec 8

/-- The two sources a code may be marked with (05 R77). -/
inductive Source where
  | keypad
  | remote
deriving DecidableEq, Repr

/-- The three inputs TM reads directly (08 section 8.2). -/
inductive Sensor where
  | meterCase
  | cover
  | mag
deriving DecidableEq, Repr

/-- The three phases (00 section 3.4). -/
inductive Phase where
  | p1
  | p2
  | p3
deriving DecidableEq, Repr

/-- One value for each code source. -/
structure PerSource (α : Type) where
  keypad : α
  remote : α
deriving DecidableEq, Repr

/-- One value for each sensor input. -/
structure PerSensor (α : Type) where
  meterCase : α
  cover : α
  mag : α
deriving DecidableEq, Repr

/-- One value for each phase. -/
structure PerPhase (α : Type) where
  p1 : α
  p2 : α
  p3 : α
deriving DecidableEq, Repr

def PerSource.get {α : Type} (t : PerSource α) : Source → α
  | .keypad => t.keypad
  | .remote => t.remote

def PerSource.set {α : Type} (t : PerSource α) (i : Source) (x : α) : PerSource α :=
  match i with
  | .keypad => { t with keypad := x }
  | .remote => { t with remote := x }

def PerSource.all {α : Type} (x : α) : PerSource α := ⟨x, x⟩

def PerSource.map {α β : Type} (f : α → β) (t : PerSource α) : PerSource β := ⟨f t.keypad, f t.remote⟩

def PerSensor.get {α : Type} (t : PerSensor α) : Sensor → α
  | .meterCase => t.meterCase
  | .cover => t.cover
  | .mag => t.mag

def PerSensor.set {α : Type} (t : PerSensor α) (i : Sensor) (x : α) : PerSensor α :=
  match i with
  | .meterCase => { t with meterCase := x }
  | .cover => { t with cover := x }
  | .mag => { t with mag := x }

def PerSensor.all {α : Type} (x : α) : PerSensor α := ⟨x, x, x⟩

def PerSensor.map {α β : Type} (f : α → β) (t : PerSensor α) : PerSensor β :=
  ⟨f t.meterCase, f t.cover, f t.mag⟩

def PerPhase.get {α : Type} (t : PerPhase α) : Phase → α
  | .p1 => t.p1
  | .p2 => t.p2
  | .p3 => t.p3

def PerPhase.set {α : Type} (t : PerPhase α) (i : Phase) (x : α) : PerPhase α :=
  match i with
  | .p1 => { t with p1 := x }
  | .p2 => { t with p2 := x }
  | .p3 => { t with p3 := x }

def PerPhase.all {α : Type} (x : α) : PerPhase α := ⟨x, x, x⟩

def PerPhase.map {α β : Type} (f : α → β) (t : PerPhase α) : PerPhase β := ⟨f t.p1, f t.p2, f t.p3⟩

end Sys2Proof
end

