-- ==== Sys2Proof/Syntax.lean ====
section
/-! DEFINITION. The commands: one constructor for each row of spec/opcode_table.json, in the table's order. -/

namespace Sys2Proof

/-- A byte as a serial line delivers it, with whether its stop bit was found low (01 R1, 12 R177). -/
structure LineByte where
  data : Byte
  framingError : Bool := false
deriving DecidableEq, Repr

/-- A command. A host request carries the payload of its frame (12 R181); `restore` and `acceptEmergency`
carry what the frame holds after the key byte (log 11). `loadv` is the three load-side inputs at the moment
they are read (log 10). -/
inductive Instr where
  | identify (payload : List Byte)
  | getStatus (payload : List Byte)
  | getLedger (payload : List Byte)
  | getEnergy (payload : List Byte)
  | getTariff (payload : List Byte)
  | getTime (payload : List Byte)
  | getEvents (payload : List Byte)
  | readTamperLog (payload : List Byte)
  | submitCode (payload : List Byte)
  | restore (extra : List Byte)
  | acceptEmergency (extra : List Byte)
  | trimClock (payload : List Byte)
  | commission (payload : List Byte)
  | badKind (kind : Byte) (payload : List Byte)
  | busy (kind : Byte) (payload : List Byte)
  | frameDiscard (bytes : List LineByte)
  | frameTimeout
  | replySent
  | linkResetAssert
  | linkResetRelease
  | burstEnd (bytes : List LineByte)
  | silenceReport
  | suppressionTimerExpiry
  | recordTake (loadv : PerPhase Bool)
  | silenceTick
  | sensorInputChange (sensor : Sensor) (shows : Bool)
  | sensorFilterExpiry (sensor : Sensor)
  | deemedHoldExpiry
  | linklossMeasure
  | holdupSample
  | lockoutEnd (source : Source)
  | groupTimeout
  | tcEdgeEvaluation
  | coilPulseEnd
  | pulseCleared
  | coilCutoff
  | settleEnd (loadv : PerPhase Bool)
  | weldRetryExpiry
  | recloseTimerExpiry
  | recloseWindowExpiry
  | vmainFall
  | vmainRise
  | holdupEntry (vbackGood : Bool)
  | shelfPowerLoss
  | returnDecision
  | deferredReturn
  | dormantEntry
  | powerUp
  | periodicCheckpoint
  | deferredPeriodicWrite
  | checkpointWriteDone (imageGood : Bool)
  | clockAdvance
  | holdUpReserveExhaustion
deriving DecidableEq, Repr

end Sys2Proof
end

