-- ==== Sys2Proof/Config.lean ====
section
/-! DEFINITION. What the part fixes once: the identity it reports, and the FREE VALUES, constants with no
body, so that nothing can be proved about which value they have. Each free value has an entry in the
assumption log. -/

namespace Sys2Proof.Config

/-- The code transform of 05 R78, which the manual does not give: for each meter key a permutation of the
numbers 0..2^69 − 1, from the number a code spells to its block. The back office holds its inverse (log 4). -/
opaque codeTransform : BitVec 64 → Equiv.Perm (BitVec 69)

/-- The code check of 05 R78, which the manual does not give: from the meter key and the 53 bits of class,
sequence, issue day and value to the 16-bit tag (log 4). -/
opaque codeCheck : BitVec 64 → BitVec 53 → BitVec 16

/-- Draws the order of the events due in one millisecond: the n-th draw's rank of the k-th event (log 3). -/
opaque dueRank : Nat → Nat → Nat

/-- Draws the order of CL, SSS and TM at an entry to ACTIVE (06 R120, log 5). -/
opaque entryRank : Nat → Nat → Nat

/-- Draws where in a record take the position check falls (06 R118, 07 R126, log 6). -/
opaque checkPlace : Nat → Nat

/-- The sub-second phase after a restore, which no rule gives (log 13). -/
opaque restorePhase : Nat → Nat

/-- Whether a part of a second left on a lockout timer is reported as a whole second (05 R103, log 14). -/
opaque lockoutSecondsRoundUp : Bool

/-- The identity IDENTIFY reports (12 R181): vendor code, part code, silicon revision. -/
def vendorCode : Nat := 0x4A46
def partCode : Nat := 0x0003
def siliconRevision : Nat := 0x01

end Sys2Proof.Config
end

