-- ==== Sys2Proof/Machine/State.lean ====
section
/-! DEFINITION. The state of the PM3 as plain data, block by block (00 section 2.2), and State.reset, the part
as manufactured and powered in SHELF. The manufacture value of each block is that of its file's reset table. -/

namespace Sys2Proof.Machine

/-- A countdown timer: the milliseconds left, or stopped. -/
abbrev Timer := Option Nat

/-! ### Names -/

/-- The power states (10), and `off`, the part without supply that is not commissioned (10, log 18). -/
inductive Power where
  | shelf
  | active
  | holdup
  | dormant
  | off
deriving DecidableEq, Repr

/-- The credit states (04 R67). -/
inductive CreditState where
  | inCredit
  | low
  | offer
  | emergency
  | exhausted
  | floor
deriving DecidableEq, Repr

/-- The fault subkinds (06 section 6.5). -/
inductive FaultKind where
  | welded
  | noClose
  | driver
deriving DecidableEq, Repr

/-- The contactor states, FAULT with its subkind (06 section 6.2). -/
inductive Contactor where
  | closed
  | opening
  | opened
  | armed
  | closing
  | fault (kind : FaultKind)
deriving DecidableEq, Repr

/-- The origin of a removal (06 R105); `ordinary` records none. -/
inductive Origin where
  | ordinary
  | autoReclose
  | acceptingPress
  | restorePress
deriving DecidableEq, Repr

/-- The contact position as last verified (06 R107). -/
inductive Position where
  | opened
  | closed
  | unknown
deriving DecidableEq, Repr

/-- The part of a coil attempt in progress (06, state table). -/
inductive CoilPhase where
  | idle
  | pulse
  | clearance
  | settle
deriving DecidableEq, Repr

/-- The two coils and none, as a notice names them (12 R182). -/
inductive Coil where
  | none
  | open
  | close
deriving DecidableEq, Repr

/-- The reasons (06 R105). -/
inductive Reason where
  | credit
  | overload
  | tamper
  | remote
  | service
deriving DecidableEq, Repr

/-- The limiter's watch states (07 R125). -/
inductive Watch where
  | off
  | blanking
  | watching
deriving DecidableEq, Repr

/-- The limiter's reclose states (07): NONE, WAIT, LOCKOUT. -/
inductive Reclose where
  | rest
  | wait
  | lockout
deriving DecidableEq, Repr

/-- The nine tamper kinds (08 section 8.1). -/
inductive Kind where
  | meterCase
  | cover
  | mag
  | neutral
  | vloss
  | reverse
  | bypass
  | linkloss
  | probe
deriving DecidableEq, Repr

/-- The fifteen conditions (08 R137). -/
inductive CondId where
  | meterCase
  | cover
  | mag
  | neutral
  | vloss (p : Phase)
  | reverse (p : Phase)
  | bypass (p : Phase)
  | linkloss
  | probe
deriving DecidableEq, Repr

/-- A condition's state (08 section 8.1). -/
inductive CondState where
  | idle
  | pending
  | active
deriving DecidableEq, Repr

/-- The letter of a day profile (03 R47). -/
inductive ProfileId where
  | a
  | b
deriving DecidableEq, Repr

/-- The classes that come in groups (05 R98). -/
inductive GroupClass where
  | setRate
  | setProfile
  | keyChange
deriving DecidableEq, Repr

/-- The occasions of a checkpoint write (10 R167), in the order of the list. -/
inductive Occasion where
  | commission
  | code
  | periodic
  | holdupEntry
  | dormantEntry
deriving DecidableEq, Repr

/-- The two places for images in the nonvolatile store (10). -/
inductive StoreId where
  | a
  | b
deriving DecidableEq, Repr

/-- The cause of an addition to debt (04 R58), in the order of 12 R182. -/
inductive DebtCause where
  | debitCut
  | allowanceRaise
  | debtAdd
deriving DecidableEq, Repr

/-! ### Indexed records -/

/-- The four rate bands and the three blocks (03 R46). -/
abbrev Band := Fin 4
abbrev Block := Fin 3

/-- One value for each rate band. -/
structure PerBand (α : Type) where
  b0 : α
  b1 : α
  b2 : α
  b3 : α
deriving DecidableEq, Repr

/-- One value for each consumption block. -/
structure PerBlock (α : Type) where
  k0 : α
  k1 : α
  k2 : α
deriving DecidableEq, Repr

/-- One value for each friendly window (03 R49). -/
structure PerWindow (α : Type) where
  w0 : α
  w1 : α
  w2 : α
  w3 : α
deriving DecidableEq, Repr

/-- One value for each tamper kind. -/
structure PerKind (α : Type) where
  meterCase : α
  cover : α
  mag : α
  neutral : α
  vloss : α
  reverse : α
  bypass : α
  linkloss : α
  probe : α
deriving DecidableEq, Repr

/-- One value for each tamper condition. -/
structure PerCond (α : Type) where
  meterCase : α
  cover : α
  mag : α
  neutral : α
  vloss : PerPhase α
  reverse : PerPhase α
  bypass : PerPhase α
  linkloss : α
  probe : α
deriving DecidableEq, Repr

/-! ### Parameters (11 section 11.3) -/

/-- One friendly window (03 R49): `days` has bit d for weekday d, `start` and `stop` are steps. -/
structure FriendlyWindow where
  days : Nat
  start : Nat
  stop : Nat
deriving DecidableEq, Repr

/-- The parameter set, each value in the units of the parameter table (T1 and T2 in kWh). -/
structure Params where
  vNom : Nat
  dirPolicy : Nat
  deemedW : Nat
  t1 : Nat
  t2 : Nat
  neutralMarginMa : Nat
  vlossPct : Nat
  vlossMa : Nat
  reverseW : Nat
  eAllow : Nat
  fAllow : Nat
  lowThreshold : Nat
  rearmThreshold : Nat
  recoveryPct : Nat
  ageLimit : Nat
  cycleDays : Nat
  commWeekday : Nat
  loadLimit : Nat
  olRecords : Nat
  inrushRecords : Nat
  recloseS : Nat
  recloseMax : Nat
  autoRecloseKeyless : Nat
  coilMs : Nat
  settleMs : Nat
  deemedHoldMin : Nat
  actions : PerKind Nat
  windows : PerWindow FriendlyWindow
deriving DecidableEq, Repr

/-- The defaults of the parameter table (11 section 11.3). -/
def Params.default : Params where
  vNom := 230
  dirPolicy := 0
  deemedW := 3000
  t1 := 0
  t2 := 0
  neutralMarginMa := 1000
  vlossPct := 50
  vlossMa := 1000
  reverseW := 20
  eAllow := 2000
  fAllow := 5000
  lowThreshold := 500
  rearmThreshold := 1000
  recoveryPct := 25
  ageLimit := 365
  cycleDays := 30
  commWeekday := 0
  loadLimit := 0
  olRecords := 20
  inrushRecords := 8
  recloseS := 60
  recloseMax := 3
  autoRecloseKeyless := 1
  coilMs := 80
  settleMs := 150
  deemedHoldMin := 15
  actions := ⟨5, 4, 2, 2, 0, 0, 0, 2, 0⟩
  windows := ⟨⟨0, 0, 0⟩, ⟨0, 0, 0⟩, ⟨0, 0, 0⟩, ⟨0, 0, 0⟩⟩

/-! ### Meter link intake (01) -/

/-- An interval record as it arrives at the intake: clamped (01 R4). `inn` is the neutral current. -/
structure IntervalRecord where
  seq : Nat
  dur : Nat
  p : PerPhase Int
  v : PerPhase Nat
  i : PerPhase Nat
  inn : Nat
deriving DecidableEq, Repr

/-- The burst now being received (01 R1): its first 33 bytes, its byte count, its framing-error mark. -/
structure Assembly where
  bytes : List Byte
  count : Nat
  framingError : Bool
deriving DecidableEq, Repr

structure Mli where
  assembly : Assembly
  queue : List IntervalRecord
  expected : Nat
  baseline : Bool
  silenceMs : Nat
  silenceRunning : Bool
  suppression : Timer
  reported : Bool
  latest : Option IntervalRecord
deriving DecidableEq, Repr

def Assembly.empty : Assembly := ⟨[], 0, false⟩

/-- 01 R15, manufacture row. -/
def Mli.manufacture : Mli where
  assembly := Assembly.empty
  queue := []
  expected := 0
  baseline := true
  silenceMs := 0
  silenceRunning := false
  suppression := none
  reported := false
  latest := none

/-! ### Billing engine (02) -/

/-- The part of BE's state the checkpoint holds (02 R37). -/
structure Registers where
  billedResidue : Nat
  importResidue : PerPhase Nat
  exportResidue : PerPhase Nat
  billedWh : Nat
  cycleWh : Nat
  importWh : PerPhase Nat
  exportWh : PerPhase Nat
deriving DecidableEq, Repr

/-- The ten observation run counters (02 R36). -/
structure Runs where
  neutral : Nat
  vloss : PerPhase Nat
  reverse : PerPhase Nat
  bypass : PerPhase Nat
deriving DecidableEq, Repr

structure Be where
  reg : Registers
  bLast : Nat
  ticks : Nat
  tickTimer : Timer
  runs : Runs
deriving DecidableEq, Repr

def Registers.zero : Registers := ⟨0, PerPhase.all 0, PerPhase.all 0, 0, 0, PerPhase.all 0, PerPhase.all 0⟩

def Runs.zero : Runs := ⟨0, PerPhase.all 0, PerPhase.all 0, PerPhase.all 0⟩

/-- 02 R37, manufacture row. -/
def Be.manufacture : Be where
  reg := Registers.zero
  bLast := 0
  ticks := 0
  tickTimer := none
  runs := Runs.zero

/-! ### Tariff calendar (03) -/

/-- One switch point of a day profile (03 R47). -/
structure SwitchPoint where
  start : Nat
  band : Band
deriving DecidableEq, Repr

/-- The part of TC's state the checkpoint holds (10 R167). -/
structure Schedule where
  clock : Nat
  cycleIndex : Nat
  rates : PerBand (PerBlock Nat)
  profileA : List SwitchPoint
  profileB : List SwitchPoint
  weekMap : List ProfileId
deriving DecidableEq, Repr

/-- `phase` counts 1/125 of a period of the 32.768 kHz timebase, 4,096,000 to the second (log 12). -/
structure Tc where
  sched : Schedule
  phase : Nat
  clockValid : Bool
  trimUsed : Nat
  allowanceDay : Nat
  band : Band
  friendly : Bool
deriving DecidableEq, Repr

/-- 03 R53, manufacture row, with R46 and R47. The row gives no sub-second phase: 0 is a DESIGN CHOICE (log 39). -/
def Tc.manufacture : Tc where
  sched :=
    { clock := 0
      cycleIndex := 0
      rates := ⟨⟨0, 0, 0⟩, ⟨0, 0, 0⟩, ⟨0, 0, 0⟩, ⟨0, 0, 0⟩⟩
      profileA := [⟨0, 0⟩]
      profileB := [⟨0, 0⟩]
      weekMap := [.a, .a, .a, .a, .a, .a, .a] }
  phase := 0
  clockValid := false
  trimUsed := 0
  allowanceDay := 0
  band := 0
  friendly := false

/-! ### Credit ledger (04) -/

/-- CL's state but CREDIT held; the checkpoint holds all of it (04 R76). Money is in cents, `residue` in µcents. -/
structure Account where
  balance : Int
  residue : Nat
  debt : Nat
  satNoted : Bool
  available : Bool
  accepted : Bool
  state : CreditState
  opening : Int
  crIn : Nat
  crRecovered : Nat
  crCharged : Nat
  crRaised : Nat
  crDeferred : Nat
deriving DecidableEq, Repr

structure Cl where
  acct : Account
  creditHeld : Bool
deriving DecidableEq, Repr

/-- 04 R76, manufacture row. -/
def Cl.manufacture : Cl where
  acct :=
    { balance := 0
      residue := 0
      debt := 0
      satNoted := false
      available := false
      accepted := false
      state := .exhausted
      opening := 0
      crIn := 0
      crRecovered := 0
      crCharged := 0
      crRaised := 0
      crDeferred := 0 }
  creditHeld := false

/-! ### Code engine (05) -/

/-- The part of CE's state the checkpoint holds (05 R104). -/
structure Keys where
  meterKey : BitVec 64
  keyRevision : Nat
  floor : Nat
  history : List Nat
  attempts : PerSource Nat
deriving DecidableEq, Repr

/-- One received part of a group: its index and its 19-bit payload. -/
structure GroupPart where
  index : Nat
  payload : BitVec 19
deriving DecidableEq, Repr

/-- The group record (05, chapter head); `timer` is in ms. -/
structure PendingGroup where
  cls : GroupClass
  sequence : Nat
  firstSource : Source
  parts : List GroupPart
  timer : Nat
deriving DecidableEq, Repr

structure Ce where
  keys : Keys
  lockout : PerSource Timer
  group : Option PendingGroup
deriving DecidableEq, Repr

/-- 05 R104, manufacture row. -/
def Ce.manufacture : Ce where
  keys := { meterKey := 0, keyRevision := 0, floor := 0, history := [], attempts := PerSource.all 5 }
  lockout := PerSource.all none
  group := none

/-! ### Supply switch sequencer (06) -/

/-- The open-reason set (06 R105). -/
structure Reasons where
  credit : Bool
  overload : Bool
  tamper : Bool
  remote : Bool
  service : Bool
deriving DecidableEq, Repr

def Reasons.empty : Reasons := ⟨false, false, false, false, false⟩

/-- `cutoff` is the time left to the coil cutoff (06 R115); `openNext` is set while a reason found at the end
of a close pulse waits for the pulse's clearance (06 R112). -/
structure Sss where
  reasons : Reasons
  origin : Origin
  contactor : Contactor
  attempts : Nat
  pulseLimit : Nat
  phase : CoilPhase
  phaseTimer : Timer
  cutoff : Timer
  openNext : Bool
  verified : Position
  weldRetry : Timer
  coilEnable : Bool
deriving DecidableEq, Repr

/-- 06 R122, manufacture row. -/
def Sss.manufacture : Sss where
  reasons := { Reasons.empty with service := true }
  origin := .ordinary
  contactor := .opened
  attempts := 0
  pulseLimit := 3
  phase := .idle
  phaseTimer := none
  cutoff := none
  openNext := false
  verified := .unknown
  weldRetry := none
  coilEnable := false

/-! ### Load limiter (07) -/

structure Ll where
  tempLimit : Nat
  tempExpiry : Nat
  watch : Watch
  blanking : Nat
  overload : Nat
  reclose : Reclose
  recloseTimer : Timer
  recloseCount : Nat
  window : Timer
deriving DecidableEq, Repr

/-- 07 R132, manufacture row. -/
def Ll.manufacture : Ll where
  tempLimit := 0
  tempExpiry := 0
  watch := .off
  blanking := 0
  overload := 0
  reclose := .rest
  recloseTimer := none
  recloseCount := 0
  window := none

/-! ### Tamper monitor (08) -/

/-- The log record of a condition's present occurrence (08, state table). -/
inductive Ongoing where
  | none
  | unrecorded
  | serial (n : Nat)
deriving DecidableEq, Repr

structure Cond where
  state : CondState
  latch : Bool
  lastEnd : Option Nat
  ongoing : Ongoing
deriving DecidableEq, Repr

/-- A sensor kind's filter: stopped, milliseconds left in ACTIVE, or samples counted in HOLDUP (08 R134, R148). -/
inductive Filter where
  | stopped
  | timing (ms : Nat)
  | samples (count : Nat)
deriving DecidableEq, Repr

structure Tm where
  conds : PerCond Cond
  filters : PerSensor Filter
  hold : Timer
  probeSources : PerSource Bool
  deemed : Bool
  subst : PerPhase Bool
  tamperHeld : Bool
deriving DecidableEq, Repr

def Cond.fresh : Cond := ⟨.idle, false, none, .none⟩

def PerCond.all {α : Type} (x : α) : PerCond α :=
  ⟨x, x, x, x, PerPhase.all x, PerPhase.all x, PerPhase.all x, x, x⟩

/-- 08 R151, manufacture row. -/
def Tm.manufacture : Tm where
  conds := PerCond.all Cond.fresh
  filters := PerSensor.all .stopped
  hold := none
  probeSources := PerSource.all false
  deemed := false
  subst := PerPhase.all false
  tamperHeld := false

/-! ### Tamper log (09) -/

/-- The actions applied at a start (08 R140). -/
structure Actions where
  opens : Bool
  deemed : Bool
  latch : Bool
  subst : Bool
deriving DecidableEq, Repr

/-- A tamper record (09 section 9.1); `cond` gives kind and phase, `stop` is absent while it is ongoing. -/
structure TamperRecord where
  serial : Nat
  cond : CondId
  start : Nat
  stop : Option Nat
  inHoldup : Bool
  clockValid : Bool
  actions : Actions
  extreme : Option Int
deriving DecidableEq, Repr

structure Tl where
  records : List TamperRecord
  nextSerial : Nat
  usedUp : Bool
  unrecorded : PerKind Nat
  fullNoticed : Bool
deriving DecidableEq, Repr

/-- 09 R161, manufacture row. -/
def Tl.manufacture : Tl where
  records := []
  nextSerial := 1
  usedUp := false
  unrecorded := ⟨0, 0, 0, 0, 0, 0, 0, 0, 0⟩
  fullNoticed := false

/-! ### Power supervisor (10) -/

/-- The contents of a checkpoint image (10 R167). -/
structure Contents where
  meterId : Nat
  reg : Registers
  sched : Schedule
  acct : Account
  keys : Keys
  reasons : Reasons
  contactor : Contactor
  conds : PerCond Cond
  probeSources : PerSource Bool
  holdRunning : Bool
  params : Params
deriving DecidableEq, Repr

structure Image where
  contents : Contents
  generation : Nat
  occasion : Occasion
deriving DecidableEq, Repr

/-- A checkpoint slot: empty, or an image with whether its check matches its contents (10 R167). -/
inductive StoreSlot where
  | empty
  | image (img : Image) (good : Bool)
deriving DecidableEq, Repr

/-- A checkpoint write under way: the image being written and the slot it goes to. -/
structure Write where
  img : Image
  target : StoreId
deriving DecidableEq, Repr

structure Ps where
  power : Power
  valid : Bool
  entryTime : Nat
  vmainTimer : Timer
  periodic : Timer
  periodicWaits : Bool
  slotA : StoreSlot
  slotB : StoreSlot
  write : Option Write
  nextWrites : List Occasion
  returnHeld : Bool
  holdupHeld : Bool
  sampleTimer : Timer
  meterId : Nat
deriving DecidableEq, Repr

/-- 10 R171, manufacture row. -/
def Ps.manufacture : Ps where
  power := .shelf
  valid := false
  entryTime := 0
  vmainTimer := none
  periodic := none
  periodicWaits := false
  slotA := .empty
  slotB := .empty
  write := none
  nextWrites := []
  returnHeld := false
  holdupHeld := false
  sampleTimer := none
  meterId := 0

/-! ### Host link controller (12) -/

/-- A notice's kind and detail (12 R182). -/
inductive NoticeBody where
  | supply (state : Contactor) (unverified : Bool)
  | credit (state : CreditState)
  | tamperStart (cond : CondId) (serial : Ongoing)
  | tamperEnd (cond : CondId) (serial : Ongoing)
  | logFull (cond : CondId)
  | contactorFault (kind : FaultKind) (pulses : Nat) (loadv : PerPhase Bool) (coil : Coil)
  | clockSet (before : Nat)
  | restoredWarm (length : Nat)
  | restoredCold (occasion : Occasion) (generation : Nat)
  | groupDropped (cls : GroupClass) (sequence : Nat) (parts : List Nat) (firstSource : Source) (timeout : Bool)
  | lockout (source : Source) (ends : Bool)
  | debtSaturated (cause : DebtCause) (loss : Nat)
  | overload (lockout : Bool) (limit : Nat) (recloseCount : Nat)
deriving DecidableEq, Repr

structure Notice where
  body : NoticeBody
  seconds : Nat
deriving DecidableEq, Repr

/-- A reply: its kind byte and its payload, whose first byte is the status (12 R178). -/
structure Reply where
  kind : Byte
  payload : List Byte
deriving DecidableEq, Repr

/-- The request slot (12 R180): empty; a request executed whose checkpoint write is under way, with its reply,
or without one where the reply is not to be sent (10 R163, 12 R185); held for a periodic write (10 R168); or a
reply made that waits for the transmitter. -/
inductive Slot where
  | empty
  | awaitingWrite (reply : Option Reply)
  | periodicWrite
  | replyWaits (reply : Reply)
deriving DecidableEq, Repr

/-- A partial frame: its bytes from 0xC3 on and the ms since its last byte (12 R179). -/
structure PartialFrame where
  bytes : List Byte
  gapMs : Nat
deriving DecidableEq, Repr

structure Hlc where
  rx : Option PartialFrame
  slot : Slot
  sending : Option Reply
  waiting : Option Reply
  queue : List Notice
  overflow : Bool
deriving DecidableEq, Repr

/-- 12 R186, manufacture row. -/
def Hlc.manufacture : Hlc where
  rx := none
  slot := .empty
  sending := none
  waiting := none
  queue := []
  overflow := false

/-! ### Pins (12 R177, 00 section 2.1) -/

/-- The input levels as last seen. `vmain` and `vback` are true above their thresholds. -/
structure Pins where
  loadv : PerPhase Bool
  sensor : PerSensor Bool
  coilSense : Bool
  linkResetLow : Bool
  vmain : Bool
  vback : Bool
deriving DecidableEq, Repr

/-- DESIGN CHOICE (log 9): the levels of a meter on the bench with mains present. -/
def Pins.reset : Pins where
  loadv := PerPhase.all false
  sensor := PerSensor.all false
  coilSense := false
  linkResetLow := false
  vmain := true
  vback := true

/-! ### The state -/

/-- The whole state. `free` counts the free values drawn and `pending` is the queue of commands that wait:
both are the model's own. -/
structure State where
  params : Params
  mli : Mli
  be : Be
  tc : Tc
  cl : Cl
  ce : Ce
  sss : Sss
  ll : Ll
  tm : Tm
  tl : Tl
  ps : Ps
  hlc : Hlc
  pins : Pins
  free : Nat
  pending : List Instr
deriving DecidableEq, Repr

/-- No command of the PM3 stops the part with a fault: a contactor FAULT (06 section 6.5) is a state of SSS
and a refused code or request is a reply. So there is no constructor (log 40). -/
inductive Fault where
deriving DecidableEq, Repr

/-- `notModelled` is raised by exec's arm of a command that has no meaning yet, and by nothing else; safe. No
arm raises it now. -/
inductive Refusal where
  | notModelled (mnemonic : String)
deriving DecidableEq, Repr

def State.setParams (s : State) (x : Params) : State := { s with params := x }
def State.setMli (s : State) (x : Mli) : State := { s with mli := x }
def State.setBe (s : State) (x : Be) : State := { s with be := x }
def State.setTc (s : State) (x : Tc) : State := { s with tc := x }
def State.setCl (s : State) (x : Cl) : State := { s with cl := x }
def State.setCe (s : State) (x : Ce) : State := { s with ce := x }
def State.setSss (s : State) (x : Sss) : State := { s with sss := x }
def State.setLl (s : State) (x : Ll) : State := { s with ll := x }
def State.setTm (s : State) (x : Tm) : State := { s with tm := x }
def State.setTl (s : State) (x : Tl) : State := { s with tl := x }
def State.setPs (s : State) (x : Ps) : State := { s with ps := x }
def State.setHlc (s : State) (x : Hlc) : State := { s with hlc := x }
def State.setPins (s : State) (x : Pins) : State := { s with pins := x }
def State.setFree (s : State) (x : Nat) : State := { s with free := x }
def State.setPending (s : State) (x : List Instr) : State := { s with pending := x }

/-- The part after manufacture, powered in SHELF (10 R169, R171; log 19). -/
def State.reset : State where
  params := Params.default
  mli := Mli.manufacture
  be := Be.manufacture
  tc := Tc.manufacture
  cl := Cl.manufacture
  ce := Ce.manufacture
  sss := Sss.manufacture
  ll := Ll.manufacture
  tm := Tm.manufacture
  tl := Tl.manufacture
  ps := Ps.manufacture
  hlc := Hlc.manufacture
  pins := Pins.reset
  free := 0
  pending := []

end Sys2Proof.Machine
end

