-- ==== Sys2Proof/Machine/Ops.lean ====
section
/-! DEFINITION. The named operations that several blocks use: indexed records, timers, saturating counts, bytes,
the two cyclic checks, the raising of notices, and the drawing of an open order. -/

namespace Sys2Proof.Machine

/-! ### Indexed records -/

def PerBand.get {α : Type} (t : PerBand α) (i : Band) : α :=
  match i with
  | 0 => t.b0
  | 1 => t.b1
  | 2 => t.b2
  | 3 => t.b3

def PerBand.set {α : Type} (t : PerBand α) (i : Band) (x : α) : PerBand α :=
  match i with
  | 0 => { t with b0 := x }
  | 1 => { t with b1 := x }
  | 2 => { t with b2 := x }
  | 3 => { t with b3 := x }

def PerBlock.get {α : Type} (t : PerBlock α) (i : Block) : α :=
  match i with
  | 0 => t.k0
  | 1 => t.k1
  | 2 => t.k2

def PerBlock.set {α : Type} (t : PerBlock α) (i : Block) (x : α) : PerBlock α :=
  match i with
  | 0 => { t with k0 := x }
  | 1 => { t with k1 := x }
  | 2 => { t with k2 := x }

def PerKind.get {α : Type} (t : PerKind α) (k : Kind) : α :=
  match k with
  | .meterCase => t.meterCase
  | .cover => t.cover
  | .mag => t.mag
  | .neutral => t.neutral
  | .vloss => t.vloss
  | .reverse => t.reverse
  | .bypass => t.bypass
  | .linkloss => t.linkloss
  | .probe => t.probe

def PerKind.set {α : Type} (t : PerKind α) (k : Kind) (x : α) : PerKind α :=
  match k with
  | .meterCase => { t with meterCase := x }
  | .cover => { t with cover := x }
  | .mag => { t with mag := x }
  | .neutral => { t with neutral := x }
  | .vloss => { t with vloss := x }
  | .reverse => { t with reverse := x }
  | .bypass => { t with bypass := x }
  | .linkloss => { t with linkloss := x }
  | .probe => { t with probe := x }

def PerCond.get {α : Type} (t : PerCond α) (c : CondId) : α :=
  match c with
  | .meterCase => t.meterCase
  | .cover => t.cover
  | .mag => t.mag
  | .neutral => t.neutral
  | .vloss p => t.vloss.get p
  | .reverse p => t.reverse.get p
  | .bypass p => t.bypass.get p
  | .linkloss => t.linkloss
  | .probe => t.probe

def PerCond.set {α : Type} (t : PerCond α) (c : CondId) (x : α) : PerCond α :=
  match c with
  | .meterCase => { t with meterCase := x }
  | .cover => { t with cover := x }
  | .mag => { t with mag := x }
  | .neutral => { t with neutral := x }
  | .vloss p => { t with vloss := t.vloss.set p x }
  | .reverse p => { t with reverse := t.reverse.set p x }
  | .bypass p => { t with bypass := t.bypass.set p x }
  | .linkloss => { t with linkloss := x }
  | .probe => { t with probe := x }

def Reasons.get (t : Reasons) (r : Reason) : Bool :=
  match r with
  | .credit => t.credit
  | .overload => t.overload
  | .tamper => t.tamper
  | .remote => t.remote
  | .service => t.service

def Reasons.set (t : Reasons) (r : Reason) (x : Bool) : Reasons :=
  match r with
  | .credit => { t with credit := x }
  | .overload => { t with overload := x }
  | .tamper => { t with tamper := x }
  | .remote => { t with remote := x }
  | .service => { t with service := x }

def Reasons.isEmpty (t : Reasons) : Bool :=
  !(t.credit || t.overload || t.tamper || t.remote || t.service)

/-- The nine kinds in the order of 12 R181. -/
def allKinds : List Kind :=
  [.meterCase, .cover, .mag, .neutral, .vloss, .reverse, .bypass, .linkloss, .probe]

def allPhases : List Phase := [.p1, .p2, .p3]

/-- The fifteen conditions in the order of their numbers (12 R182). -/
def allConds : List CondId :=
  [.meterCase, .cover, .mag, .neutral, .vloss .p1, .vloss .p2, .vloss .p3, .reverse .p1, .reverse .p2, .reverse .p3,
    .bypass .p1, .bypass .p2, .bypass .p3, .linkloss, .probe]

/-- The kind of a condition (08 section 8.1). -/
def CondId.kind : CondId → Kind
  | .meterCase => .meterCase
  | .cover => .cover
  | .mag => .mag
  | .neutral => .neutral
  | .vloss _ => .vloss
  | .reverse _ => .reverse
  | .bypass _ => .bypass
  | .linkloss => .linkloss
  | .probe => .probe

def Phase.number : Phase → Nat
  | .p1 => 1
  | .p2 => 2
  | .p3 => 3

/-- The condition numbers of 12 R182. -/
def CondId.number : CondId → Nat
  | .meterCase => 1
  | .cover => 2
  | .mag => 3
  | .neutral => 4
  | .vloss p => 4 + Phase.number p
  | .reverse p => 7 + Phase.number p
  | .bypass p => 10 + Phase.number p
  | .linkloss => 14
  | .probe => 15

/-- The condition of a sensor input. -/
def sensorCond : Sensor → CondId
  | .meterCase => .meterCase
  | .cover => .cover
  | .mag => .mag

def phaseList {α : Type} (t : PerPhase α) : List α := [t.p1, t.p2, t.p3]

/-! ### Numbers and timers -/

/-- The greatest value of a 48-bit register (02 R25, 04 R59). -/
def max48 : Nat := 281474976710655

/-- The greatest value of the clock (03 R39). -/
def maxClock : Nat := 4294967295

/-- The greatest debt and the greatest balance (04 R55, R58). -/
def maxCents : Nat := 99999999

/-- A saturating sum (00 section 3.3). -/
def satAdd (top a b : Nat) : Nat := min top (a + b)

/-- A value clamped to the nearer end of its range (00 section 3.3). -/
def clampNat (lo hi x : Nat) : Nat := max lo (min hi x)

def clampInt (lo hi x : Int) : Int := max lo (min hi x)

/-- A timer stands at its expiry. -/
def timerDue (t : Timer) : Bool := t == some 0

/-- A timer loaded with a number of seconds. -/
def secondsTimer (n : Nat) : Timer := some (n * 1000)

/-- The clock in meter seconds. -/
def State.clock (s : State) : Nat := s.tc.sched.clock

/-! ### Bytes and checks -/

/-- The low `width` bytes of a number, most significant first (00 section 3.5). -/
def bytesOf : Nat → Nat → List Byte
  | 0, _ => []
  | k + 1, x => BitVec.ofNat 8 (x / 256 ^ k) :: bytesOf k x

/-- A signed number in two's complement (12 R181). -/
def bytesOfInt (width : Nat) (x : Int) : List Byte := bytesOf width (x % (256 ^ width : Nat)).toNat

/-- The number a list of bytes spells, most significant first (00 section 3.5). -/
def natOf (bytes : List Byte) : Nat := bytes.foldl (fun acc b => acc * 256 + b.toNat) 0

/-- A set as a bit field, the first member in bit 0 (12 R181). -/
def bitField : List Bool → Nat
  | [] => 0
  | b :: rest => b.toNat + 2 * bitField rest

/-- A number of `width` bits read as two's complement (12 R187). -/
def signedOf (width n : Nat) : Int := if n < 2 ^ (width - 1) then (n : Int) else (n : Int) - (2 ^ width : Nat)

/-- The parts received as a set of indices (12 R181). -/
def partSet (indices : List Nat) : Nat :=
  bitField [indices.contains 0, indices.contains 1, indices.contains 2, indices.contains 3]

def bitOrder : List Nat := [7, 6, 5, 4, 3, 2, 1, 0]

/-- One bit of the record check (01 R3). -/
def recordCheckBit (reg : BitVec 8) (bit : Bool) : BitVec 8 :=
  if (reg.msb != bit) then (reg <<< 1) ^^^ 0x07#8 else reg <<< 1

/-- The check of an interval record (01 R3). -/
def recordCheck (bytes : List Byte) : BitVec 8 :=
  bytes.foldl (fun reg b => bitOrder.foldl (fun r i => recordCheckBit r (b.getLsbD i)) reg) 0#8

/-- One bit of the frame check (12 R178). -/
def frameCheckBit (reg : BitVec 16) (bit : Bool) : BitVec 16 :=
  if (reg.msb != bit) then (reg <<< 1) ^^^ 0x8005#16 else reg <<< 1

/-- The check of a host frame (12 R178). -/
def frameCheck (bytes : List Byte) : BitVec 16 :=
  bytes.foldl (fun reg b => bitOrder.foldl (fun r i => frameCheckBit r (b.getLsbD i)) reg) 0#16

/-- A whole frame: start byte, length, kind, payload, check (12 R178). -/
def frameBytes (kind : Byte) (payload : List Byte) : List Byte :=
  let body := BitVec.ofNat 8 (payload.length + 1) :: kind :: payload
  (0xC3#8 :: body) ++ bytesOf 2 (frameCheck body).toNat

/-! ### Notices (12 R182) -/

/-- A notice joins the tail of a queue of at most 16, or is dropped with the overflow flag set (12 R182). -/
def Hlc.join (h : Hlc) (n : Notice) : Hlc :=
  if h.queue.length < 16 then { h with queue := h.queue ++ [n] } else { h with overflow := true }

/-- A block raises a notice with the meter seconds given. -/
def raiseAt (body : NoticeBody) (seconds : Nat) (s : State) : State := s.setHlc (s.hlc.join ⟨body, seconds⟩)

/-- A block raises a notice at the present clock. -/
def raise (body : NoticeBody) (s : State) : State := raiseAt body s.clock s

/-! ### Open orders -/

/-- Inserts an item among items already ranked. -/
def insertRanked {α : Type} (rank : Nat) (x : α) : List (Nat × α) → List (Nat × α)
  | [] => [(rank, x)]
  | (r, y) :: rest => if rank < r then (rank, x) :: (r, y) :: rest else (r, y) :: insertRanked rank x rest

/-- The items ranked by a drawn order. -/
def rankItems {α : Type} (rank : Nat → Nat) : Nat → List α → List (Nat × α)
  | _, [] => []
  | k, x :: rest => insertRanked (rank k) x (rankItems rank (k + 1) rest)

/-- The items in a drawn order; one item or none needs no draw (log 3). -/
def drawnOrder {α : Type} (rank : Nat → Nat) (l : List α) : List α :=
  match l with
  | [] => []
  | [x] => [x]
  | x :: y :: rest => (rankItems rank 0 (x :: y :: rest)).map Prod.snd

/-- One more free value has been drawn. -/
def State.countDraw (s : State) : State := s.setFree (s.free + 1)

/-! ### The load limiter's answer to a verified close (07 R126) -/

/-- LL takes a verified-close notice: blanking is loaded and the reclose window timer starts (07 R126, R130). -/
def verifiedClose (s : State) : State :=
  s.setLl { s.ll with
    blanking := s.params.inrushRecords
    overload := 0
    watch := if s.params.inrushRecords = 0 then .watching else .blanking
    window := secondsTimer 1800 }

end Sys2Proof.Machine
end

