-- ==== Sys2Proof/Machine/Operands.lean ====
section
/-! DEFINITION. How the bytes of a command are read: the interval record (12 R187), the digits and fields of a
code (05), the parameter table (11 section 11.3) and the COMMISSION payload (12 R181). -/

namespace Sys2Proof.Machine

/-- The number in `len` bytes from byte `off` on. -/
def fieldAt (bytes : List Byte) (off len : Nat) : Nat := natOf ((bytes.drop off).take len)

/-! ### The interval record -/

/-- A current or voltage channel: its upper end when its over-range flag is set, else clamped (01 R4, R5). -/
def channel (top : Nat) (overRange : Bool) (x : Nat) : Nat := if overRange then top else min top x

/-- A phase power clamped to −32,000..+32,000 W (01 R4). -/
def clampPower (n : Nat) : Int := clampInt (-32000) 32000 (signedOf 24 n)

/-- The clamped record of a 33-byte burst, laid out as 12 R187 states and clamped as 01 R4 and R5 state. -/
def recordOf (bytes : List Byte) : IntervalRecord :=
  let ovr := (bytes.drop 31).headD 0#8
  { seq := fieldAt bytes 1 1
    dur := clampNat 100 1000 (fieldAt bytes 2 2)
    p := ⟨clampPower (fieldAt bytes 4 3), clampPower (fieldAt bytes 12 3), clampPower (fieldAt bytes 20 3)⟩
    v := ⟨channel 5000 (ovr.getLsbD 4) (fieldAt bytes 7 2), channel 5000 (ovr.getLsbD 5) (fieldAt bytes 15 2),
      channel 5000 (ovr.getLsbD 6) (fieldAt bytes 23 2)⟩
    i := ⟨channel 100000 (ovr.getLsbD 0) (fieldAt bytes 9 3), channel 100000 (ovr.getLsbD 1) (fieldAt bytes 17 3),
      channel 100000 (ovr.getLsbD 2) (fieldAt bytes 25 3)⟩
    inn := channel 100000 (ovr.getLsbD 3) (fieldAt bytes 28 3) }

/-- A burst's next byte: the first 33 are kept, the count saturates at 255, a framing error marks it (01 R1). -/
def Assembly.take (a : Assembly) (b : LineByte) : Assembly where
  bytes := if a.bytes.length < 33 then a.bytes ++ [b.data] else a.bytes
  count := satAdd 255 a.count 1
  framingError := a.framingError || b.framingError

/-- The four conditions of a good record (01 R2). -/
def Assembly.isGood (a : Assembly) : Bool :=
  a.count == 33 && a.bytes.headD 0#8 == 0x5A#8 && !a.framingError
    && (a.bytes.drop 32).headD 0#8 == recordCheck ((a.bytes.drop 1).take 31)

/-! ### Codes -/

/-- One digit character (12 R181). -/
def digitOf (c : Byte) : Option Nat := if 0x30 ≤ c.toNat ∧ c.toNat ≤ 0x39 then some (c.toNat - 0x30) else none

/-- The number a string of digits spells, or none when a character is not a digit (05 R77). -/
def digitsFrom (acc : Nat) : List Byte → Option Nat
  | [] => some acc
  | c :: rest =>
    match digitOf c with
    | some d => digitsFrom (acc * 10 + d) rest
    | none => none

/-- The number of a code, or none for a MALFORMED string (05 R77). -/
def codeNumber (chars : List Byte) : Option Nat :=
  if chars.length = 21 then
    match digitsFrom 0 chars with
    | some n => if n < 2 ^ 69 then some n else none
    | none => none
  else none

/-- The fields of a code block (05, block table), with the 53 bits the check is computed over. -/
structure Code where
  cls : Nat
  sequence : Nat
  day : Nat
  value : BitVec 21
  tag : BitVec 16
  body : BitVec 53
deriving DecidableEq, Repr

/-- Reads a block as its fields (05 R78). -/
def codeOf (block : BitVec 69) : Code where
  cls := (block.extractLsb' 65 4).toNat
  sequence := (block.extractLsb' 49 16).toNat
  day := (block.extractLsb' 37 12).toNat
  value := block.extractLsb' 16 21
  tag := block.extractLsb' 0 16
  body := block.extractLsb' 16 53

/-- A field of a code's value, from bit `lo` on, `width` bits (05, value table). -/
def valueField (v : BitVec 21) (lo width : Nat) : Nat := (v.extractLsb' lo width).toNat

/-- The kinds of a CLEAR_TAMPER mask, CASE in the lowest of its nine bits (05, below the value table). -/
def maskOf (mask : Nat) : PerKind Bool :=
  ⟨mask.testBit 0, mask.testBit 1, mask.testBit 2, mask.testBit 3, mask.testBit 4, mask.testBit 5, mask.testBit 6,
    mask.testBit 7, mask.testBit 8⟩

/-- The class numbers that come in groups (05 section 5.5). -/
def groupClassOf (cls : Nat) : Option GroupClass :=
  match cls with
  | 8 => some .setRate
  | 9 => some .setProfile
  | 10 => some .keyChange
  | _ => none

def GroupClass.number : GroupClass → Nat
  | .setRate => 8
  | .setProfile => 9
  | .keyChange => 10

/-- The part count of a class (05 R98). -/
def GroupClass.partCount : GroupClass → Nat
  | .setRate => 2
  | .setProfile => 4
  | .keyChange => 4

/-! ### Parameters -/

/-- A row of the parameter table: code step and range, in the parameter's units (11 section 11.3). -/
structure ParamRow where
  step : Nat
  lo : Nat
  hi : Nat
deriving DecidableEq, Repr

/-- The parameter table (11 section 11.3). -/
def paramRow (index : Nat) : Option ParamRow :=
  match index with
  | 1 => some ⟨1, 100, 300⟩
  | 2 => some ⟨1, 0, 2⟩
  | 3 => some ⟨10, 0, 60000⟩
  | 4 => some ⟨1, 0, 8000⟩
  | 5 => some ⟨1, 0, 8000⟩
  | 6 => some ⟨10, 0, 50000⟩
  | 7 => some ⟨1, 20, 90⟩
  | 8 => some ⟨10, 100, 50000⟩
  | 9 => some ⟨1, 0, 5000⟩
  | 10 => some ⟨10, 0, 50000⟩
  | 11 => some ⟨10, 0, 80000⟩
  | 12 => some ⟨10, 0, 81910⟩
  | 13 => some ⟨10, 0, 81910⟩
  | 14 => some ⟨1, 0, 100⟩
  | 15 => some ⟨1, 0, 4000⟩
  | 16 => some ⟨1, 7, 62⟩
  | 17 => some ⟨1, 0, 6⟩
  | 18 => some ⟨10, 0, 81910⟩
  | 19 => some ⟨1, 4, 240⟩
  | 20 => some ⟨1, 0, 40⟩
  | 21 => some ⟨1, 10, 900⟩
  | 22 => some ⟨1, 0, 10⟩
  | 23 => some ⟨1, 0, 1⟩
  | 24 => some ⟨1, 20, 200⟩
  | 25 => some ⟨1, 50, 500⟩
  | 26 => some ⟨1, 0, 120⟩
  | n =>
    if 32 ≤ n ∧ n ≤ 40 then some ⟨1, 0, 7⟩
    else if 48 ≤ n ∧ n ≤ 59 then (if (n - 48) % 3 = 0 then some ⟨1, 0, 127⟩ else some ⟨1, 0, 143⟩)
    else none

/-- The kind of an action setting's index 32 + k. -/
def kindAt (k : Nat) : Kind :=
  match k with
  | 0 => .meterCase
  | 1 => .cover
  | 2 => .mag
  | 3 => .neutral
  | 4 => .vloss
  | 5 => .reverse
  | 6 => .bypass
  | 7 => .linkloss
  | _ => .probe

/-- Sets one field of a friendly window: weekday set, start, end. -/
def FriendlyWindow.setField (w : FriendlyWindow) (field v : Nat) : FriendlyWindow :=
  match field with
  | 0 => { w with days := v }
  | 1 => { w with start := v }
  | _ => { w with stop := v }

/-- Sets one field of friendly window `w`. -/
def PerWindow.setField (t : PerWindow FriendlyWindow) (w field v : Nat) : PerWindow FriendlyWindow :=
  match w with
  | 0 => { t with w0 := t.w0.setField field v }
  | 1 => { t with w1 := t.w1.setField field v }
  | 2 => { t with w2 := t.w2.setField field v }
  | _ => { t with w3 := t.w3.setField field v }

/-- Sets the parameter of an index of the table to a value in its units. -/
def Params.setAt (p : Params) (index v : Nat) : Params :=
  match index with
  | 1 => { p with vNom := v }
  | 2 => { p with dirPolicy := v }
  | 3 => { p with deemedW := v }
  | 4 => { p with t1 := v }
  | 5 => { p with t2 := v }
  | 6 => { p with neutralMarginMa := v }
  | 7 => { p with vlossPct := v }
  | 8 => { p with vlossMa := v }
  | 9 => { p with reverseW := v }
  | 10 => { p with eAllow := v }
  | 11 => { p with fAllow := v }
  | 12 => { p with lowThreshold := v }
  | 13 => { p with rearmThreshold := v }
  | 14 => { p with recoveryPct := v }
  | 15 => { p with ageLimit := v }
  | 16 => { p with cycleDays := v }
  | 17 => { p with commWeekday := v }
  | 18 => { p with loadLimit := v }
  | 19 => { p with olRecords := v }
  | 20 => { p with inrushRecords := v }
  | 21 => { p with recloseS := v }
  | 22 => { p with recloseMax := v }
  | 23 => { p with autoRecloseKeyless := v }
  | 24 => { p with coilMs := v }
  | 25 => { p with settleMs := v }
  | 26 => { p with deemedHoldMin := v }
  | n =>
    if 32 ≤ n ∧ n ≤ 40 then { p with actions := p.actions.set (kindAt (n - 32)) v }
    else if 48 ≤ n ∧ n ≤ 59 then { p with windows := p.windows.setField ((n - 48) / 3) ((n - 48) % 3) v }
    else p

/-! ### COMMISSION -/

/-- One parameter entry of a COMMISSION request: an index and a value in code steps. -/
structure ParamEntry where
  index : Nat
  steps : Nat
deriving DecidableEq, Repr

/-- The fields of a COMMISSION request (11 section 11.1). -/
structure CommissionRequest where
  meterId : Nat
  meterKey : BitVec 64
  keyRevision : Nat
  opening : Int
  minute : Nat
  weekday : Nat
  entries : List ParamEntry
deriving DecidableEq, Repr

/-- The entries in the bytes after the fixed fields, three bytes each. -/
def entriesOf : List Byte → List ParamEntry
  | i :: h :: l :: rest => ⟨i.toNat, natOf [h, l]⟩ :: entriesOf rest
  | _ => []

/-- Reads a COMMISSION payload (12 R181). -/
def commissionOf (payload : List Byte) : CommissionRequest where
  meterId := fieldAt payload 0 4
  meterKey := BitVec.ofNat 64 (fieldAt payload 4 8)
  keyRevision := fieldAt payload 12 1
  opening := signedOf 32 (fieldAt payload 13 4)
  minute := fieldAt payload 17 2
  weekday := fieldAt payload 19 1
  entries := entriesOf (payload.drop 20)

/-- An entry names a parameter of the table other than COMM_WEEKDAY, with a value in range (11 R172). -/
def ParamEntry.allowed (e : ParamEntry) : Bool :=
  match paramRow e.index with
  | some row => e.index != 17 && decide (row.lo ≤ e.steps * row.step) && decide (e.steps * row.step ≤ row.hi)
  | none => false

/-- No two entries name the same index (11 R172). -/
def distinctIndices : List ParamEntry → Bool
  | [] => true
  | e :: rest => !(rest.any fun f => f.index == e.index) && distinctIndices rest

/-- The parameters a request gives: the defaults, then its entries, and COMM_WEEKDAY from the weekday (11 R173). -/
def CommissionRequest.params (r : CommissionRequest) : Params :=
  let set := fun (p : Params) (e : ParamEntry) =>
    match paramRow e.index with
    | some row => p.setAt e.index (e.steps * row.step)
    | none => p
  { r.entries.foldl set Params.default with commWeekday := r.weekday }

/-- The floor L of the parameters as they stand (04 R55). -/
def floorOf (p : Params) : Int := -((p.eAllow + p.fAllow : Nat) : Int)

/-- The checks of 11 R172. -/
def CommissionRequest.allowed (r : CommissionRequest) : Bool :=
  decide (r.minute ≤ 1439) && decide (r.weekday ≤ 6) && decide (r.keyRevision ≤ 15)
    && r.entries.all ParamEntry.allowed && distinctIndices r.entries
    && decide (floorOf r.params ≤ r.opening) && decide (r.opening ≤ (maxCents : Int))

end Sys2Proof.Machine
end

