-- ==== Sys2Proof/Machine/Flags.lean ====
section
/-! DEFINITION. The flags and lines that are computed from the state and held nowhere: the position-unverified
flag (06 R107), the coil lines, ATTN (12 R184), a condition's and a kind's being in force (08 R143). -/

namespace Sys2Proof.Machine

/-- The position-unverified flag (06 R107). -/
def Sss.unverified (x : Sss) : Bool := x.verified == .unknown

/-- COIL_OPEN is driven: an opening's pulse is in progress (06 R108). -/
def State.coilOpen (s : State) : Bool := s.sss.phase == .pulse && s.sss.contactor == .opening

/-- COIL_CLOSE is driven: a closing's pulse is in progress (06 R110). -/
def State.coilClose (s : State) : Bool := s.sss.phase == .pulse && s.sss.contactor == .closing

/-- ATTN is driven low (12 R184). -/
def State.attn (s : State) : Bool := !s.hlc.queue.isEmpty && s.ps.power == .active && !s.pins.linkResetLow

/-- The host link is served: in SHELF and ACTIVE, while LINK_RESET is not held low (12 R177, R185). -/
def State.linkServed (s : State) : Bool :=
  (s.ps.power == .shelf || s.ps.power == .active) && !s.pins.linkResetLow

/-- A condition is in force (08 R143). -/
def Tm.condInForce (x : Tm) (c : CondId) : Bool :=
  (x.conds.get c).state == .active || (x.conds.get c).latch || (c == .mag && x.hold.isSome)

/-- A kind is in force while any of its conditions is (08 R143). -/
def Tm.kindInForce (x : Tm) (k : Kind) : Bool := allConds.any fun c => c.kind == k && x.condInForce c

/-- The actions of a setting (08 R142). -/
def opensIn (setting : Nat) : Bool := setting.testBit 0
def deemedIn (setting : Nat) : Bool := setting.testBit 1
def latchIn (setting : Nat) : Bool := setting.testBit 2

/-- The log is full (09 R160). -/
def Tl.isFull (x : Tl) : Bool := decide (64 ≤ x.records.length)

/-- A phase is verifiable in a record: its voltage is at least half of V_NOM (06 R111). -/
def verifiable (vNom : Nat) (r : IntervalRecord) (p : Phase) : Bool := decide (vNom * 10 ≤ r.v.get p * 2)

/-- Some phase is verifiable. -/
def anyVerifiable (vNom : Nat) (r : IntervalRecord) : Bool := allPhases.any (verifiable vNom r)

/-- LOADV is present on every verifiable phase. -/
def loadOnVerifiable (vNom : Nat) (r : IntervalRecord) (loadv : PerPhase Bool) : Bool :=
  allPhases.all fun p => !verifiable vNom r p || loadv.get p

/-- Some LOADV input is present. -/
def anyLoad (loadv : PerPhase Bool) : Bool := loadv.p1 || loadv.p2 || loadv.p3

end Sys2Proof.Machine
end

