-- ==== Sys2Proof/Machine/Switch.lean ====
section
/-! DEFINITION. The supply switch sequencer (06): the open-reason set, openings and closings, faults, position
checks, and the commands COIL_PULSE_END, PULSE_CLEARED, COIL_CUTOFF, SETTLE_END, WELD_RETRY_EXPIRY. -/

namespace Sys2Proof.Machine

/-- SSS raises a SUPPLY notice with its state and flag as they stand (06 R121). -/
def raiseSupply (s : State) : State := raise (.supply s.sss.contactor s.sss.unverified) s

/-- The start of an attempt's pulse: the attempt is counted, the position becomes unknown, the coil is driven
for COIL_MS and the monitor's 250 ms begin (06 R108, R110, R115). -/
def startPulse (s : State) : State :=
  s.setSss { s.sss with
    attempts := s.sss.attempts + 1
    verified := .unknown
    phase := .pulse
    phaseTimer := some s.params.coilMs
    cutoff := some 250
    openNext := false }

/-- An opening sequence starts (06 R108). In FAULT WELDED it stops the weld retry timer (06 R113). -/
def startOpening (limit : Nat) (s : State) : State :=
  startPulse (s.setSss { s.sss with contactor := .opening, attempts := 0, pulseLimit := limit, weldRetry := none })

/-- A closing attempt starts: with the set found occupied it is an opening sequence (06 R110, R112). -/
def closeAttempt (s : State) : State :=
  if s.sss.reasons.isEmpty then startPulse s else startOpening 3 s

/-- A closing sequence starts (06 R110). -/
def startClosing (s : State) : State :=
  closeAttempt (s.setSss { s.sss with contactor := .closing, attempts := 0, origin := .ordinary })

/-- The emptying origin closes the contactor without a separate key press (06 R109). -/
def closesAtOnce (s : State) : Bool :=
  match s.sss.origin with
  | .acceptingPress => true
  | .restorePress => true
  | .autoReclose => s.params.autoRecloseKeyless == 1
  | .ordinary => false

/-- The set has been found empty with the contacts open: ARMED, passed through or at rest (06 R109). At rest the
emptying origin is none (06 R118, log 28). -/
def becomeArmed (s : State) : State :=
  let armed := s.setSss { s.sss with contactor := .armed }
  if closesAtOnce s then startClosing armed
  else raiseSupply (armed.setSss { armed.sss with origin := .ordinary })

/-- SSS acts on an addition from the contactor state as it stands (06 R106, R108, R109, R113, R114). -/
def actOnAddition (s : State) : State :=
  match s.sss.contactor with
  | .closed => startOpening 3 s
  | .armed => raiseSupply (s.setSss { s.sss with contactor := .opened })
  | .fault .welded => startOpening 3 s
  | .fault .noClose => startOpening 3 s
  | .fault .driver => s
  | .opening => s
  | .opened => s
  | .closing => s

/-- SSS acts on a removal that has emptied the set (06 R109, R112, R113, R117). -/
def actOnEmptied (s : State) : State :=
  match s.sss.contactor with
  | .opened => becomeArmed s
  | .armed => if closesAtOnce s then startClosing s else s
  | .closed => s
  | .opening => s
  | .closing => s
  | .fault _ => s

/-- An owner asks for a reason to be added (06 R105). Outside ACTIVE the change is recorded alone (06 R106). -/
def addReason (r : Reason) (s : State) : State :=
  if s.sss.reasons.get r then s
  else
    let added := s.setSss { s.sss with reasons := s.sss.reasons.set r true, origin := .ordinary }
    if s.ps.power = .active then actOnAddition added else added

/-- An owner asks for a reason to be removed, with its origin (06 R105, R106). During a closing the origin stays as
it is, none: a removal then changes the set and nothing else (06 R112). -/
def removeReason (r : Reason) (origin : Origin) (s : State) : State :=
  if s.sss.reasons.get r then
    let left := s.sss.reasons.set r false
    if left.isEmpty then
      let kept := if s.sss.contactor = .closing then s.sss.origin else origin
      let emptied := s.setSss { s.sss with reasons := left, origin := kept }
      if s.ps.power = .active then actOnEmptied emptied else emptied
    else s.setSss { s.sss with reasons := left }
  else s

/-- CL's indication of an accepted emergency press that removed no reason (06 R117). -/
def acceptedPress (s : State) : State :=
  match s.sss.contactor with
  | .armed => startClosing s
  | .opening => if s.sss.reasons.isEmpty then s.setSss { s.sss with origin := .acceptingPress } else s
  | .closed => s
  | .opened => s
  | .closing => s
  | .fault _ => s

/-- The sequence is over: no attempt, no coil activity. -/
def Sss.endSequence (x : Sss) : Sss :=
  { x with attempts := 0, phase := .idle, phaseTimer := none, cutoff := none, openNext := false }

/-- An opening has succeeded (06 R108, R109). -/
def openingDone (s : State) : State :=
  let done := raiseSupply (s.setSss { s.sss.endSequence with verified := .opened, contactor := .opened })
  if done.sss.reasons.isEmpty then becomeArmed done else done

/-- FAULT WELDED is entered (06 R113). -/
def faultWelded (s : State) : State :=
  raise (.contactorFault .welded s.sss.attempts s.pins.loadv .none)
    (s.setSss { s.sss.endSequence with
      verified := .unknown, contactor := .fault .welded, weldRetry := secondsTimer 900 })

/-- FAULT NO_CLOSE is entered (06 R114). -/
def faultNoClose (s : State) : State :=
  raise (.contactorFault .noClose s.sss.attempts s.pins.loadv .none)
    (s.setSss { s.sss.endSequence with verified := .unknown, contactor := .fault .noClose })

/-- The verification of an opening at the end of its settle (06 R108). -/
def verifyOpening (s : State) : State :=
  if anyLoad s.pins.loadv then
    if s.sss.attempts < s.sss.pulseLimit then startPulse s else faultWelded s
  else openingDone s

/-- A closing ends in CLOSED, verified or not, with a SUPPLY notice (06 R111). -/
def closingDone (position : Position) (s : State) : State :=
  raiseSupply (s.setSss { s.sss.endSequence with verified := position, contactor := .closed })

/-- The latest record shows some verifiable phase (06 R111). -/
def latestVerifiable (s : State) : Bool :=
  match s.mli.latest with
  | some r => anyVerifiable s.params.vNom r
  | none => false

/-- LOADV is present on every verifiable phase of the latest record (06 R111). -/
def latestConfirms (s : State) : Bool :=
  match s.mli.latest with
  | some r => loadOnVerifiable s.params.vNom r s.pins.loadv
  | none => false

/-- The verification of a closing at the end of its settle (06 R111, R112). -/
def verifyClosing (s : State) : State :=
  if !s.sss.reasons.isEmpty then startOpening 3 s
  else if !latestVerifiable s then closingDone .unknown s
  else if latestConfirms s then verifiedClose (closingDone .closed s)
  else if s.sss.attempts < 3 then closeAttempt s
  else faultNoClose s

/-- A position check is due on a record (06 R118). -/
def checkDue (r : IntervalRecord) (s : State) : Bool :=
  s.sss.unverified && anyVerifiable s.params.vNom r
    && (s.sss.contactor == .closed || s.sss.contactor == .opened || s.sss.contactor == .armed)

/-- A position check on a taken record with the LOADV inputs as they stand (06 R118). -/
def positionCheck (r : IntervalRecord) (s : State) : State :=
  if checkDue r s then
    if s.sss.contactor = .closed then
      if loadOnVerifiable s.params.vNom r s.pins.loadv then
        raiseSupply (verifiedClose (s.setSss { s.sss with verified := .closed }))
      else if s.sss.reasons.isEmpty then startClosing s
      else s
    else if anyLoad s.pins.loadv then startOpening 1 s
    else raiseSupply (s.setSss { s.sss with verified := .opened })
  else s

/-- The end a sequence is commanded towards; a resting state is its own (06 R119). -/
def Contactor.commandedEnd : Contactor → Contactor
  | .opening => .opened
  | .closing => .closed
  | c => c

/-- A sequence ends at its commanded end, with the position unknown (06 R119). DEDUCED (log 46): no SUPPLY notice
is raised for it, not even for a closing that ends at CLOSED here. -/
def Sss.abandon (x : Sss) : Sss :=
  { x.endSequence with contactor := x.contactor.commandedEnd, verified := .unknown }

/-- SSS at the entry to HOLDUP: a pulse in progress runs on, a settle is abandoned, a resting state is kept
(06 R119). -/
def Sss.enterHoldup (x : Sss) : Sss :=
  match x.phase with
  | .pulse => { x with verified := .unknown }
  | .clearance => { x with verified := .unknown }
  | .settle => x.abandon
  | .idle => { x with verified := .unknown }

/-- SSS acts on the set as it stands at an entry to ACTIVE (06 R120). -/
def actOnEntry (s : State) : State :=
  match s.sss.contactor with
  | .closed => if s.sss.reasons.isEmpty then s else startOpening 3 s
  | .opened => if s.sss.reasons.isEmpty then becomeArmed s else s
  | .armed => if s.sss.reasons.isEmpty then s else raiseSupply (s.setSss { s.sss with contactor := .opened })
  | .fault .welded => if s.sss.reasons.isEmpty then s else startOpening 3 s
  | .fault .noClose => if s.sss.reasons.isEmpty then s else startOpening 3 s
  | .fault .driver => s
  | .opening => s
  | .closing => s

/-- SSS at an entry to ACTIVE (06 R120). -/
def enterActiveSss (s : State) : State := actOnEntry (s.setSss { s.sss with verified := .unknown })

/-! ### Commands -/

/-- COIL_MS has run out: the coil is released, and in ACTIVE the set is read for a close pulse (06 R112). -/
def coilPulseEnd (s : State) : State :=
  if s.sss.phase = .pulse ∧ timerDue s.sss.phaseTimer then
    s.setSss { s.sss with
      phase := .clearance
      phaseTimer := none
      openNext := s.sss.contactor == .closing && s.ps.power == .active && !s.sss.reasons.isEmpty }
  else s

/-- COIL_PULSE_END (06 R112). -/
def execCoilPulseEnd (s : State) : Host.Outcome State Fault Refusal := .next (coilPulseEnd s)

/-- The monitor has cleared the pulse: the settle starts, or the opening a reason called for; outside ACTIVE the
sequence ends at its commanded end (06 R112, R115, R119). -/
def pulseCleared (s : State) : State :=
  if s.sss.phase = .clearance then
    let quiet := s.setPins { s.pins with coilSense := false }
    if s.ps.power = .active then
      if s.sss.openNext then startOpening 3 quiet
      else quiet.setSss { s.sss with phase := .settle, phaseTimer := some s.params.settleMs, cutoff := none }
    else quiet.setSss s.sss.abandon
  else s

/-- PULSE_CLEARED (06 R115). -/
def execPulseCleared (s : State) : Host.Outcome State Fault Refusal := .next (pulseCleared s)

/-- The coil a sequence drives. -/
def Contactor.coil : Contactor → Coil
  | .opening => .open
  | .closing => .close
  | .closed => .none
  | .opened => .none
  | .armed => .none
  | .fault _ => .none

/-- Coil current persists 250 ms after the pulse began: the driver is disabled and the state is FAULT DRIVER (06 R115).
Its notice carries the pulses made and the LOADV inputs as every CONTACTOR_FAULT does (12 R182). DESIGN CHOICE (log 15):
those inputs are the levels last seen. -/
def coilCutoff (s : State) : State :=
  if timerDue s.sss.cutoff ∧ (s.sss.phase = .pulse ∨ s.sss.phase = .clearance) then
    raise (.contactorFault .driver s.sss.attempts s.pins.loadv s.sss.contactor.coil)
      ((s.setPins { s.pins with coilSense := true }).setSss
        { s.sss.endSequence with verified := .unknown, contactor := .fault .driver, coilEnable := false })
  else s

/-- COIL_CUTOFF (06 R115). -/
def execCoilCutoff (s : State) : Host.Outcome State Fault Refusal := .next (coilCutoff s)

/-- SETTLE_MS has run out in ACTIVE: the opening or the closing is verified (06 R108, R111, R112). -/
def settleEnd (loadv : PerPhase Bool) (s : State) : State :=
  if s.ps.power = .active ∧ s.sss.phase = .settle ∧ timerDue s.sss.phaseTimer then
    let settled := (s.setPins { s.pins with loadv := loadv }).setSss { s.sss with phase := .idle, phaseTimer := none }
    if s.sss.contactor = .opening then verifyOpening settled
    else if s.sss.contactor = .closing then verifyClosing settled
    else settled
  else s

/-- SETTLE_END (06 R111). -/
def execSettleEnd (loadv : PerPhase Bool) (s : State) : Host.Outcome State Fault Refusal := .next (settleEnd loadv s)

/-- The weld retry timer has run out in FAULT WELDED (06 R113). -/
def weldRetryExpiry (s : State) : State :=
  if s.ps.power = .active ∧ s.sss.contactor = .fault .welded ∧ timerDue s.sss.weldRetry then
    if s.sss.reasons.isEmpty then s.setSss { s.sss with weldRetry := secondsTimer 900 } else startOpening 3 s
  else s

/-- WELD_RETRY_EXPIRY (06 R113). -/
def execWeldRetryExpiry (s : State) : Host.Outcome State Fault Refusal := .next (weldRetryExpiry s)

end Sys2Proof.Machine
end

