-- ==== Sys2Proof/Machine/Ledger.lean ====
section
/-! DEFINITION. The credit ledger (04): recomputation and the CREDIT reason, charges and debits, debt, top-ups,
allowance changes and accepted emergency credit. -/

namespace Sys2Proof.Machine

def State.acct (s : State) : Account := s.cl.acct

def State.setAcct (s : State) (a : Account) : State := s.setCl { s.cl with acct := a }

/-! ### Recomputation (04 section 4.6) -/

/-- The first two steps of a recomputation (04 R66). -/
def Account.withFlags (a : Account) (p : Params) : Account :=
  let accepted := a.accepted && decide (a.balance ≤ 0)
  { a with
    accepted := accepted
    available :=
      if p.eAllow = 0 then false
      else a.available || (!accepted && decide ((p.rearmThreshold : Int) ≤ a.balance)) }

/-- The credit state of the table of 04 R67. -/
def creditStateOf (p : Params) (a : Account) : CreditState :=
  if a.balance = floorOf p ∧ floorOf p < 0 then .floor
  else if (p.lowThreshold : Int) < a.balance then .inCredit
  else if 0 < a.balance then .low
  else if a.accepted = true ∧ -(p.eAllow : Int) < a.balance then .emergency
  else if a.accepted = false ∧ a.available = true then .offer
  else .exhausted

/-- The credit state and the friendly state ask for CREDIT (04 R71). -/
def wantsCredit (c : CreditState) (friendly : Bool) : Bool :=
  match c with
  | .floor => true
  | .offer => !friendly
  | .exhausted => !friendly
  | .inCredit => false
  | .low => false
  | .emergency => false

def State.holdCredit (s : State) (x : Bool) : State := s.setCl { s.cl with creditHeld := x }

/-- CL decides the CREDIT reason; a removal bears the origin given (04 R71). -/
def decideCredit (origin : Origin) (s : State) : State :=
  if wantsCredit s.acct.state s.tc.friendly then
    if s.cl.creditHeld then s else addReason .credit (s.holdCredit true)
  else
    if s.cl.creditHeld then removeReason .credit origin (s.holdCredit false) else s

/-- The third step of a recomputation: a changed credit state is held and noticed (04 R66). -/
def holdCreditState (s : State) : State :=
  let c := creditStateOf s.params s.acct
  if c = s.acct.state then s else raise (.credit c) (s.setAcct { s.acct with state := c })

/-- CL recomputes (04 R66). -/
def recompute (origin : Origin) (s : State) : State :=
  decideCredit origin (holdCreditState (s.setAcct (s.acct.withFlags s.params)))

/-! ### Debt, debits and charges (04 sections 4.1 and 4.2) -/

/-- An addition of x cents to debt, with its saturation loss (04 R58). -/
def addDebt (cause : DebtCause) (x : Nat) (s : State) : State :=
  if s.acct.debt + x ≤ maxCents then s.setAcct { s.acct with debt := s.acct.debt + x }
  else
    let full := s.setAcct { s.acct with debt := maxCents, satNoted := true }
    if s.acct.satNoted then full else raise (.debtSaturated cause (s.acct.debt + x - maxCents)) full

/-- What a debit of c cents does to the account before its cut part reaches debt (04 R57, R59). -/
def Account.debited (a : Account) (floor : Int) (c : Nat) : Account :=
  if floor ≤ a.balance - c then
    { a with balance := a.balance - c, crCharged := satAdd max48 a.crCharged c }
  else
    { a with
      balance := floor
      crCharged := satAdd max48 a.crCharged (a.balance - floor).toNat
      crDeferred := satAdd max48 a.crDeferred (c - (a.balance - floor).toNat) }

/-- The cut part of a debit of c cents (04 R57). -/
def Account.cutPart (a : Account) (floor : Int) (c : Nat) : Nat :=
  if floor ≤ a.balance - c then 0 else c - (a.balance - floor).toNat

/-- A debit of c cents (04 R57). -/
def debit (c : Nat) (s : State) : State :=
  recompute .ordinary
    (addDebt .debitCut (s.acct.cutPart (floorOf s.params) c) (s.setAcct (s.acct.debited (floorOf s.params) c)))

/-- CL takes a charge from BE (04 R56, 02 R29). -/
def charge (cost : Nat) (s : State) : State :=
  let c := (s.acct.residue + cost) / 1000000
  let kept := s.setAcct { s.acct with residue := (s.acct.residue + cost) % 1000000 }
  if c = 0 then kept else debit c kept

/-! ### Top-ups, additions to debt, allowances (04 sections 4.4 and 4.5) -/

/-- The recovery part q of a top-up (04 R61). -/
def recoveryPart (p : Params) (a : Account) (cents : Nat) : Nat := min a.debt (cents * p.recoveryPct / 100)

/-- The account after a top-up that is applied (04 R61). -/
def Account.toppedUp (a : Account) (p : Params) (cents : Nat) : Account :=
  let q := recoveryPart p a cents
  { a with
    balance := a.balance + ((cents - q : Nat) : Int)
    debt := a.debt - q
    satNoted := if a.debt - q < maxCents then false else a.satNoted
    crIn := satAdd max48 a.crIn cents
    crRecovered := satAdd max48 a.crRecovered q }

/-- The top-up would pass the greatest balance (04 R61). -/
def topUpRefused (cents : Nat) (s : State) : Bool :=
  decide ((maxCents : Int) < s.acct.balance + ((cents - recoveryPart s.params s.acct cents : Nat) : Int))

/-- A top-up that is not refused (04 R61). -/
def topUp (cents : Nat) (s : State) : State := recompute .ordinary (s.setAcct (s.acct.toppedUp s.params cents))

/-- The cents of a DEBT_ADD code that debt can hold (04 R63). -/
def debtPlaced (cents : Nat) (s : State) : Nat := min cents (maxCents - s.acct.debt)

/-- A balance below the floor is raised to it, the difference going to debt (04 R64). -/
def raiseToFloor (s : State) : State :=
  let l := floorOf s.params
  if s.acct.balance < l then
    let d := (l - s.acct.balance).toNat
    addDebt .allowanceRaise d
      (s.setAcct { s.acct with
        balance := l
        crRaised := satAdd max48 s.acct.crRaised d
        crDeferred := satAdd max48 s.acct.crDeferred d })
  else s

/-- A raise of E_ALLOW from 0 makes emergency credit available (04 R65). -/
def offerOnRaise (before : Nat) (s : State) : State :=
  if before = 0 ∧ 0 < s.params.eAllow ∧ s.acct.accepted = false then
    s.setAcct { s.acct with available := true }
  else s

/-- A SET_CONFIG code has given E_ALLOW or F_ALLOW a value (04 R64, R65). -/
def changeAllowance (params : Params) (s : State) : State :=
  recompute .ordinary (raiseToFloor (offerOnRaise s.params.eAllow (s.setParams params)))

/-! ### Emergency credit (04 R70) -/

/-- ACCEPT_EMERGENCY is taken in OFFER alone. -/
def emergencyOffered (s : State) : Bool := s.acct.state == .offer

/-- An ACCEPT_EMERGENCY press that is taken (04 R70). -/
def takeEmergency (s : State) : State :=
  let done := recompute .acceptingPress (s.setAcct { s.acct with accepted := true, available := false })
  if s.cl.creditHeld then done else acceptedPress done

/-- The ledger a COMMISSION leaves, before its recomputation (04 R75). -/
def Account.commissioned (p : Params) (opening : Int) : Account :=
  { Cl.manufacture.acct with balance := opening, opening := opening, available := decide (0 < p.eAllow) }

end Sys2Proof.Machine
end

