-- ==== Sys2Proof/Machine/Calendar.lean ====
section
/-! DEFINITION. The tariff calendar (03): quantities derived from the clock, the evaluation of R45, trims and
settings, and the commands TC_EDGE_EVALUATION and CLOCK_ADVANCE. -/

namespace Sys2Proof.Machine

/-! ### Quantities derived from the clock (03 R39) -/

def dayOf (clock : Nat) : Nat := clock / 86400
def secondOfDay (clock : Nat) : Nat := clock % 86400
def minuteOfDay (clock : Nat) : Nat := secondOfDay clock / 60
def stepOf (clock : Nat) : Nat := secondOfDay clock / 600
def weekdayOf (p : Params) (clock : Nat) : Nat := (dayOf clock + p.commWeekday) % 7

/-! ### The band and the friendly state (03 R48 to R50) -/

/-- The point with the greatest start at or before a step, else the last point; points are in order of start
(03 R48). -/
def bandAt (points : List SwitchPoint) (step : Nat) : Band :=
  match (points.filter fun x => decide (x.start ≤ step)).getLast?, points.getLast? with
  | some x, _ => x.band
  | none, some y => y.band
  | none, none => 0

def Schedule.profile (x : Schedule) : ProfileId → List SwitchPoint
  | .a => x.profileA
  | .b => x.profileB

/-- The band in force (03 R48). -/
def bandInForce (p : Params) (x : Schedule) (valid : Bool) : Band :=
  if valid then bandAt (x.profile (x.weekMap.getD (weekdayOf p x.clock) .a)) (stepOf x.clock) else 0

/-- A window is in force at a weekday and step (03 R49). -/
def FriendlyWindow.inForce (w : FriendlyWindow) (weekday step : Nat) : Bool :=
  if w.start = w.stop then false
  else if w.start < w.stop then w.days.testBit weekday && decide (w.start ≤ step) && decide (step < w.stop)
  else
    (w.days.testBit weekday && decide (w.start ≤ step))
      || (w.days.testBit ((weekday + 6) % 7) && decide (step < w.stop))

/-- The friendly state that the clock and the windows give (03 R50). -/
def friendlyNow (p : Params) (x : Schedule) (valid : Bool) : Bool :=
  let d := weekdayOf p x.clock
  let k := stepOf x.clock
  valid && (p.windows.w0.inForce d k || p.windows.w1.inForce d k || p.windows.w2.inForce d k
    || p.windows.w3.inForce d k)

/-! ### Evaluation (03 R45) -/

/-- The allowance comparison (03 R41). -/
def Tc.compareAllowance (x : Tc) : Tc :=
  if x.allowanceDay < dayOf x.sched.clock then { x with trimUsed := 0, allowanceDay := dayOf x.sched.clock } else x

/-- A changed friendly state is held, and CL decides the CREDIT reason (03 R50, 04 R71). -/
def friendlyEdge (s : State) : State :=
  let now := friendlyNow s.params s.tc.sched s.tc.clockValid
  if now = s.tc.friendly then s else decideCredit .ordinary (s.setTc { s.tc with friendly := now })

/-- The cycle rule (03 R51). -/
def rollCycle (s : State) : State :=
  let index := dayOf s.clock / s.params.cycleDays
  if s.tc.clockValid ∧ s.tc.sched.cycleIndex < index then
    (s.setTc { s.tc with sched := { s.tc.sched with cycleIndex := index } }).setBe
      { s.be with reg := { s.be.reg with cycleWh := 0 } }
  else s

/-- The allowance day and the band of an evaluation. -/
def compareAndBand (s : State) : State :=
  let compared := s.tc.compareAllowance
  s.setTc { compared with band := bandInForce s.params compared.sched compared.clockValid }

/-- TC evaluates its results (03 R45). -/
def evaluateCalendar (s : State) : State := rollCycle (friendlyEdge (compareAndBand s))

/-! ### Trims and settings (03 sections 3.2 and 3.3) -/

/-- The remaining allowance (03 R41). -/
def Tc.remaining (x : Tc) : Nat := 120 - x.trimUsed

/-- The amount of a trim that is applied, the allowance comparison having been made (03 R42). -/
def Tc.trimAmount (x : Tc) (d : Int) : Int :=
  let r : Int := x.remaining
  let limited := clampInt (-r) r (clampInt (-30) 30 d)
  clampInt (-(x.sched.clock : Int)) ((maxClock : Int) - (x.sched.clock : Int)) limited

/-- The clock after a trim, before its evaluation (03 R42). -/
def Tc.trimmed (x : Tc) (d : Int) : Tc :=
  { x with
    trimUsed := x.trimUsed + (x.trimAmount d).natAbs
    sched := { x.sched with clock := ((x.sched.clock : Int) + x.trimAmount d).toNat } }

/-- A trim of d seconds (03 R42). -/
def trimClock (d : Int) (s : State) : State := evaluateCalendar (s.setTc (s.tc.compareAllowance.trimmed d))

/-- An applied SET_CLOCK code (03 R43). -/
def setClock (day minute second : Nat) (s : State) : State :=
  let now := day * 86400 + minute * 60 + second
  let set := s.setTc { s.tc with
    sched := { s.tc.sched with clock := now }
    phase := 0
    clockValid := true
    trimUsed := 0
    allowanceDay := day }
  raise (.clockSet s.clock) (evaluateCalendar set)

/-- A changed CYCLE_DAYS re-bases the stored index; a value that changes nothing does not (03 R52, log 30). -/
def rebaseCycle (before : Nat) (s : State) : State :=
  if before = s.params.cycleDays then s
  else s.setTc { s.tc with sched := { s.tc.sched with cycleIndex := dayOf s.clock / s.params.cycleDays } }

/-! ### Commands -/

/-- One second in units of the sub-second phase: 32,768 periods of 125 (log 12). -/
def phaseSecond : Nat := 4096000

/-- The clock runs (03 R39). -/
def clockRuns (s : State) : Bool := s.ps.power == .active || s.ps.power == .holdup

/-- The sub-second phase has completed a second (03 R39). -/
def clockAdvance (s : State) : State :=
  if clockRuns s ∧ phaseSecond ≤ s.tc.phase then
    s.setTc { s.tc with
      phase := s.tc.phase - phaseSecond
      sched := { s.tc.sched with clock := min maxClock (s.clock + 1) } }
  else s

/-- CLOCK_ADVANCE (03 R39). -/
def execClockAdvance (s : State) : Host.Outcome State Fault Refusal := .next (clockAdvance s)

/-- The advancing clock has reached a step edge, of which a day edge is one (03 R39, R45). -/
def tcEdgeEvaluation (s : State) : State :=
  if s.ps.power = .active ∧ s.clock % 600 = 0 then evaluateCalendar s else s

/-- TC_EDGE_EVALUATION (03 R45). -/
def execTcEdgeEvaluation (s : State) : Host.Outcome State Fault Refusal := .next (tcEdgeEvaluation s)

end Sys2Proof.Machine
end

