-- ==== Sys2Proof/Machine/Limiter.lean ====
section
/-! DEFINITION. The load limiter (07): the limit in force, the comparison of records, trips and recloses, and the
commands RECLOSE_TIMER_EXPIRY and RECLOSE_WINDOW_EXPIRY. -/

namespace Sys2Proof.Machine

/-- The lower of the two limits that are above 0; 0 when no limit is in force (07 R123). -/
def limitInForce (permanent temporary : Nat) : Nat :=
  if permanent = 0 then temporary
  else if temporary = 0 then permanent
  else min permanent temporary

/-- The limit in force now. -/
def State.limit (s : State) : Nat := limitInForce s.params.loadLimit s.ll.tempLimit

/-- A temporary limit lapses when the clock is at or past its expiry (07 R124). -/
def lapseTest (s : State) : State :=
  if s.ll.tempExpiry ≤ s.clock then s.setLl { s.ll with tempLimit := 0 } else s

/-- A TEMP_LIMIT code's limit and hours (07 R124). -/
def applyTempLimit (limit hours : Nat) (s : State) : State :=
  if limit = 0 then s.setLl { s.ll with tempLimit := 0 }
  else s.setLl { s.ll with tempLimit := limit, tempExpiry := satAdd maxClock s.clock (hours * 3600) }

/-- The limiter trips (07 R127). -/
def trip (s : State) : State :=
  let stopped := s.setLl { s.ll with overload := 0, watch := .off, window := none }
  let added := addReason .overload stopped
  let waiting := added.setLl { added.ll with reclose := .wait, recloseTimer := secondsTimer added.params.recloseS }
  raise (.overload false waiting.limit waiting.ll.recloseCount) waiting

/-- A record's billed power is compared with the limit in force (07 R125, R127). -/
def compareLoad (power : Nat) (s : State) : State :=
  if s.limit ≠ 0 ∧ s.limit < power then
    let counted := s.setLl { s.ll with overload := s.ll.overload + 1 }
    if s.params.olRecords ≤ s.ll.overload + 1 then trip counted else counted
  else s.setLl { s.ll with overload := 0 }

/-- LL acts on an offered record by its watch state, the contactor being CLOSED (07 R125). -/
def watchLoad (power : Nat) (s : State) : State :=
  match s.ll.watch with
  | .off => s
  | .blanking =>
    s.setLl { s.ll with
      blanking := s.ll.blanking - 1
      watch := if s.ll.blanking - 1 = 0 then .watching else .blanking }
  | .watching => compareLoad power s

/-- LL takes a record's interval billed power (07 R125). -/
def offerLoad (power : Nat) (s : State) : State :=
  let tested := lapseTest s
  if tested.sss.contactor = .closed then watchLoad power tested
  else tested.setLl { tested.ll with watch := .off, overload := 0, window := none }

/-- LL clears its lockout at SSS's request (07 R129). -/
def clearLockout (s : State) : State :=
  removeReason .overload .restorePress (s.setLl { s.ll with reclose := .rest })

/-- LL at a departure from ACTIVE (07 R131 and the table of R132). -/
def Ll.depart (x : Ll) : Ll := { x with watch := .off, blanking := 0, overload := 0, window := none }

/-! ### Commands -/

/-- The reclose timer has run out: an automatic reclose, or lockout (07 R128). -/
def recloseTimerExpiry (s : State) : State :=
  if s.ps.power = .active ∧ s.ll.reclose = .wait ∧ timerDue s.ll.recloseTimer then
    if s.ll.recloseCount < s.params.recloseMax then
      removeReason .overload .autoReclose
        (s.setLl { s.ll with recloseTimer := none, recloseCount := s.ll.recloseCount + 1, reclose := .rest })
    else
      let locked := s.setLl { s.ll with recloseTimer := none, reclose := .lockout }
      raise (.overload true locked.limit locked.ll.recloseCount) locked
  else s

/-- RECLOSE_TIMER_EXPIRY (07 R128). -/
def execRecloseTimerExpiry (s : State) : Host.Outcome State Fault Refusal := .next (recloseTimerExpiry s)

/-- The reclose window timer has run out (07 R130). -/
def recloseWindowExpiry (s : State) : State :=
  if s.ps.power = .active ∧ timerDue s.ll.window then
    s.setLl { s.ll with
      window := none
      recloseCount := if s.sss.contactor = .closed then 0 else s.ll.recloseCount }
  else s

/-- RECLOSE_WINDOW_EXPIRY (07 R130). -/
def execRecloseWindowExpiry (s : State) : Host.Outcome State Fault Refusal := .next (recloseWindowExpiry s)

end Sys2Proof.Machine
end

