-- ==== Sys2Proof/Machine/Log.lean ====
section
/-! DEFINITION. The tamper log (09): opening, updating, closing and clearing records. -/

namespace Sys2Proof.Machine

/-- The measure that is kept when two are compared: the most negative power for REVERSE, else the largest
(09 R155). LINKLOSS saturates at 65,535 s. -/
def worseMeasure (k : Kind) (new held : Int) : Bool :=
  match k with
  | .reverse => decide (new < held)
  | .meterCase => decide (held < new)
  | .cover => decide (held < new)
  | .mag => decide (held < new)
  | .neutral => decide (held < new)
  | .vloss => decide (held < new)
  | .bypass => decide (held < new)
  | .linkloss => decide (held < new)
  | .probe => decide (held < new)

/-- TL has room for a record (09 R154). -/
def Tl.hasRoom (x : Tl) : Bool := decide (x.records.length < 64) && !x.usedUp

/-- A record appended with the next serial (09 R154). -/
def Tl.append (x : Tl) (cond : CondId) (start : Nat) (inHoldup clockValid : Bool) (actions : Actions)
    (measure : Option Int) : Tl :=
  { x with
    records := x.records ++ [⟨x.nextSerial, cond, start, none, inHoldup, clockValid, actions, measure⟩]
    nextSerial := if x.nextSerial = 4294967295 then x.nextSerial else x.nextSerial + 1
    usedUp := x.nextSerial == 4294967295 }

/-- TM asks TL to open a record; TL answers with its serial or UNRECORDED (09 R154). -/
def logOpen (cond : CondId) (inHoldup : Bool) (actions : Actions) (measure : Option Int) (s : State) :
    State × Ongoing :=
  if s.tl.hasRoom then
    (s.setTl (s.tl.append cond s.clock inHoldup s.tc.clockValid actions measure), .serial s.tl.nextSerial)
  else
    let counted := s.setTl { s.tl with
      unrecorded := s.tl.unrecorded.set cond.kind (satAdd 65535 (s.tl.unrecorded.get cond.kind) 1) }
    if s.tl.isFull && !s.tl.fullNoticed then
      (raise (.logFull cond) (counted.setTl { counted.tl with fullNoticed := true }), .unrecorded)
    else (counted, .unrecorded)

/-- A measure replaces the extreme of an ongoing record when it is worse (09 R155). -/
def TamperRecord.measured (r : TamperRecord) (measure : Int) : TamperRecord :=
  match r.extreme with
  | some held => if worseMeasure r.cond.kind measure held then { r with extreme := some measure } else r
  | none => r

/-- TM hands TL a measure for a record; a closed record and no record discard it (09 R155). -/
def Tl.measure (x : Tl) (record : Ongoing) (m : Int) : Tl :=
  match record with
  | .serial n =>
    { x with records := x.records.map fun r => if r.serial = n ∧ r.stop = none then r.measured m else r }
  | .unrecorded => x
  | .none => x

/-- The state in which TL finds the record of a serial (09 R156): OPEN while it has no end time. -/
inductive Found where
  | opened
  | closed
  | absent
deriving DecidableEq, Repr

/-- TL's answer to a query for a serial; nothing changes (09 R156). -/
def Tl.query (x : Tl) (serial : Nat) : Found :=
  if x.records.any fun r => r.serial == serial && r.stop.isNone then .opened
  else if x.records.any fun r => r.serial == serial then .closed
  else .absent

/-- A close request for a serial: the end time is written into the ongoing record of that serial, if there is one,
and TL answers with the state in which it found the record (09 R156). -/
def Tl.close (x : Tl) (serial stop : Nat) : Tl × Found :=
  ({ x with
      records := x.records.map fun r =>
        if r.serial = serial ∧ r.stop = none then { r with stop := some stop } else r },
    x.query serial)

/-- The end of an occurrence: without a serial nothing is asked of TL (08 R141, 09 R156). TM does not act on TL's
answer. -/
def Tl.endOccurrence (x : Tl) (record : Ongoing) (stop : Nat) : Tl :=
  match record with
  | .serial n => (x.close n stop).1
  | .unrecorded => x
  | .none => x

/-- Every ongoing record that is not kept is closed (08 R150, R151, 10 R169). -/
def Tl.closeUnclaimed (x : Tl) (claimed : Nat → Bool) (stop : Nat) : Tl :=
  { x with
    records := x.records.map fun r =>
      if r.stop = none ∧ claimed r.serial = false then { r with stop := some stop } else r }

/-- A record is removed by a clear: its kind is in the mask and its end lies below the cutoff (09 R158). -/
def TamperRecord.clearedBy (r : TamperRecord) (mask : PerKind Bool) (cutoff : Int) : Bool :=
  mask.get r.cond.kind &&
    match r.stop with
    | some t => decide ((t : Int) < cutoff)
    | none => false

/-- The unrecorded counts of the kinds in a mask at 0, the others kept (09 R158). -/
def zeroMasked (mask : PerKind Bool) (counts : PerKind Nat) : PerKind Nat :=
  let keep := fun (k : Kind) => if mask.get k then 0 else counts.get k
  ⟨keep .meterCase, keep .cover, keep .mag, keep .neutral, keep .vloss, keep .reverse, keep .bypass, keep .linkloss,
    keep .probe⟩

/-- The records a clear keeps. -/
def Tl.kept (x : Tl) (mask : PerKind Bool) (cutoff : Int) : List TamperRecord :=
  x.records.filter fun r => !r.clearedBy mask cutoff

/-- TL applies a CLEAR_TAMPER code and answers with the records removed (09 R158). -/
def Tl.clear (x : Tl) (mask : PerKind Bool) (cutoff : Int) : Tl × Nat :=
  let removed := x.records.length - (x.kept mask cutoff).length
  ({ x with
      records := x.kept mask cutoff
      unrecorded :=
        if removed ≠ 0 ∨ x.records.length < 64 then zeroMasked mask x.unrecorded else x.unrecorded
      fullNoticed := if (x.kept mask cutoff).length < 64 then false else x.fullNoticed },
    removed)

end Sys2Proof.Machine
end

