-- ==== Sys2Proof/Machine/Tamper.lean ====
section
/-! DEFINITION. The tamper monitor (08): starts, ends, the evaluation of the TAMPER reason and the flags, the
filters, latch clearing, and the commands SENSOR_INPUT_CHANGE, SENSOR_FILTER_EXPIRY, DEEMED_HOLD_EXPIRY,
LINKLOSS_MEASURE and HOLDUP_SAMPLE. -/

namespace Sys2Proof.Machine

/-! ### Evaluation, starts and ends -/

/-- Some kind in force has an action in its setting. -/
def anyInForceWith (s : State) (action : Nat → Bool) : Bool :=
  allKinds.any fun k => action (s.params.actions.get k) && s.tm.kindInForce k

/-- TM sets the deemed flag and the substitution flags (08 R144). -/
def setFlags (s : State) : State :=
  s.setTm { s.tm with
    deemed := anyInForceWith s deemedIn
    subst := ⟨s.tm.condInForce (.vloss .p1), s.tm.condInForce (.vloss .p2), s.tm.condInForce (.vloss .p3)⟩ }

/-- TM adds or removes TAMPER when what it holds differs from what its rule asks (08 R143). -/
def holdTamper (s : State) : State :=
  if anyInForceWith s opensIn then
    if s.tm.tamperHeld then s else addReason .tamper (s.setTm { s.tm with tamperHeld := true })
  else
    if s.tm.tamperHeld then removeReason .tamper .ordinary (s.setTm { s.tm with tamperHeld := false }) else s

/-- TM evaluates the flags and the TAMPER reason (08 R143, R144). -/
def evaluateTamper (s : State) : State := holdTamper (setFlags s)

def State.cond (s : State) (c : CondId) : Cond := s.tm.conds.get c

def State.setCond (s : State) (c : CondId) (x : Cond) : State :=
  s.setTm { s.tm with conds := s.tm.conds.set c x }

/-- The actions a start records (08 R140). -/
def actionsOf (setting : Nat) (c : CondId) : Actions :=
  ⟨opensIn setting, deemedIn setting, latchIn setting, c.kind == .vloss⟩

/-- What a start of MAG or LINKLOSS does besides: the deemed hold stops (08 R135); BE's tick timer is loaded
(02 R32). -/
def startEffect (c : CondId) (s : State) : State :=
  match c with
  | .mag => s.setTm { s.tm with hold := none }
  | .linkloss => s.setBe { s.be with tickTimer := some 250 }
  | _ => s

/-- What an end of MAG or LINKLOSS does besides: the deemed hold starts (08 R135); BE's tick timer stops (02 R32). -/
def endEffect (c : CondId) (s : State) : State :=
  match c with
  | .mag =>
    s.setTm { s.tm with hold := if s.params.deemedHoldMin = 0 then none else secondsTimer (s.params.deemedHoldMin * 60) }
  | .linkloss => s.setBe { s.be with tickTimer := none }
  | _ => s

/-- A condition starts (08 R140). The measure is the first one of its record. -/
def startCond (c : CondId) (measure : Option Int) (s : State) : State :=
  let setting := s.params.actions.get c.kind
  let x := s.cond c
  let started := startEffect c (s.setCond c { x with state := .active, latch := x.latch || latchIn setting })
  let answer := logOpen c (s.ps.power == .holdup) (actionsOf setting c) measure started
  let recorded := answer.1.setCond c { (answer.1.cond c) with ongoing := answer.2 }
  evaluateTamper (raise (.tamperStart c answer.2) recorded)

/-- A condition ends (08 R141). -/
def endCond (c : CondId) (s : State) : State :=
  let x := s.cond c
  let ended := s.setCond c { x with state := .idle, lastEnd := some s.clock, ongoing := .none }
  let closed := ended.setTl (ended.tl.endOccurrence x.ongoing s.clock)
  evaluateTamper (endEffect c (raise (.tamperEnd c x.ongoing) closed))

/-- TM hands TL a measure of an ACTIVE condition (08 R137). -/
def handMeasure (c : CondId) (m : Int) (s : State) : State := s.setTl (s.tl.measure (s.cond c).ongoing m)

/-! ### Records (08 section 8.3) -/

/-- The conditions decided from records. -/
inductive RecordCond where
  | neutral
  | vloss (p : Phase)
  | reverse (p : Phase)
  | bypass (p : Phase)
deriving DecidableEq, Repr

def RecordCond.cond : RecordCond → CondId
  | .neutral => .neutral
  | .vloss p => .vloss p
  | .reverse p => .reverse p
  | .bypass p => .bypass p

def Runs.get (t : Runs) : RecordCond → Nat
  | .neutral => t.neutral
  | .vloss p => t.vloss.get p
  | .reverse p => t.reverse.get p
  | .bypass p => t.bypass.get p

def Runs.set (t : Runs) (c : RecordCond) (n : Nat) : Runs :=
  match c with
  | .neutral => { t with neutral := n }
  | .vloss p => { t with vloss := t.vloss.set p n }
  | .reverse p => { t with reverse := t.reverse.set p n }
  | .bypass p => { t with bypass := t.bypass.set p n }

def State.setRun (s : State) (c : RecordCond) (n : Nat) : State := s.setBe { s.be with runs := s.be.runs.set c n }

def State.setCondState (s : State) (c : CondId) (x : CondState) : State :=
  s.setCond c { (s.cond c) with state := x }

/-- An observation BE hands TM: whether the record shows the condition, and its measure (02 R35). -/
structure Observation where
  cond : RecordCond
  shows : Bool
  measure : Option Int
deriving DecidableEq, Repr

/-- An observation that shows an ACTIVE condition hands TL its measure (08 R137). -/
def handObserved (o : Observation) (s : State) : State :=
  match o.measure with
  | some m => handMeasure o.cond.cond m s
  | none => s

/-- TM acts on an observation by the condition's state, with a filter of 8 records (08 R136). -/
def observe (o : Observation) (s : State) : State :=
  let n := s.be.runs.get o.cond
  match (s.cond o.cond.cond).state, o.shows with
  | .idle, true => (s.setRun o.cond 1).setCondState o.cond.cond .pending
  | .idle, false => s.setRun o.cond 0
  | .pending, true =>
    if 8 ≤ n + 1 then startCond o.cond.cond o.measure (s.setRun o.cond 0) else s.setRun o.cond (n + 1)
  | .pending, false => (s.setRun o.cond 0).setCondState o.cond.cond .idle
  | .active, true => handObserved o (s.setRun o.cond 0)
  | .active, false => if 8 ≤ n + 1 then endCond o.cond.cond (s.setRun o.cond 0) else s.setRun o.cond (n + 1)

/-! ### LINKLOSS and PROBE (08 section 8.4) -/

/-- The silence length in whole seconds, saturating at 65,535 (08 R138, 09 R155). -/
def silenceSeconds (s : State) : Int := ((min 65535 (s.mli.silenceMs / 1000) : Nat) : Int)

/-- A silence report reaches TM (08 R138). -/
def silenceToTm (s : State) : State :=
  if (s.cond .linkloss).state = .idle then startCond .linkloss (some (silenceSeconds s)) s else s

/-- A link-good report reaches TM (08 R138). -/
def linkGoodToTm (s : State) : State :=
  if (s.cond .linkloss).state = .active then endCond .linkloss s else s

/-- No source is locked out, for PROBE. -/
def noProbeSource (s : State) : Bool := !(s.tm.probeSources.keypad || s.tm.probeSources.remote)

/-- A lockout-start report reaches TM (08 R139). -/
def lockoutStartToTm (src : Source) (s : State) : State :=
  if s.tm.probeSources.get src then s
  else
    let added := s.setTm { s.tm with probeSources := s.tm.probeSources.set src true }
    if noProbeSource s then startCond .probe none added else added

/-- A lockout-end report reaches TM (08 R139). -/
def lockoutEndToTm (src : Source) (s : State) : State :=
  if s.tm.probeSources.get src then
    let left := s.setTm { s.tm with probeSources := s.tm.probeSources.set src false }
    if noProbeSource left then endCond .probe left else left
  else s

/-! ### Latches (08 section 8.7) -/

/-- A latch is cleared by a CLEAR_TAMPER code (08 R145). -/
def Cond.clearedBy (x : Cond) (cutoff : Int) : Bool :=
  x.latch && x.state == .idle &&
    match x.lastEnd with
    | some t => decide ((t : Int) < cutoff)
    | none => false

/-- The conditions whose latches a code clears. -/
def latchesCleared (mask : PerKind Bool) (cutoff : Int) (s : State) : List CondId :=
  allConds.filter fun c => mask.get c.kind && (s.cond c).clearedBy cutoff

/-- TM applies a CLEAR_TAMPER code and answers with the latches cleared (08 R145). -/
def clearLatches (mask : PerKind Bool) (cutoff : Int) (s : State) : State × Nat :=
  let cleared := latchesCleared mask cutoff s
  (evaluateTamper (cleared.foldl (fun t c => t.setCond c { (t.cond c) with latch := false }) s), cleared.length)

/-! ### Sensors (08 sections 8.2 and 8.8) -/

/-- The filter lengths of the sensor kinds: ms in ACTIVE, samples in HOLDUP (08 R134, R135, R148). -/
def filterMs : Sensor → Nat
  | .meterCase => 500
  | .cover => 500
  | .mag => 2000

def filterSamples : Sensor → Nat
  | .meterCase => 1
  | .cover => 1
  | .mag => 2

def State.setFilter (s : State) (i : Sensor) (f : Filter) : State :=
  s.setTm { s.tm with filters := s.tm.filters.set i f }

/-- TM follows a changed input in ACTIVE (08 R134, R135). -/
def followInput (i : Sensor) (shows : Bool) (s : State) : State :=
  match (s.cond (sensorCond i)).state, shows with
  | .idle, true => (s.setFilter i (.timing (filterMs i))).setCondState (sensorCond i) .pending
  | .idle, false => s
  | .pending, true => s
  | .pending, false => (s.setFilter i .stopped).setCondState (sensorCond i) .idle
  | .active, true => s.setFilter i .stopped
  | .active, false => s.setFilter i (.timing (filterMs i))

/-- The samples counted so far. -/
def Filter.count : Filter → Nat
  | .samples n => n
  | .stopped => 0
  | .timing _ => 0

/-- TM acts on one input's sample in HOLDUP (08 R148). -/
def sampleInput (i : Sensor) (s : State) : State :=
  let c := sensorCond i
  let n := (s.tm.filters.get i).count + 1
  match (s.cond c).state, s.pins.sensor.get i with
  | .idle, true =>
    if filterSamples i ≤ 1 then startCond c none (s.setFilter i (.samples 0))
    else (s.setFilter i (.samples 1)).setCondState c .pending
  | .idle, false => s.setFilter i (.samples 0)
  | .pending, true =>
    if filterSamples i ≤ n then startCond c none (s.setFilter i (.samples 0)) else s.setFilter i (.samples n)
  | .pending, false => (s.setFilter i (.samples 0)).setCondState c .idle
  | .active, true => s.setFilter i (.samples 0)
  | .active, false =>
    if filterSamples i ≤ n then endCond c (s.setFilter i (.samples 0)) else s.setFilter i (.samples n)

/-- A sensor condition returns to timed filtering at an entry to ACTIVE (08 R149). -/
def resumeInput (i : Sensor) (s : State) : State :=
  let c := sensorCond i
  match (s.cond c).state, s.pins.sensor.get i with
  | .idle, true => (s.setFilter i (.timing (filterMs i))).setCondState c .pending
  | .idle, false => s.setFilter i .stopped
  | .pending, true => s.setFilter i (.timing (filterMs i))
  | .pending, false => (s.setFilter i .stopped).setCondState c .idle
  | .active, true => s.setFilter i .stopped
  | .active, false => s.setFilter i (.timing (filterMs i))

/-- A PENDING condition is IDLE again. -/
def Cond.dropPending (x : Cond) : Cond := if x.state = .pending then { x with state := .idle } else x

/-- Every PENDING record-based condition returns to IDLE at an entry to ACTIVE (08 R149). -/
def dropPendingRecords (t : PerCond Cond) : PerCond Cond :=
  { t with
    neutral := t.neutral.dropPending
    vloss := t.vloss.map Cond.dropPending
    reverse := t.reverse.map Cond.dropPending
    bypass := t.bypass.map Cond.dropPending }

/-- TM at an entry to ACTIVE (08 R149). -/
def enterActiveTm (s : State) : State :=
  let dropped := s.setTm { s.tm with conds := dropPendingRecords s.tm.conds }
  evaluateTamper (resumeInput .mag (resumeInput .cover (resumeInput .meterCase dropped)))

/-- The sensor filters at the entry to HOLDUP (08 R148). -/
def Tm.enterHoldup (x : Tm) : Tm := { x with filters := PerSensor.all (.samples 0) }

/-! ### Commands -/

/-- A sensor input changes; TM follows it in ACTIVE alone (08 R134, R147, R148). -/
def sensorInputChange (i : Sensor) (shows : Bool) (s : State) : State :=
  if s.pins.sensor.get i = shows then s
  else
    let changed := s.setPins { s.pins with sensor := s.pins.sensor.set i shows }
    if s.ps.power = .active then followInput i shows changed else changed

/-- SENSOR_INPUT_CHANGE (08 R134, R135). -/
def execSensorInputChange (i : Sensor) (shows : Bool) (s : State) : Host.Outcome State Fault Refusal :=
  .next (sensorInputChange i shows s)

/-- A sensor kind's filter timer has run out (08 R134, R135). -/
def sensorFilterExpiry (i : Sensor) (s : State) : State :=
  if s.ps.power = .active ∧ s.tm.filters.get i = .timing 0 then
    match (s.cond (sensorCond i)).state with
    | .pending => startCond (sensorCond i) none (s.setFilter i .stopped)
    | .active => endCond (sensorCond i) (s.setFilter i .stopped)
    | .idle => s.setFilter i .stopped
  else s

/-- SENSOR_FILTER_EXPIRY (08 R134). -/
def execSensorFilterExpiry (i : Sensor) (s : State) : Host.Outcome State Fault Refusal :=
  .next (sensorFilterExpiry i s)

/-- The deemed hold has run out (08 R135). -/
def deemedHoldExpiry (s : State) : State :=
  if s.ps.power = .active ∧ timerDue s.tm.hold then evaluateTamper (s.setTm { s.tm with hold := none }) else s

/-- DEEMED_HOLD_EXPIRY (08 R135). -/
def execDeemedHoldExpiry (s : State) : Host.Outcome State Fault Refusal := .next (deemedHoldExpiry s)

/-- TM hands TL the silence timer's reading while LINKLOSS is ACTIVE (08 R138). -/
def linklossMeasure (s : State) : State :=
  if s.ps.power = .active ∧ (s.cond .linkloss).state = .active then handMeasure .linkloss (silenceSeconds s) s else s

/-- LINKLOSS_MEASURE (08 R138). -/
def execLinklossMeasure (s : State) : Host.Outcome State Fault Refusal := .next (linklossMeasure s)

/-- The hold-up watch samples the three inputs (08 R148, 10 R164). -/
def holdupSample (s : State) : State :=
  if s.ps.power = .holdup ∧ timerDue s.ps.sampleTimer then
    sampleInput .mag (sampleInput .cover (sampleInput .meterCase
      (s.setPs { s.ps with sampleTimer := secondsTimer 1 })))
  else s

/-- HOLDUP_SAMPLE (08 R148). -/
def execHoldupSample (s : State) : Host.Outcome State Fault Refusal := .next (holdupSample s)

end Sys2Proof.Machine
end

