-- ==== Sys2Proof/Machine/Codes.lean ====
section
/-! DEFINITION. The code engine (05): the nine acceptance steps, lockouts, the history, single codes and groups,
and the commands LOCKOUT_END and GROUP_TIMEOUT. -/

namespace Sys2Proof.Machine

/-- The outcomes in the order of 12 R181. -/
inductive CodeOutcome where
  | accepted
  | acceptedClamped
  | groupHeld
  | lockedOut
  | malformed
  | authFail
  | unsupported
  | notPermitted
  | stale
  | used
  | expired
  | badValue
  | balanceLimit
  | duplicatePart
deriving DecidableEq, Repr

def CodeOutcome.number : CodeOutcome → Nat
  | .accepted => 0
  | .acceptedClamped => 1
  | .groupHeld => 2
  | .lockedOut => 3
  | .malformed => 4
  | .authFail => 5
  | .unsupported => 6
  | .notPermitted => 7
  | .stale => 8
  | .used => 9
  | .expired => 10
  | .badValue => 11
  | .balanceLimit => 12
  | .duplicatePart => 13

/-- What CE answers a code with (05 R103): `cls` is the class where it is reported, `written` says that the code
was consumed or applied, so that a checkpoint write belongs to it (05 R84, R102). -/
structure Judged where
  state : State
  outcome : CodeOutcome
  cls : Option Nat
  detail : List Byte
  written : Bool
deriving DecidableEq, Repr

/-- A code refused: nothing is consumed and no checkpoint is written. -/
def refuse (o : CodeOutcome) (cls : Option Nat) (detail : List Byte) (s : State) : Judged := ⟨s, o, cls, detail, false⟩

/-! ### Attempt counters and lockouts (05 section 5.3) -/

def State.setKeys (s : State) (k : Keys) : State := s.setCe { s.ce with keys := k }

def State.setAttempts (s : State) (src : Source) (n : Nat) : State :=
  s.setKeys { s.ce.keys with attempts := s.ce.keys.attempts.set src n }

def State.setLockout (s : State) (src : Source) (t : Timer) : State :=
  s.setCe { s.ce with lockout := s.ce.lockout.set src t }

/-- A lockout starts (05 R85). -/
def startLockout (src : Source) (s : State) : State :=
  raise (.lockout src false) (lockoutStartToTm src (s.setLockout src (secondsTimer 3600)))

/-- A code has failed authentication (05 R85). -/
def failAttempt (src : Source) (s : State) : State :=
  let left := s.ce.keys.attempts.get src - 1
  let lowered := s.setAttempts src left
  if left = 0 then startLockout src lowered else lowered

/-- TM's report and the notice of a lockout's end (05 R86). -/
def reportLockoutEnd (src : Source) (s : State) : State := raise (.lockout src true) (lockoutEndToTm src s)

/-- A source is restored at the end of its lockout (05 R86). -/
def endLockout (src : Source) (s : State) : State :=
  reportLockoutEnd src ((s.setAttempts src 5).setLockout src none)

/-- The seconds left on a lockout timer; how a part of a second is rounded is a free value (05 R103, log 14). -/
def lockoutSeconds (t : Timer) : Nat :=
  match t with
  | some ms => if Config.lockoutSecondsRoundUp then (ms + 999) / 1000 else ms / 1000
  | none => 0

/-! ### The history (05 R89) -/

/-- A number joins the history, which is held ascending (log 42). -/
def insertAscending (n : Nat) : List Nat → List Nat
  | [] => [n]
  | m :: rest => if n < m then n :: m :: rest else m :: insertAscending n rest

/-- A sequence number is consumed; the lowest of 33 becomes the floor (05 R89). -/
def Keys.consume (k : Keys) (n : Nat) : Keys :=
  let joined := insertAscending n k.history
  if joined.length ≤ 32 then { k with history := joined }
  else { k with history := joined.tail, floor := joined.headD k.floor }

/-- CE consumes a code (05 R84, R89). -/
def consumeCode (n : Nat) (s : State) : State := s.setKeys (s.ce.keys.consume n)

/-! ### Issue day and values (05 R82, R83) -/

/-- The resolved issue day D (05 R82). -/
def issueDay (today x : Nat) : Int := (today : Int) + 2 - (((today : Int) + 2 - x) % 4096)

/-- Today's day number less D (05 R82). -/
def codeAge (today x : Nat) : Int := (today : Int) - issueDay today x

/-- A CREDIT code is too old (05 R82). -/
def codeExpired (s : State) (c : Code) : Bool :=
  c.cls == 0 && decide (0 < s.params.ageLimit) && decide ((s.params.ageLimit : Int) < codeAge (dayOf s.clock) c.day)

/-- The clock a SET_CLOCK code would set (05 R96). -/
def codeClock (day : Int) (v : BitVec 21) : Int :=
  day * 86400 + (valueField v 10 11 : Int) * 60 + (valueField v 4 6 : Int)

/-- The cutoff of a CLEAR_TAMPER code (05 R93). -/
def codeCutoff (day : Int) (v : BitVec 21) : Int := day * 86400 + (valueField v 1 11 : Int) * 60

/-- The value rules of a class (05 section 5.5 and R98). -/
def valueGood (cls : Nat) (day : Int) (v : BitVec 21) : Bool :=
  match cls with
  | 0 => decide (v.toNat ≤ 2000000)
  | 1 => decide (v.toNat ≤ 2000000)
  | 2 => decide (v.toNat ≤ 1)
  | 3 => decide (valueField v 1 11 ≤ 1439) && valueField v 0 1 == 0
  | 4 => (paramRow (valueField v 13 8)).isSome
  | 5 => valueField v 0 8 != 0
  | 6 =>
    decide (valueField v 10 11 ≤ 1439) && decide (valueField v 4 6 ≤ 59) && valueField v 0 4 == 0
      && decide (0 ≤ day) && decide (codeClock day v ≤ (maxClock : Int))
  | 7 => valueField v 0 14 == 0
  | n =>
    match groupClassOf n with
    | some g => decide (valueField v 19 2 < g.partCount)
    | none => false

/-! ### Single codes (05 section 5.5) -/

/-- An applied single code: consumed, with a checkpoint to be written (05 R84). -/
def apply (o : CodeOutcome) (c : Code) (detail : List Byte) (s : State) : Judged :=
  ⟨consumeCode c.sequence s, o, some c.cls, detail, true⟩

/-- CREDIT (05 R91, 04 R61). -/
def applyCredit (c : Code) (s : State) : Judged :=
  let a := c.value.toNat
  let q := recoveryPart s.params s.acct a
  if topUpRefused a s then refuse .balanceLimit (some c.cls) [] s
  else apply .accepted c (bytesOf 4 (a - q) ++ bytesOf 4 q) (topUp a s)

/-- DEBT_ADD (05 R91, 04 R63). -/
def applyDebtAdd (c : Code) (s : State) : Judged :=
  let v := c.value.toNat
  apply .accepted c (bytesOf 4 (debtPlaced v s)) (addDebt .debtAdd v s)

/-- REMOTE_SWITCH (05 R92). -/
def applyRemoteSwitch (c : Code) (s : State) : Judged :=
  if c.value.toNat = 0 then
    apply .accepted c (bytesOf 1 (!s.sss.reasons.remote).toNat) (addReason .remote s)
  else apply .accepted c (bytesOf 1 s.sss.reasons.remote.toNat) (removeReason .remote .ordinary s)

/-- CLEAR_TAMPER: TM first, then TL (05 R93). -/
def applyClearTamper (c : Code) (day : Int) (s : State) : Judged :=
  let mask := maskOf (valueField c.value 12 9)
  let cutoff := codeCutoff day c.value
  let latches := clearLatches mask cutoff s
  let records := latches.1.tl.clear mask cutoff
  apply .accepted c (bytesOf 1 latches.2 ++ bytesOf 1 records.2) (latches.1.setTl records.1)

/-- What a parameter's owner does on a new value (11 R176). -/
def configEffect (index v : Nat) (s : State) : State :=
  let params := s.params.setAt index v
  if index = 10 ∨ index = 11 then changeAllowance params s
  else if index = 12 ∨ index = 13 then recompute .ordinary (s.setParams params)
  else if index = 16 then evaluateCalendar (rebaseCycle s.params.cycleDays (s.setParams params))
  else if index = 17 ∨ 48 ≤ index then evaluateCalendar (s.setParams params)
  else if 32 ≤ index ∧ index ≤ 40 then evaluateTamper (s.setParams params)
  else s.setParams params

/-- SET_CONFIG (05 R94). -/
def applySetConfig (c : Code) (s : State) : Judged :=
  let index := valueField c.value 13 8
  match paramRow index with
  | some row =>
    let asked := valueField c.value 0 13 * row.step
    let v := clampNat row.lo row.hi asked
    apply (if v = asked then .accepted else .acceptedClamped) c (bytesOf 1 index ++ bytesOf 4 v) (configEffect index v s)
  | none => refuse .badValue (some c.cls) [] s

/-- TEMP_LIMIT (05 R95). -/
def applyTempLimitCode (c : Code) (s : State) : Judged :=
  let limit := valueField c.value 8 13 * 10
  let hours := valueField c.value 0 8
  apply .accepted c (bytesOf 4 limit ++ bytesOf 1 hours) (applyTempLimit limit hours s)

/-- SET_CLOCK (05 R96). -/
def applySetClock (c : Code) (day : Int) (s : State) : Judged :=
  apply .accepted c (bytesOf 4 (codeClock day c.value).toNat)
    (setClock day.toNat (valueField c.value 10 11) (valueField c.value 4 6) s)

/-- The profile letter of a week map's bit (05 R97). -/
def letterOf (b : Bool) : ProfileId := if b then .b else .a

/-- SET_WEEKMAP (05 R97, 03 R47). -/
def applySetWeekmap (c : Code) (s : State) : Judged :=
  let letters := [14, 15, 16, 17, 18, 19, 20].map fun i => letterOf (c.value.getLsbD i)
  apply .accepted c []
    (evaluateCalendar (s.setTc { s.tc with sched := { s.tc.sched with weekMap := letters } }))

/-! ### Groups (05 section 5.6) -/

def State.setGroup (s : State) (g : Option PendingGroup) : State := s.setCe { s.ce with group := g }

/-- The parts received. -/
def PendingGroup.indices (g : PendingGroup) : List Nat := g.parts.map GroupPart.index

/-- The pending group is discarded with a notice (05 R99). -/
def dropGroup (timeout : Bool) (g : PendingGroup) (s : State) : State :=
  raise (.groupDropped g.cls g.sequence g.indices g.firstSource timeout) (s.setGroup none)

/-- A code matches the pending group in class and sequence (05 R99). -/
def PendingGroup.matchesCode (g : PendingGroup) (c : Code) : Bool :=
  groupClassOf c.cls == some g.cls && g.sequence == c.sequence

/-- An authentic code that does not match the pending group discards it (05 R99). -/
def compareGroup (c : Code) (s : State) : State :=
  match s.ce.group with
  | some g => if g.matchesCode c then s else dropGroup false g s
  | none => s

/-- The payload of an index. -/
def payloadAt (parts : List GroupPart) (index : Nat) : Nat :=
  match parts.find? fun p => p.index == index with
  | some p => p.payload.toNat
  | none => 0

/-- The joined content, part 0 most significant (05 R100). -/
def joinParts (parts : List GroupPart) (count : Nat) : Nat :=
  (List.range count).foldl (fun acc i => acc * 2 ^ 19 + payloadAt parts i) 0

/-- A field of a joined content. -/
def contentField (n lo width : Nat) : Nat := n / 2 ^ lo % 2 ^ width

/-- One rate of the table is replaced (03 R46). -/
def setRate (band : Band) (block : Block) (rate : Nat) (s : State) : State :=
  let row := (s.tc.sched.rates.get band).set block rate
  evaluateCalendar (s.setTc { s.tc with sched := { s.tc.sched with rates := s.tc.sched.rates.set band row } })

/-- A complete SET_RATE group (05 R101). -/
def applyRateGroup (content : Nat) (c : Code) (s : State) : Judged :=
  let band := contentField content 36 2
  let block := contentField content 34 2
  let rate := contentField content 7 27
  if block = 3 ∨ contentField content 0 7 ≠ 0 then refuse .badValue (some c.cls) [] s
  else
    apply (if rate ≤ 100000000 then .accepted else .acceptedClamped) c
      (bytesOf 1 band ++ bytesOf 1 block ++ bytesOf 4 (min rate 100000000))
      (setRate (Fin.ofNat 4 band) (Fin.ofNat 3 block) (min rate 100000000) s)

/-- Switch point j of a SET_PROFILE content, j = 0 the first: its start and its band (05 R101). -/
def contentPoint (content j : Nat) : SwitchPoint :=
  ⟨contentField content (64 - 10 * j) 8, Fin.ofNat 4 (contentField content (62 - 10 * j) 2)⟩

/-- Starts strictly increase. -/
def startsIncrease : List SwitchPoint → Bool
  | x :: y :: rest => decide (x.start < y.start) && startsIncrease (y :: rest)
  | _ => true

/-- The content of a SET_PROFILE group keeps the rules of 05 R101. -/
def profileGood (content : Nat) : Bool :=
  let count := contentField content 72 3
  let points := (List.range count).map (contentPoint content)
  decide (1 ≤ count) && decide (count ≤ 6) && points.all (fun x => decide (x.start ≤ 143)) && startsIncrease points
    && contentField content 12 (10 * (6 - count)) == 0 && contentField content 0 12 == 0

/-- A day profile is replaced (03 R47). -/
def setProfile (which : ProfileId) (points : List SwitchPoint) (s : State) : State :=
  let sched :=
    match which with
    | .a => { s.tc.sched with profileA := points }
    | .b => { s.tc.sched with profileB := points }
  evaluateCalendar (s.setTc { s.tc with sched := sched })

/-- A complete SET_PROFILE group (05 R101). -/
def applyProfileGroup (content : Nat) (c : Code) (s : State) : Judged :=
  let which := contentField content 75 1
  if profileGood content then
    apply .accepted c (bytesOf 1 which)
      (setProfile (if which = 0 then .a else .b)
        ((List.range (contentField content 72 3)).map (contentPoint content)) s)
  else refuse .badValue (some c.cls) [] s

/-- The keys after a KEY_CHANGE group (05 R102). -/
def Keys.changed (content : Nat) : Keys where
  meterKey := BitVec.ofNat 64 (contentField content 12 64)
  keyRevision := contentField content 8 4
  floor := 0
  history := []
  attempts := PerSource.all 5

/-- The report and notice of a source whose counter a KEY_CHANGE found at 0 (05 R102). -/
def endIfLocked (before : PerSource Nat) (src : Source) (s : State) : State :=
  if before.get src = 0 then reportLockoutEnd src s else s

/-- A KEY_CHANGE group is applied (05 R102). -/
def changeKeys (content : Nat) (s : State) : State :=
  endIfLocked s.ce.keys.attempts .remote (endIfLocked s.ce.keys.attempts .keypad
    (s.setCe { s.ce with keys := Keys.changed content, lockout := PerSource.all none }))

/-- A complete KEY_CHANGE group (05 R102). Its sequence does not join the history. -/
def applyKeyGroup (content : Nat) (c : Code) (s : State) : Judged :=
  if contentField content 8 4 = s.ce.keys.keyRevision ∨ contentField content 0 8 ≠ 0 then
    refuse .badValue (some c.cls) [] s
  else ⟨changeKeys content s, .accepted, some c.cls, [], true⟩

/-- A complete group is judged and applied whole or discarded (05 R100). -/
def completeGroup (g : PendingGroup) (c : Code) (s : State) : Judged :=
  let content := joinParts g.parts g.cls.partCount
  match g.cls with
  | .setRate => applyRateGroup content c (s.setGroup none)
  | .setProfile => applyProfileGroup content c (s.setGroup none)
  | .keyChange => applyKeyGroup content c (s.setGroup none)

/-- The group holds every index of its class. -/
def PendingGroup.isComplete (g : PendingGroup) : Bool :=
  (List.range g.cls.partCount).all fun i => g.indices.contains i

/-- A group part at the apply step (05 R98). -/
def applyPart (cls : GroupClass) (src : Source) (c : Code) (s : State) : Judged :=
  let part : GroupPart := ⟨valueField c.value 19 2, c.value.extractLsb' 0 19⟩
  match s.ce.group with
  | none =>
    let g : PendingGroup := ⟨cls, c.sequence, src, [part], 600000⟩
    refuse .groupHeld (some c.cls) (bytesOf 1 (partSet g.indices)) (s.setGroup (some g))
  | some g =>
    if g.indices.contains part.index then
      refuse .duplicatePart (some c.cls) (bytesOf 1 (partSet g.indices)) s
    else
      let joined := { g with parts := g.parts ++ [part] }
      if joined.isComplete then completeGroup joined c s
      else refuse .groupHeld (some c.cls) (bytesOf 1 (partSet joined.indices)) (s.setGroup (some joined))

/-! ### The acceptance sequence (05 section 5.2) -/

/-- Step 9 (05 R84). -/
def applyCode (src : Source) (c : Code) (day : Int) (s : State) : Judged :=
  match c.cls with
  | 0 => applyCredit c s
  | 1 => applyDebtAdd c s
  | 2 => applyRemoteSwitch c s
  | 3 => applyClearTamper c day s
  | 4 => applySetConfig c s
  | 5 => applyTempLimitCode c s
  | 6 => applySetClock c day s
  | 7 => applySetWeekmap c s
  | n =>
    match groupClassOf n with
    | some g => applyPart g src c s
    | none => refuse .unsupported (some c.cls) [] s

/-- Step 5: the classes a KEYPAD source may not carry (05 R80). -/
def sourcePermitted (src : Source) (cls : Nat) : Bool :=
  match src with
  | .keypad => cls != 2 && cls != 10
  | .remote => true

/-- Steps 4 to 9 of an authentic code (05 R79). -/
def judgeAuthentic (src : Source) (c : Code) (s : State) : Judged :=
  let day := issueDay (dayOf s.clock) c.day
  if 11 ≤ c.cls then refuse .unsupported (some c.cls) [] s
  else if sourcePermitted src c.cls = false then refuse .notPermitted (some c.cls) [] s
  else if c.sequence ≤ s.ce.keys.floor then
    refuse .stale (some c.cls) (bytesOf 2 c.sequence ++ bytesOf 2 s.ce.keys.floor) s
  else if s.ce.keys.history.contains c.sequence then refuse .used (some c.cls) (bytesOf 2 c.sequence) s
  else if codeExpired s c then refuse .expired (some c.cls) (bytesOfInt 2 (codeAge (dayOf s.clock) c.day)) s
  else if valueGood c.cls day c.value = false then refuse .badValue (some c.cls) [] s
  else applyCode src c day s

/-- The code a number decodes to under a meter key (05 R78). -/
def decodeCode (key : BitVec 64) (n : Nat) : Code := codeOf (Config.codeTransform key (BitVec.ofNat 69 n))

/-- A code is authentic (05 R78). -/
def Code.authentic (c : Code) (key : BitVec 64) : Bool := c.tag == Config.codeCheck key c.body

/-- An authentic code restores its source's attempts and is set against the pending group (05 R79, R87, R99). -/
def passAuthentic (src : Source) (c : Code) (s : State) : State := compareGroup c (s.setAttempts src 5)

/-- The nine steps (05 R79). -/
def judgeCode (src : Source) (chars : List Byte) (s : State) : Judged :=
  if s.ce.keys.attempts.get src = 0 then
    refuse .lockedOut none (bytesOf 2 (lockoutSeconds (s.ce.lockout.get src))) s
  else
    match codeNumber chars with
    | none => refuse .malformed none [] s
    | some n =>
      let c := decodeCode s.ce.keys.meterKey n
      if c.authentic s.ce.keys.meterKey then judgeAuthentic src c (passAuthentic src c s)
      else
        let failed := failAttempt src s
        refuse .authFail none (bytesOf 1 (failed.ce.keys.attempts.get src)) failed

/-- The reply's payload after its status (12 R181). -/
def Judged.bytes (j : Judged) : List Byte :=
  bytesOf 1 j.outcome.number ++ bytesOf 1 (j.cls.getD 0xFF) ++ j.detail

/-! ### Commands -/

/-- A lockout timer has expired (05 R86). -/
def lockoutEnd (src : Source) (s : State) : State :=
  if s.ps.power = .active ∧ timerDue (s.ce.lockout.get src) then endLockout src s else s

/-- LOCKOUT_END (05 R86). -/
def execLockoutEnd (src : Source) (s : State) : Host.Outcome State Fault Refusal := .next (lockoutEnd src s)

/-- The group timer has expired (05 R99). -/
def groupTimeout (s : State) : State :=
  match s.ps.power, s.ce.group with
  | .active, some g => if g.timer = 0 then dropGroup true g s else s
  | _, _ => s

/-- GROUP_TIMEOUT (05 R99). -/
def execGroupTimeout (s : State) : Host.Outcome State Fault Refusal := .next (groupTimeout s)

end Sys2Proof.Machine
end

