-- ==== Sys2Proof/Machine/Billing.lean ====
section
/-! DEFINITION. The billing engine (02): billed power, energy and pricing, gaps and silence ticks, observations,
and the commands RECORD_TAKE and SILENCE_TICK. -/

namespace Sys2Proof.Machine

/-! ### Billed power (02 sections 2.2 and 2.3) -/

/-- The base power of a phase under a direction policy: 0 ABSOLUTE, 1 IMPORT_ONLY, 2 NET (02 R18). -/
def basePower (policy : Nat) (p : Int) : Int :=
  match policy with
  | 0 => p.natAbs
  | 1 => max 0 p
  | _ => p

/-- The substitute power of a phase (02 R19). -/
def substitutePower (vNom i : Nat) : Nat := vNom * i / 1000

/-- The billed power of a phase (02 R19). -/
def billedPhase (policy vNom : Nat) (subst : Bool) (p : Int) (i : Nat) : Int :=
  if subst then max (basePower policy p) (substitutePower vNom i) else basePower policy p

/-- The greater of a power and, while the deemed flag is raised, DEEMED_W (02 R21, R31). -/
def atLeastDeemed (deemed : Bool) (deemedW power : Nat) : Nat := if deemed then max power deemedW else power

/-- The billed power of phase p of a record. -/
def phaseBilled (s : State) (r : IntervalRecord) (p : Phase) : Int :=
  billedPhase s.params.dirPolicy s.params.vNom (s.tm.subst.get p) (r.p.get p) (r.i.get p)

/-- The interval billed power of a record; the floor at 0 binds under NET alone (02 R20, R21). -/
def intervalPower (s : State) (r : IntervalRecord) : Nat :=
  atLeastDeemed s.tm.deemed s.params.deemedW
    (phaseBilled s r .p1 + phaseBilled s r .p2 + phaseBilled s r .p3).toNat

/-- The gap power and the tick power (02 R31, R33). -/
def gapPower (s : State) : Nat := atLeastDeemed s.tm.deemed s.params.deemedW s.be.bLast

/-! ### Pricing (02 section 2.5) -/

/-- The block of the next Wh, with both thresholds in Wh (02 R27). -/
def blockAt (t1 t2 w : Nat) : Block :=
  if t1 = 0 then 0
  else if w < t1 then 0
  else if t1 < t2 ∧ t2 ≤ w then 2
  else 1

/-- The Wh of an item that fall below T1 (02 R28). -/
def belowT1 (t1 w n : Nat) : Nat := if 0 < t1 ∧ w < t1 then min n (t1 - w) else 0

/-- The Wh that then fall below T2 (02 R28). -/
def belowT2 (t1 t2 w n : Nat) : Nat := if 0 < t1 ∧ t1 < t2 ∧ w < t2 then min n (t2 - w) else 0

/-- The cost of n Wh from CYCLE_WH = w on, in split form (02 R28). -/
def itemCost (rates : PerBlock Nat) (t1 t2 w n : Nat) : Nat :=
  let a := belowT1 t1 w n
  let b := belowT2 t1 t2 (w + a) (n - a)
  a * rates.k0 + b * rates.k1 + (n - a - b) * rates.get (blockAt t1 t2 (w + a + b))

/-- The block thresholds in Wh (02 R27). -/
def Params.t1Wh (p : Params) : Nat := p.t1 * 1000
def Params.t2Wh (p : Params) : Nat := p.t2 * 1000

/-- The block and the rate in force (02 R28). -/
def State.blockInForce (s : State) : Block := blockAt s.params.t1Wh s.params.t2Wh s.be.reg.cycleWh
def State.rateInForce (s : State) : Nat := (s.tc.sched.rates.get s.tc.band).get s.blockInForce

/-- One Wh in W·ms (02 R23). -/
def wh : Nat := 3600000

/-- The registers after e W·ms of billed energy (02 R23, R25). -/
def Registers.billed (x : Registers) (e : Nat) : Registers :=
  { x with
    billedResidue := (x.billedResidue + e) % wh
    billedWh := satAdd max48 x.billedWh ((x.billedResidue + e) / wh)
    cycleWh := satAdd max48 x.cycleWh ((x.billedResidue + e) / wh) }

/-- The whole Wh that e W·ms carry out (02 R23). -/
def Registers.carry (x : Registers) (e : Nat) : Nat := (x.billedResidue + e) / wh

/-- The cost of the whole Wh that e W·ms carry out, at the band in force (02 R26 to R28). -/
def energyCost (e : Nat) (s : State) : Nat :=
  itemCost (s.tc.sched.rates.get s.tc.band) s.params.t1Wh s.params.t2Wh s.be.reg.cycleWh (s.be.reg.carry e)

/-- e W·ms are billed: carried out, priced and charged (02 R23, R29). -/
def billEnergy (e : Nat) (s : State) : State :=
  let counted := s.setBe { s.be with reg := s.be.reg.billed e }
  if s.be.reg.carry e = 0 then counted else charge (energyCost e s) counted

/-- The measured residue and register of one direction of one phase (02 R24). -/
def measuredResidue (residue e : Nat) : Nat := (residue + e) % wh
def measuredWh (register residue e : Nat) : Nat := satAdd max48 register ((residue + e) / wh)

/-- The energy a phase power adds to its import residue and to its export residue (02 R24). -/
def importEnergy (p : Int) (dur : Nat) : Nat := p.toNat * dur
def exportEnergy (p : Int) (dur : Nat) : Nat := (-p).toNat * dur

/-- A record's energy is measured on one phase (02 R24). -/
def Registers.measurePhase (x : Registers) (r : IntervalRecord) (p : Phase) : Registers :=
  let i := importEnergy (r.p.get p) r.dur
  let o := exportEnergy (r.p.get p) r.dur
  { x with
    importResidue := x.importResidue.set p (measuredResidue (x.importResidue.get p) i)
    importWh := x.importWh.set p (measuredWh (x.importWh.get p) (x.importResidue.get p) i)
    exportResidue := x.exportResidue.set p (measuredResidue (x.exportResidue.get p) o)
    exportWh := x.exportWh.set p (measuredWh (x.exportWh.get p) (x.exportResidue.get p) o) }

/-- A record's energy is measured on the three phases (02 R24). -/
def Registers.measure (x : Registers) (r : IntervalRecord) : Registers :=
  ((x.measurePhase r .p1).measurePhase r .p2).measurePhase r .p3

/-! ### Observations (02 R35) -/

/-- The measure of NEUTRAL (02 R35). -/
def neutralExcess (r : IntervalRecord) : Nat := r.inn - (r.i.p1 + r.i.p2 + r.i.p3)

def neutralObs (p : Params) (r : IntervalRecord) : Observation where
  cond := .neutral
  shows := decide (r.i.p1 + r.i.p2 + r.i.p3 + p.neutralMarginMa < r.inn)
  measure := some (neutralExcess r)

def vlossObs (p : Params) (r : IntervalRecord) (ph : Phase) : Observation where
  cond := .vloss ph
  shows := decide (r.v.get ph * 10 < p.vNom * p.vlossPct) && decide (p.vlossMa ≤ r.i.get ph)
  measure := none

def reverseObs (p : Params) (r : IntervalRecord) (ph : Phase) : Observation where
  cond := .reverse ph
  shows := decide (r.p.get ph < -(p.reverseW : Int))
  measure := some (r.p.get ph)

/-- `opened` says that the contactor state read at the take is OPEN with the position-unverified flag clear. -/
def bypassObs (opened : Bool) (r : IntervalRecord) (ph : Phase) : Observation where
  cond := .bypass ph
  shows := opened && decide (500 ≤ r.i.get ph)
  measure := some (r.i.get ph)

/-- A record's ten observations, in the order of the table of 02 R35 and of the phases (log 8). -/
def observations (p : Params) (opened : Bool) (r : IntervalRecord) : List Observation :=
  neutralObs p r :: (allPhases.map (vlossObs p r) ++ allPhases.map (reverseObs p r) ++ allPhases.map (bypassObs opened r))

/-! ### Items (02 sections 2.1, 2.6 and 2.7) -/

/-- The missing count of a record about to be taken; absent for a baseline (01 R9, R10). -/
def Mli.missing (x : Mli) (r : IntervalRecord) : Option Nat :=
  if x.baseline then none else some ((r.seq + 256 - x.expected) % 256)

/-- MLI hands a record over (01 R8 to R10). -/
def Mli.taken (x : Mli) (r : IntervalRecord) : Mli :=
  { x with queue := x.queue.tail, expected := (r.seq + 1) % 256, baseline := false, latest := some r }

/-- The gap intervals a missing count leaves after the silence ticks billed (02 R30). -/
def gapIntervals (missing : Option Nat) (ticks : Nat) : Nat :=
  match missing with
  | some k => k - ticks
  | none => 0

/-- The gap intervals are billed (02 R30, R31). -/
def billGap (m : Nat) (s : State) : State := if m = 0 then s else billEnergy (gapPower s * 250 * m) s

/-- The record is billed and measured, B_last is stored and the tick count is 0 (02 R16, R22 to R24, R34). -/
def billRecord (power : Nat) (r : IntervalRecord) (s : State) : State :=
  let billed := billEnergy (power * r.dur) s
  billed.setBe { billed.be with reg := billed.be.reg.measure r, bLast := power, ticks := 0 }

/-- The position check falls at the place drawn, of the four between the stages of a take (06 R118, log 6). -/
def checkAt (place here : Nat) (r : IntervalRecord) (s : State) : State :=
  if place = here then positionCheck r s else s

/-- The item of a taken record, the inputs of 02 R17 being those of the state given (02 R16). -/
def takeItem (place : Nat) (missing : Option Nat) (r : IntervalRecord) (s : State) : State :=
  let power := intervalPower s r
  let opened := s.sss.contactor == .opened && !s.sss.unverified
  let billed := billRecord power r (billGap (gapIntervals missing s.be.ticks) (checkAt place 0 r s))
  let offered := offerLoad power (checkAt place 1 r billed)
  let observed := (observations s.params opened r).foldl (fun t o => observe o t) (checkAt place 2 r offered)
  checkAt place 3 r observed

/-- BE takes the head record of the intake queue (01 R8, 02 R16). A position check that is due draws its place. -/
def recordTake (loadv : PerPhase Bool) (s : State) : State :=
  match s.ps.power, s.mli.queue with
  | .active, r :: _ =>
    let ready := (s.setPins { s.pins with loadv := loadv }).setMli (s.mli.taken r)
    if checkDue r s then takeItem (Config.checkPlace s.free % 4) (s.mli.missing r) r ready.countDraw
    else takeItem 4 (s.mli.missing r) r ready
  | _, _ => s

/-- RECORD_TAKE (01 R8, 02 R16). -/
def execRecordTake (loadv : PerPhase Bool) (s : State) : Host.Outcome State Fault Refusal := .next (recordTake loadv s)

/-- The tick timer has expired: one silence tick is billed (02 R32 to R34). -/
def silenceTick (s : State) : State :=
  if s.ps.power = .active ∧ (s.cond .linkloss).state = .active ∧ timerDue s.be.tickTimer then
    billEnergy (gapPower s * 250)
      (s.setBe { s.be with tickTimer := some 250, ticks := satAdd 255 s.be.ticks 1 })
  else s

/-- SILENCE_TICK (02 R33). -/
def execSilenceTick (s : State) : Host.Outcome State Fault Refusal := .next (silenceTick s)

end Sys2Proof.Machine
end

