-- ==== Sys2Proof/Machine/Checkpoint.lean ====
section
/-! DEFINITION. The checkpoint (10 section 10.4): what an image holds, which image is the newest valid one, and how
a write begins. -/

namespace Sys2Proof.Machine

/-- The snapshot of the retained state (10 R167); a sequence is held as its commanded end (06 R119). -/
def State.snapshot (s : State) : Contents where
  meterId := s.ps.meterId
  reg := s.be.reg
  sched := s.tc.sched
  acct := s.cl.acct
  keys := s.ce.keys
  reasons := s.sss.reasons
  contactor := s.sss.contactor.commandedEnd
  conds := s.tm.conds
  probeSources := s.tm.probeSources
  holdRunning := s.tm.hold.isSome
  params := s.params

/-- The generation that follows another (10 R167). -/
def nextGeneration (g : Nat) : Nat := if g = 4294967295 then 1 else g + 1

/-- The valid image of a slot (10 R167). -/
def StoreSlot.valid : StoreSlot → Option Image
  | .image img true => some img
  | .image _ false => none
  | .empty => none

/-- The slot that holds the newest valid image, and the image. With two valid images it is the one whose
generation follows the other's; where neither follows, slot A's is taken (10 R167, R169; log 26). -/
def Ps.newest (x : Ps) : Option (StoreId × Image) :=
  match x.slotA.valid, x.slotB.valid with
  | none, none => none
  | some i, none => some (.a, i)
  | none, some j => some (.b, j)
  | some i, some j => if j.generation = nextGeneration i.generation then some (.b, j) else some (.a, i)

/-- The slot a write goes to: the one that does not hold the newest valid image; slot A when there is none
(10 R167, log 25). -/
def Ps.target (x : Ps) : StoreId :=
  match x.newest with
  | some (.a, _) => .b
  | some (.b, _) => .a
  | none => .a

/-- The generation of the next image; the first is 1 (10 R167, log 25). -/
def Ps.generation (x : Ps) : Nat :=
  match x.newest with
  | some (_, img) => nextGeneration img.generation
  | none => 1

/-- The image a write of an occasion would hold if it began now. -/
def State.imageNow (s : State) (occ : Occasion) : Image := ⟨s.snapshot, s.ps.generation, occ⟩

/-- A write begins with its snapshot; the HOLDUP_ENTRY write clears the valid flag (10 R163, R167, log 23). -/
def beginWrite (occ : Occasion) (s : State) : State :=
  s.setPs { s.ps with
    write := some ⟨s.imageNow occ, s.ps.target⟩
    valid := if occ = .holdupEntry then false else s.ps.valid }

/-- PS is asked for a write; one that finds a write under way follows it at once (10 R166, R168). -/
def startWrite (occ : Occasion) (s : State) : State :=
  if s.ps.write.isSome then s.setPs { s.ps with nextWrites := s.ps.nextWrites ++ [occ] } else beginWrite occ s

/-- A finished image is stored in the slot it went to. -/
def Ps.store (x : Ps) (w : Write) (good : Bool) : Ps :=
  match w.target with
  | .a => { x with slotA := .image w.img good, write := none }
  | .b => { x with slotB := .image w.img good, write := none }

end Sys2Proof.Machine
end

