-- ==== Sys2Proof/Machine/Transmit.lean ====
section
/-! DEFINITION. The request slot and the transmitter (12 R180): how a reply is handed over, BUSY answers, and the
command REPLY_SENT. -/

namespace Sys2Proof.Machine

/-- The statuses in the order of 12 R181. -/
inductive Status where
  | ok
  | badLength
  | badKind
  | badValue
  | busy
  | wrongState
deriving DecidableEq, Repr

def Status.byte : Status → Byte
  | .ok => 0x00#8
  | .badLength => 0x01#8
  | .badKind => 0x02#8
  | .badValue => 0x03#8
  | .busy => 0x04#8
  | .wrongState => 0x05#8

/-- The reply to a request kind: its kind raised by 0x80, the status first (12 R178). -/
def replyTo (kind : Byte) (st : Status) (result : List Byte) : Reply := ⟨kind + 0x80#8, st.byte :: result⟩

/-- The transmitter takes a reply, to be sent now or to wait; none when it holds two (12 R180). -/
def Hlc.transmit (h : Hlc) (r : Reply) : Option Hlc :=
  match h.sending, h.waiting with
  | none, _ => some { h with sending := some r }
  | some _, none => some { h with waiting := some r }
  | some _, some _ => none

/-- The reply of the slot is made: handed to the transmitter, or held in the slot (12 R180). -/
def Hlc.handReply (h : Hlc) (r : Reply) : Hlc :=
  match h.transmit r with
  | some sent => { sent with slot := .empty }
  | none => { h with slot := .replyWaits r }

def handReply (r : Reply) (s : State) : State := s.setHlc (s.hlc.handReply r)

/-- A BUSY reply; it is not made when the slot's reply or another waiting one stands before it (12 R180). -/
def Hlc.busy (h : Hlc) (kind : Byte) : Hlc :=
  match h.slot with
  | .replyWaits _ => h
  | .empty => (h.transmit (replyTo kind .busy [])).getD h
  | .awaitingWrite _ => (h.transmit (replyTo kind .busy [])).getD h
  | .periodicWrite => (h.transmit (replyTo kind .busy [])).getD h

/-- The transmitter has finished a reply: the waiting one begins, and a reply held in the slot takes the waiting
place (12 R180). -/
def Hlc.replySent (h : Hlc) : Hlc :=
  match h.sending, h.slot with
  | none, _ => h
  | some _, .replyWaits r => { h with sending := h.waiting, waiting := some r, slot := .empty }
  | some _, .empty => { h with sending := h.waiting, waiting := none }
  | some _, .awaitingWrite _ => { h with sending := h.waiting, waiting := none }
  | some _, .periodicWrite => { h with sending := h.waiting, waiting := none }

/-- REPLY_SENT (12 R180). -/
def execReplySent (s : State) : Host.Outcome State Fault Refusal := .next (s.setHlc s.hlc.replySent)

/-- A checkpoint write that belongs to a request is complete: its reply is made, if it is to be sent (12 R180). -/
def Hlc.requestWritten (h : Hlc) : Hlc :=
  match h.slot with
  | .awaitingWrite (some r) => h.handReply r
  | .awaitingWrite none => { h with slot := .empty }
  | .empty => h
  | .periodicWrite => h
  | .replyWaits _ => h

/-- A periodic write is complete: the slot is free (10 R168). -/
def Hlc.periodicWritten (h : Hlc) : Hlc :=
  match h.slot with
  | .periodicWrite => { h with slot := .empty }
  | .empty => h
  | .awaitingWrite _ => h
  | .replyWaits _ => h

/-- The slot after its reply has been discarded: a request whose write is awaited keeps it (12 R185, log 34). -/
def Slot.withoutReply : Slot → Slot
  | .awaitingWrite _ => .awaitingWrite none
  | .replyWaits _ => .empty
  | .periodicWrite => .periodicWrite
  | .empty => .empty

/-- The link is stopped: the receive buffer and every reply are discarded (12 R177, R185). -/
def Hlc.cut (h : Hlc) : Hlc := { h with rx := none, sending := none, waiting := none, slot := h.slot.withoutReply }

end Sys2Proof.Machine
end

