-- ==== Sys2Proof/Machine/Power.lean ====
section
/-! DEFINITION. The power supervisor (10): entry to ACTIVE, HOLDUP and DORMANT, warm return, restore, the end of a
checkpoint write, and the commands VMAIN_FALL to HOLD_UP_RESERVE_EXHAUSTION of the power family. -/

namespace Sys2Proof.Machine

/-! ### Entry to ACTIVE (10 R165, R170) -/

/-- MLI at an entry to ACTIVE (01 R14); no record has been taken since (06 R111). -/
def Mli.enterActive (x : Mli) : Mli where
  assembly := Assembly.empty
  queue := []
  expected := x.expected
  baseline := true
  silenceMs := 0
  silenceRunning := true
  suppression := some 5000
  reported := false
  latest := none

/-- BE at an entry to ACTIVE (02 R32, R34, R36). -/
def Be.enterActive (x : Be) (linkloss : Bool) : Be :=
  { x with ticks := 0, runs := Runs.zero, tickTimer := if linkloss then some 250 else none }

/-- COIL_EN is asserted in ACTIVE and HOLDUP but in FAULT DRIVER (06 R115). -/
def Sss.withCoilEnable (x : Sss) : Sss := { x with coilEnable := x.contactor != .fault .driver }

/-- The blocks whose order at an entry to ACTIVE no rule fixes. -/
inductive EntryAction where
  | calendarAndCredit
  | switch
  | limiterAndTamper
deriving DecidableEq, Repr

/-- One block's act at an entry to ACTIVE: TC evaluates and CL recomputes (03 R53, 04 R76); SSS acts on the set
(06 R120); LL makes its lapse test and TM its entry (07 R131, 08 R149). -/
def EntryAction.run (a : EntryAction) (s : State) : State :=
  match a with
  | .calendarAndCredit => recompute .ordinary (evaluateCalendar s)
  | .switch => enterActiveSss s
  | .limiterAndTamper => enterActiveTm (lapseTest s)

/-- The links start, the timers of MLI and BE are loaded and COIL_EN is asserted (10 R165). -/
def startActive (s : State) : State :=
  ((s.setMli s.mli.enterActive).setBe (s.be.enterActive ((s.cond .linkloss).state == .active))).setSss s.sss.withCoilEnable

/-- The actions in a drawn order (06 R120, log 5). -/
def entryOrder (n : Nat) : List EntryAction :=
  drawnOrder (Config.entryRank n) [.calendarAndCredit, .switch, .limiterAndTamper]

/-- The entry to ACTIVE reaches every block (10 R165). -/
def enterActive (s : State) : State :=
  ((entryOrder s.free).foldl (fun t a => a.run t) (startActive s)).countDraw

/-- A warm return (10 R165). -/
def warmReturn (s : State) : State :=
  let back := (s.setPs { s.ps with
      power := .active, periodic := secondsTimer 3600, vmainTimer := none, sampleTimer := none, returnHeld := false }).setHlc
    { s.hlc with rx := none, slot := .empty, sending := none, waiting := none }
  enterActive (raise (.restoredWarm (s.clock - s.ps.entryTime)) back)

/-! ### Restore and power-up (10 section 10.5) -/

/-- CE after a restore (05 R88, R104). -/
def Ce.restored (k : Keys) : Ce where
  keys := k
  lockout := k.attempts.map fun n => if n = 0 then secondsTimer 3600 else none
  group := none

/-- The contactor state a restore gives: FAULT DRIVER becomes OPEN (06 R120). -/
def Contactor.restored : Contactor → Contactor
  | .fault .driver => .opened
  | c => c

/-- SSS after a restore (06 R120). -/
def Sss.restored (c : Contents) : Sss :=
  { Sss.manufacture with
    reasons := c.reasons
    contactor := c.contactor.restored
    weldRetry := if c.contactor = .fault .welded then secondsTimer 900 else none
    coilEnable := true }

/-- LL after a restore (07 R132). R132 gives no temporary expiry: 0 is a DESIGN CHOICE (log 39). -/
def Ll.restored (c : Contents) : Ll :=
  if c.reasons.overload then { Ll.manufacture with reclose := .wait, recloseTimer := secondsTimer c.params.recloseS }
  else Ll.manufacture

/-- TC after a restore (03 R53, log 13). -/
def Tc.restored (c : Contents) (phase : Nat) : Tc where
  sched := c.sched
  phase := phase % phaseSecond
  clockValid := false
  trimUsed := 0
  allowanceDay := dayOf c.sched.clock
  band := 0
  friendly := false

/-- TM after a restore (08 R150). -/
def Tm.restored (c : Contents) : Tm where
  conds := c.conds
  filters := PerSensor.all .stopped
  hold := if c.holdRunning then secondsTimer (c.params.deemedHoldMin * 60) else none
  probeSources := c.probeSources
  deemed := false
  subst := PerPhase.all false
  tamperHeld := c.reasons.tamper

/-- PS after a restore (10 R170, R171). -/
def Ps.restored (x : Ps) (c : Contents) : Ps :=
  { Ps.manufacture with
    power := .active
    periodic := secondsTimer 3600
    slotA := x.slotA
    slotB := x.slotB
    meterId := c.meterId }

/-- A condition claims a log record: it is ACTIVE with that record ongoing. -/
def Cond.claims (x : Cond) (serial : Nat) : Bool := x.state == .active && x.ongoing == .serial serial

/-- Some condition claims a record. -/
def claimed (conds : PerCond Cond) (serial : Nat) : Bool := allConds.any fun c => (conds.get c).claims serial

/-- TM queries the log for the record of an ACTIVE condition: found CLOSED or ABSENT, the condition is UNRECORDED
(08 R150, 09 R156). -/
def Cond.reconciled (x : Cond) (l : Tl) : Cond :=
  match x.state, x.ongoing with
  | .active, .serial n =>
    match l.query n with
    | .opened => x
    | .closed => { x with ongoing := .unrecorded }
    | .absent => { x with ongoing := .unrecorded }
  | _, _ => x

def PerCond.map (f : Cond → Cond) (t : PerCond Cond) : PerCond Cond where
  meterCase := f t.meterCase
  cover := f t.cover
  mag := f t.mag
  neutral := f t.neutral
  vloss := t.vloss.map f
  reverse := t.reverse.map f
  bypass := t.bypass.map f
  linkloss := f t.linkloss
  probe := f t.probe

/-- TM brings its ongoing records into line with the log (08 R150). -/
def reconcile (s : State) : State :=
  let closed := s.tl.closeUnclaimed (claimed s.tm.conds) s.clock
  (s.setTl closed).setTm { s.tm with conds := PerCond.map (fun x => x.reconciled closed) s.tm.conds }

/-- Every block's contents and fresh values at a restore (10 R170). -/
def restoredState (c : Contents) (s : State) : State where
  params := c.params
  mli := Mli.manufacture
  be := { Be.manufacture with reg := c.reg }
  tc := Tc.restored c (Config.restorePhase s.free)
  cl := ⟨c.acct, c.reasons.credit⟩
  ce := Ce.restored c.keys
  sss := Sss.restored c
  ll := Ll.restored c
  tm := Tm.restored c
  tl := s.tl
  ps := s.ps.restored c
  hlc := Hlc.manufacture
  pins := s.pins
  free := s.free + 1
  pending := s.pending

/-- The part restores from an image (10 R170). -/
def restoreFrom (img : Image) (s : State) : State :=
  enterActive (raise (.restoredCold img.occasion img.generation) (reconcile (restoredState img.contents s)))

/-- Every block at its manufacture values but the log, the image slots, the pins and the model's own fields. -/
def manufactured (power : Power) (tl : Tl) (s : State) : State where
  params := Params.default
  mli := Mli.manufacture
  be := Be.manufacture
  tc := Tc.manufacture
  cl := Cl.manufacture
  ce := Ce.manufacture
  sss := Sss.manufacture
  ll := Ll.manufacture
  tm := Tm.manufacture
  tl := tl
  ps := { Ps.manufacture with power := power, slotA := s.ps.slotA, slotB := s.ps.slotB }
  hlc := Hlc.manufacture
  pins := s.pins
  free := s.free
  pending := s.pending

/-- A power-up without a valid image enters SHELF and closes every ongoing record at 0 (10 R169). -/
def enterShelf (s : State) : State := manufactured .shelf (s.tl.closeUnclaimed (fun _ => false) 0) s

/-- The core starts (10 R169). -/
def startCore (s : State) : State :=
  match s.ps.newest with
  | some (_, img) => restoreFrom img s
  | none => enterShelf s

/-! ### HOLDUP and DORMANT (10 sections 10.2 and 10.3) -/

/-- MLI at the departure from ACTIVE (01 R15). -/
def Mli.depart (x : Mli) : Mli :=
  { x with assembly := Assembly.empty, queue := [], silenceRunning := false, suppression := none }

/-- The VMAIN timer of a state that waits for the return of mains (10 R162, log 20, 36). -/
def waitForMains (vmain : Bool) : Timer := if vmain then some 500 else none

/-- The entry to DORMANT (10 R166). -/
def enterDormant (s : State) : State :=
  startWrite .dormantEntry (s.setPs { s.ps with
    power := .dormant, vmainTimer := waitForMains s.pins.vmain, sampleTimer := none, returnHeld := false })

/-- PS at the entry to HOLDUP (10 R163, log 37). -/
def Ps.enterHoldup (x : Ps) (clock : Nat) (vmain : Bool) : Ps :=
  { x with
    power := .holdup
    entryTime := clock
    periodic := none
    periodicWaits := false
    vmainTimer := waitForMains vmain
    returnHeld := false
    holdupHeld := false
    sampleTimer := secondsTimer 1 }

/-- Every block's departure from ACTIVE (10 R163). -/
def departBlocks (s : State) : State :=
  { s with
    mli := s.mli.depart
    be := { s.be with tickTimer := none }
    sss := s.sss.enterHoldup
    ll := s.ll.depart
    tm := s.tm.enterHoldup
    ps := s.ps.enterHoldup s.clock s.pins.vmain
    hlc := s.hlc.cut }

/-- The entry to HOLDUP with its write; with VBACK low the part goes on to DORMANT at once (10 R163, R166). -/
def enterHoldup (s : State) : State :=
  let held := startWrite .holdupEntry (departBlocks s)
  if s.pins.vback then held else enterDormant held

/-! ### The end of a write (10 R163, R166 to R168) -/

/-- The periodic timer is restarted by every write (10 R168). DEDUCED (log 47): it is restarted when the write
completes, and runs on until then. -/
def restartPeriodic (s : State) : State :=
  if s.ps.power = .active then s.setPs { s.ps with periodic := secondsTimer 3600 } else s

/-- A sequence still in its pulse when everything stops ends at its commanded end (10 R166, log 27). -/
def Sss.stopAll (x : Sss) : Sss :=
  { (if x.phase = .idle then x else x.abandon) with coilEnable := false }

/-- What follows the end of a write, by its occasion. -/
def writeFollows (occ : Occasion) (good : Bool) (s : State) : State :=
  match occ with
  | .commission => s.setHlc s.hlc.requestWritten
  | .code => s.setHlc s.hlc.requestWritten
  | .periodic => s.setHlc s.hlc.periodicWritten
  | .holdupEntry => s.setPs { s.ps with valid := good }
  | .dormantEntry => (s.setPs { s.ps with valid := false }).setSss s.sss.stopAll

/-- A write that waited begins at once (10 R166, R168). -/
def beginNext (s : State) : State :=
  match s.ps.nextWrites with
  | occ :: rest => beginWrite occ (s.setPs { s.ps with nextWrites := rest })
  | [] => s

/-- A HOLDUP entry that was held behind a request's write follows it (10 R163, log 22). -/
def releaseHoldup (s : State) : State :=
  if s.ps.holdupHeld ∧ s.ps.power = .active then enterHoldup s else s

/-- A write is over, its image good or not (10 R167). -/
def writeDone (good : Bool) (s : State) : State :=
  match s.ps.write with
  | some w =>
    let stored := restartPeriodic (s.setPs (s.ps.store w good))
    releaseHoldup (beginNext (writeFollows w.img.occasion good stored))
  | none => s

/-! ### Commands -/

/-- VMAIN falls below its threshold (10 R162). DEDUCED (log 21): in HOLDUP it cancels a return held back by a write, and
where VBACK has fallen before it in that wait, without effect, the part stays in HOLDUP with VBACK low. -/
def vmainFall (s : State) : State :=
  if s.pins.vmain then
    let low := s.setPins { s.pins with vmain := false }
    match s.ps.power with
    | .active => low.setPs { s.ps with vmainTimer := some 20 }
    | .shelf => low.setPs { s.ps with vmainTimer := some 20 }
    | .holdup => low.setPs { s.ps with vmainTimer := none, returnHeld := false }
    | .dormant => low.setPs { s.ps with vmainTimer := none }
    | .off => low.setPs { s.ps with vmainTimer := none }
  else s

/-- VMAIN_FALL (10 R162). -/
def execVmainFall (s : State) : Host.Outcome State Fault Refusal := .next (vmainFall s)

/-- VMAIN rises above its threshold (10 R162). -/
def vmainRise (s : State) : State :=
  if s.pins.vmain then s
  else
    let high := s.setPins { s.pins with vmain := true }
    match s.ps.power with
    | .active => high.setPs { s.ps with vmainTimer := none }
    | .shelf => high.setPs { s.ps with vmainTimer := none }
    | .holdup => high.setPs { s.ps with vmainTimer := some 500 }
    | .dormant => high.setPs { s.ps with vmainTimer := some 500 }
    | .off => high.setPs { s.ps with vmainTimer := some 500 }

/-- VMAIN_RISE (10 R162). -/
def execVmainRise (s : State) : Host.Outcome State Fault Refusal := .next (vmainRise s)

/-- The VMAIN timer has run out in ACTIVE: the entry to HOLDUP, or its wait for a request's write (10 R163). -/
def holdupEntry (vbackGood : Bool) (s : State) : State :=
  if s.ps.power = .active ∧ timerDue s.ps.vmainTimer ∧ s.pins.vmain = false then
    let seen := s.setPins { s.pins with vback := vbackGood }
    match s.hlc.slot with
    | .awaitingWrite _ =>
      (seen.setPs { s.ps with vmainTimer := none, holdupHeld := true }).setHlc
        { s.hlc with slot := .awaitingWrite none }
    | .empty => enterHoldup seen
    | .periodicWrite => enterHoldup seen
    | .replyWaits _ => enterHoldup seen
  else s

/-- HOLDUP_ENTRY (10 R163). -/
def execHoldupEntry (vbackGood : Bool) (s : State) : Host.Outcome State Fault Refusal := .next (holdupEntry vbackGood s)

/-- The VMAIN timer has run out in SHELF: the part goes off; its volatile state is lost (10 R162, log 18). -/
def shelfPowerLoss (s : State) : State :=
  if s.ps.power = .shelf ∧ timerDue s.ps.vmainTimer ∧ s.pins.vmain = false then manufactured .off s.tl s else s

/-- SHELF_POWER_LOSS (10 R162). -/
def execShelfPowerLoss (s : State) : Host.Outcome State Fault Refusal := .next (shelfPowerLoss s)

/-- The return by the valid flag (10 R165). -/
def doReturn (s : State) : State := if s.ps.valid then warmReturn s else startCore s

/-- The 500 ms VMAIN timer has run out in HOLDUP; a write under way holds the return back (10 R164, R165). -/
def returnDecision (s : State) : State :=
  if s.ps.power = .holdup ∧ timerDue s.ps.vmainTimer ∧ s.pins.vmain = true then
    if s.ps.write.isSome then s.setPs { s.ps with vmainTimer := none, returnHeld := true } else doReturn s
  else s

/-- RETURN_DECISION (10 R165). -/
def execReturnDecision (s : State) : Host.Outcome State Fault Refusal := .next (returnDecision s)

/-- A return held back follows the write (10 R164). -/
def deferredReturn (s : State) : State :=
  if s.ps.power = .holdup ∧ s.ps.returnHeld ∧ s.ps.write.isNone then doReturn s else s

/-- DEFERRED_RETURN (10 R164). -/
def execDeferredReturn (s : State) : Host.Outcome State Fault Refusal := .next (deferredReturn s)

/-- VBACK falls; in HOLDUP, with no return held back, the part enters DORMANT (10 R162, R166; log 21). -/
def dormantEntry (s : State) : State :=
  let low := s.setPins { s.pins with vback := false }
  if s.ps.power = .holdup ∧ s.ps.returnHeld = false then enterDormant low else low

/-- DORMANT_ENTRY (10 R166). -/
def execDormantEntry (s : State) : Host.Outcome State Fault Refusal := .next (dormantEntry s)

/-- VMAIN has been good for 500 ms with the part off or DORMANT (10 R169, log 20). -/
def powerUp (s : State) : State :=
  if (s.ps.power = .off ∨ s.ps.power = .dormant) ∧ timerDue s.ps.vmainTimer ∧ s.pins.vmain = true
      ∧ s.ps.write.isNone then startCore s
  else s

/-- POWER_UP (10 R169). -/
def execPowerUp (s : State) : Host.Outcome State Fault Refusal := .next (powerUp s)

/-- A periodic write takes the slot (10 R168). -/
def startPeriodic (s : State) : State := startWrite .periodic (s.setHlc { s.hlc with slot := .periodicWrite })

/-- The periodic timer has run out: the write takes an empty slot, or waits for it (10 R168). -/
def periodicCheckpoint (s : State) : State :=
  if s.ps.power = .active ∧ timerDue s.ps.periodic then
    if s.hlc.slot = .empty then startPeriodic (s.setPs { s.ps with periodic := none })
    else s.setPs { s.ps with periodic := none, periodicWaits := true }
  else s

/-- PERIODIC_CHECKPOINT (10 R168). -/
def execPeriodicCheckpoint (s : State) : Host.Outcome State Fault Refusal := .next (periodicCheckpoint s)

/-- A periodic write that waited finds the slot free (10 R168). -/
def deferredPeriodicWrite (s : State) : State :=
  if s.ps.power = .active ∧ s.ps.periodicWaits ∧ s.hlc.slot = .empty then
    startPeriodic (s.setPs { s.ps with periodicWaits := false })
  else s

/-- DEFERRED_PERIODIC_WRITE (10 R168). -/
def execDeferredPeriodicWrite (s : State) : Host.Outcome State Fault Refusal := .next (deferredPeriodicWrite s)

/-- CHECKPOINT_WRITE_DONE: the write is complete; the operand says whether the image passes its check (10 R167,
log 24). -/
def execCheckpointWriteDone (imageGood : Bool) (s : State) : Host.Outcome State Fault Refusal :=
  .next (writeDone imageGood s)

/-- The hold-up reserve runs out under a write made from it (10 R167, log 24). -/
def reserveExhausted (s : State) : State :=
  if s.ps.power ≠ .active ∨ s.pins.vmain = false then writeDone false s else s

/-- HOLD_UP_RESERVE_EXHAUSTION (10 R167). -/
def execHoldUpReserveExhaustion (s : State) : Host.Outcome State Fault Refusal := .next (reserveExhausted s)

end Sys2Proof.Machine
end

