-- ==== Sys2Proof/Machine/Commission.lean ====
section
/-! DEFINITION. The stages of an executed COMMISSION request (11 R173). -/

namespace Sys2Proof.Machine

/-- TC's clock and flags at commissioning; the rate table, the profiles and the week map stay (03 R53). -/
def Tc.commissioned (x : Tc) (minute : Nat) : Tc :=
  { x with
    sched := { x.sched with clock := minute * 60, cycleIndex := 0 }
    phase := 0
    clockValid := true
    trimUsed := 0
    allowanceDay := 0 }

/-- CE at commissioning (05 R104). -/
def Ce.commissioned (r : CommissionRequest) : Ce where
  keys := { meterKey := r.meterKey, keyRevision := r.keyRevision, floor := 0, history := [], attempts := PerSource.all 5 }
  lockout := PerSource.all none
  group := none

/-- SSS at commissioning: the set empty, no fault, COIL_EN asserted (06 R122). -/
def Sss.commissioned : Sss := { Sss.manufacture with reasons := Reasons.empty, coilEnable := true }

/-- Stages 1 and 2: parameters and calendar. -/
def commissionCalendar (r : CommissionRequest) (s : State) : State :=
  evaluateCalendar ((s.setParams r.params).setTc (s.tc.commissioned r.minute))

/-- Stages 3 to 5: BE, MLI, LL, CE and SSS. -/
def commissionBlocks (r : CommissionRequest) (s : State) : State :=
  { s with
    be := Be.manufacture
    mli := Mli.manufacture
    ll := Ll.manufacture
    ce := Ce.commissioned r
    sss := Sss.commissioned }

/-- Stage 6: the ledger takes its values and recomputes (04 R75). -/
def commissionLedger (r : CommissionRequest) (s : State) : State :=
  recompute .ordinary (s.setCl ⟨Account.commissioned s.params r.opening, false⟩)

/-- Stage 7: TM starts afresh, TL closes every ongoing record at the commissioning clock (08 R151). -/
def commissionTamper (s : State) : State :=
  evaluateTamper ((s.setTm Tm.manufacture).setTl (s.tl.closeUnclaimed (fun _ => false) s.clock))

/-- Stage 8: the power state becomes ACTIVE and the entry reaches every block, in the order of the stages. -/
def commissionEntry (r : CommissionRequest) (s : State) : State :=
  let ready := s.setPs { s.ps with
    power := .active, valid := false, periodic := secondsTimer 3600, meterId := r.meterId }
  [EntryAction.calendarAndCredit, .switch, .limiterAndTamper].foldl (fun t a => a.run t) (startActive ready)

/-- The nine stages of 11 R173; the request holds the slot with its reply until the write is complete. -/
def commission (r : CommissionRequest) (reply : Reply) (s : State) : State :=
  let done := commissionEntry r (commissionTamper (commissionLedger r (commissionBlocks r (commissionCalendar r s))))
  startWrite .commission (done.setHlc { done.hlc with slot := .awaitingWrite (some reply) })

end Sys2Proof.Machine
end

