-- ==== Sys2Proof/Machine/Reports.lean ====
section
/-! DEFINITION. The layouts of replies, notices and log records (12 R181 to R183). -/

namespace Sys2Proof.Machine

/-! ### Lists of 12 R181 -/

def Power.number : Power → Nat
  | .active => 1
  | .shelf => 0
  | .holdup => 0
  | .dormant => 0
  | .off => 0

def CreditState.number : CreditState → Nat
  | .inCredit => 0
  | .low => 1
  | .offer => 2
  | .emergency => 3
  | .exhausted => 4
  | .floor => 5

def Contactor.number : Contactor → Nat
  | .closed => 0
  | .opening => 1
  | .opened => 2
  | .armed => 3
  | .closing => 4
  | .fault _ => 5

def FaultKind.number : FaultKind → Nat
  | .welded => 1
  | .noClose => 2
  | .driver => 3

/-- The fault subkind of a contactor state, 0 for none. -/
def Contactor.subkind : Contactor → Nat
  | .fault k => k.number
  | .closed => 0
  | .opening => 0
  | .opened => 0
  | .armed => 0
  | .closing => 0

def Reasons.number (x : Reasons) : Nat := bitField [x.credit, x.overload, x.tamper, x.remote, x.service]

/-- The number of a source (12 R181). -/
def sourceNumber : Source → Nat
  | .keypad => 0
  | .remote => 1

def Coil.number : Coil → Nat
  | .none => 0
  | .open => 1
  | .close => 2

def Occasion.number : Occasion → Nat
  | .commission => 0
  | .code => 1
  | .periodic => 2
  | .holdupEntry => 3
  | .dormantEntry => 4

def DebtCause.number : DebtCause → Nat
  | .debitCut => 0
  | .allowanceRaise => 1
  | .debtAdd => 2

/-- A serial as it is sent; 0 for UNRECORDED (12 R182). -/
def Ongoing.number : Ongoing → Nat
  | .serial n => n
  | .unrecorded => 0
  | .none => 0

/-! ### Notices (12 R182) -/

def NoticeBody.kind : NoticeBody → Nat
  | .supply _ _ => 1
  | .credit _ => 2
  | .tamperStart _ _ => 3
  | .tamperEnd _ _ => 4
  | .logFull _ => 5
  | .contactorFault _ _ _ _ => 6
  | .clockSet _ => 7
  | .restoredWarm _ => 8
  | .restoredCold _ _ => 8
  | .groupDropped _ _ _ _ _ => 9
  | .lockout _ _ => 10
  | .debtSaturated _ _ => 11
  | .overload _ _ _ => 12

/-- The detail of a notice before its padding. -/
def NoticeBody.detail : NoticeBody → List Byte
  | .supply c u => bytesOf 1 c.number ++ bytesOf 1 u.toNat
  | .credit c => bytesOf 1 c.number
  | .tamperStart c n => bytesOf 1 c.number ++ bytesOf 4 n.number
  | .tamperEnd c n => bytesOf 1 c.number ++ bytesOf 4 n.number
  | .logFull c => bytesOf 1 c.number
  | .contactorFault k pulses loadv coil =>
    bytesOf 1 k.number ++ bytesOf 1 pulses ++ bytesOf 1 (bitField (phaseList loadv)) ++ bytesOf 1 coil.number
  | .clockSet t => bytesOf 4 t
  | .restoredWarm length => bytesOf 1 0 ++ bytesOf 4 length
  | .restoredCold o g => bytesOf 1 (1 + o.number) ++ bytesOf 4 g
  | .groupDropped c n parts src timeout =>
    bytesOf 1 c.number ++ bytesOf 2 n ++ bytesOf 1 (partSet parts) ++ bytesOf 1 (sourceNumber src + 2 * timeout.toNat)
  | .lockout src ends => bytesOf 1 (sourceNumber src) ++ bytesOf 1 ends.toNat
  | .debtSaturated c loss => bytesOf 1 c.number ++ bytesOf 4 loss
  | .overload locked limit count => bytesOf 1 locked.toNat ++ bytesOf 3 limit ++ bytesOf 1 count

/-- The ten bytes of a notice. -/
def Notice.bytes (n : Notice) : List Byte :=
  bytesOf 1 n.body.kind ++ bytesOf 4 n.seconds
    ++ (n.body.detail ++ List.replicate (5 - n.body.detail.length) 0x00#8)

/-! ### Log records (12 R183) -/

/-- The extreme in 14 bits and kind units (12 R183). -/
def TamperRecord.extremeSent (r : TamperRecord) : Nat :=
  let x := match r.extreme with
    | some m => m.natAbs
    | none => 0
  match r.cond.kind with
  | .neutral => min 16383 (x / 10)
  | .bypass => min 16383 (x / 10)
  | .reverse => min 16383 (x / 2)
  | .linkloss => min 16383 (x / 4)
  | .meterCase => 0
  | .cover => 0
  | .mag => 0
  | .vloss => 0
  | .probe => 0

/-- The fifteen bytes of a record. -/
def TamperRecord.bytes (r : TamperRecord) : List Byte :=
  let e := r.extremeSent
  bytesOf 4 r.serial
    ++ bytesOf 1 (r.cond.number * 16
        + bitField [r.actions.opens, r.inHoldup, r.clockValid, r.stop.isSome])
    ++ bytesOf 1 (r.actions.deemed.toNat * 128 + r.actions.latch.toNat * 64 + e / 256)
    ++ bytesOf 1 (e % 256)
    ++ bytesOf 4 r.start
    ++ bytesOf 4 (r.stop.getD 0)

/-! ### Replies (12 R181), each without its status -/

def identifyReply (s : State) : List Byte :=
  bytesOf 2 Config.vendorCode ++ bytesOf 2 Config.partCode ++ bytesOf 1 Config.siliconRevision
    ++ bytesOf 4 (if s.ps.power = .shelf then 0 else s.ps.meterId) ++ bytesOf 1 s.ce.keys.keyRevision

def statusReply (s : State) : List Byte :=
  bytesOf 1 s.ps.power.number ++ bytesOf 1 s.cl.acct.state.number ++ bytesOf 1 s.sss.contactor.number
    ++ bytesOf 1 s.sss.contactor.subkind ++ bytesOf 1 s.sss.reasons.number
    ++ bytesOf 2 (bitField (allKinds.map s.tm.kindInForce))
    ++ bytesOf 1 (bitField [s.sss.unverified, s.tc.clockValid, s.tl.isFull])
    ++ bytesOf 1 s.hlc.queue.length

def ledgerReply (s : State) : List Byte :=
  let a := s.cl.acct
  bytesOfInt 4 a.balance ++ bytesOfInt 4 (floorOf s.params) ++ bytesOf 4 a.residue ++ bytesOf 4 a.debt
    ++ bytesOf 1 (bitField [a.available, a.accepted]) ++ bytesOf 1 a.state.number ++ bytesOfInt 4 a.opening
    ++ bytesOf 6 a.crIn ++ bytesOf 6 a.crRecovered ++ bytesOf 6 a.crCharged ++ bytesOf 6 a.crRaised
    ++ bytesOf 6 a.crDeferred

def energyReply (s : State) : List Byte :=
  let x := s.be.reg
  bytesOf 6 x.billedWh ++ bytesOf 6 x.cycleWh
    ++ bytesOf 6 x.importWh.p1 ++ bytesOf 6 x.importWh.p2 ++ bytesOf 6 x.importWh.p3
    ++ bytesOf 6 x.exportWh.p1 ++ bytesOf 6 x.exportWh.p2 ++ bytesOf 6 x.exportWh.p3 ++ bytesOf 3 s.be.bLast

def tariffReply (s : State) : List Byte :=
  bytesOf 1 s.tc.band.val ++ bytesOf 1 s.blockInForce.val ++ bytesOf 4 s.rateInForce ++ bytesOf 1 s.tc.friendly.toNat
    ++ bytesOf 2 s.tc.sched.cycleIndex

def timeReply (s : State) : List Byte :=
  bytesOf 4 s.clock ++ bytesOf 1 s.tc.clockValid.toNat ++ bytesOf 2 (dayOf s.clock)
    ++ bytesOf 1 (weekdayOf s.params s.clock) ++ bytesOf 2 (minuteOfDay s.clock) ++ bytesOf 1 s.tc.remaining

/-- The notices a GET_EVENTS reply returns (12 R182). -/
def eventsReturned (h : Hlc) : List Notice := h.queue.take 6

def eventsReply (h : Hlc) : List Byte :=
  bytesOf 1 h.overflow.toNat ++ bytesOf 1 (eventsReturned h).length
    ++ (eventsReturned h).flatMap Notice.bytes

/-- The records of a record read (09 R160). -/
def logRead (x : Tl) (start count : Nat) : List TamperRecord := (x.records.drop start).take count

def PerKind.toList {α : Type} (t : PerKind α) : List α := allKinds.map t.get

def logSummary (x : Tl) : List Byte :=
  bytesOf 1 x.records.length ++ bytesOf 4 x.nextSerial ++ bytesOf 1 x.fullNoticed.toNat
    ++ x.unrecorded.toList.flatMap (bytesOf 2)

/-- A READ_TAMPER_LOG reply; a start position of 255 is a summary read (12 R183). -/
def logReply (x : Tl) (start count : Nat) : List Byte :=
  if start = 255 then logSummary x
  else bytesOf 1 x.records.length ++ (logRead x start count).flatMap TamperRecord.bytes

end Sys2Proof.Machine
end

