-- ==== Sys2Proof/Machine/HostLink.lean ====
section
/-! DEFINITION. The host link controller (12): how a good frame is taken, the execution of each request, the
receiver, LINK_RESET, and the commands IDENTIFY to LINK_RESET_RELEASE. -/

namespace Sys2Proof.Machine

/-! ### Checks of a request (12 R180, R181) -/

/-- The kind is in the table of 12 R181. -/
def kindKnown (kind : Nat) : Bool :=
  (decide (0x01 ≤ kind) && decide (kind ≤ 0x08)) || kind == 0x10 || kind == 0x11 || kind == 0x12 || kind == 0x20

/-- The payload has the length its kind asks (12 R181). -/
def lengthGood (kind n : Nat) : Bool :=
  match kind with
  | 0x08 => n == 2
  | 0x10 => decide (1 ≤ n)
  | 0x11 => n == 1
  | 0x12 => n == 1
  | 0x20 => decide (20 ≤ n) && (n - 20) % 3 == 0
  | _ => n == 0

/-- The kind is served in the power state (12 R181). -/
def servedIn (kind : Nat) (power : Power) : Bool :=
  match kind with
  | 0x10 => power == .active
  | 0x11 => power == .active
  | 0x12 => power == .active
  | 0x20 => power == .shelf
  | _ => true

/-- The payload's fields lie in the values the kind allows (12 R181, 09 R160, 11 R172). -/
def fieldsGood (kind : Nat) (payload : List Byte) : Bool :=
  match kind with
  | 0x08 =>
    let start := fieldAt payload 0 1
    let count := fieldAt payload 1 1
    decide (1 ≤ count) && decide (count ≤ 4) && (decide (start ≤ 63) || start == 255)
  | 0x10 => decide (fieldAt payload 0 1 ≤ 1)
  | 0x11 => decide (fieldAt payload 0 1 ≤ 1)
  | 0x20 => (commissionOf payload).allowed
  | _ => true

/-- The status of a request that is not executed; absent for one that is (12 R180). -/
def refusal (kind : Byte) (payload : List Byte) (power : Power) : Option Status :=
  if kindKnown kind.toNat = false then some .badKind
  else if lengthGood kind.toNat payload.length = false then some .badLength
  else if servedIn kind.toNat power = false then some .wrongState
  else if fieldsGood kind.toNat payload = false then some .badValue
  else none

/-! ### Execution of each request -/

/-- The reply OK with a result is made. -/
def replyOk (kind : Byte) (result : List Byte) (s : State) : State := handReply (replyTo kind .ok result) s

def doIdentify (s : State) : State := replyOk 0x01#8 (identifyReply s) s
def doGetStatus (s : State) : State := replyOk 0x02#8 (statusReply s) s
def doGetLedger (s : State) : State := replyOk 0x03#8 (ledgerReply s) s
def doGetEnergy (s : State) : State := replyOk 0x04#8 (energyReply s) s
def doGetTariff (s : State) : State := replyOk 0x05#8 (tariffReply s) s
def doGetTime (s : State) : State := replyOk 0x06#8 (timeReply s) s

/-- GET_EVENTS: the notices returned leave the queue and the overflow flag is cleared (12 R182). -/
def doGetEvents (s : State) : State :=
  replyOk 0x07#8 (eventsReply s.hlc) (s.setHlc { s.hlc with queue := s.hlc.queue.drop 6, overflow := false })

def doReadTamperLog (payload : List Byte) (s : State) : State :=
  replyOk 0x08#8 (logReply s.tl (fieldAt payload 0 1) (fieldAt payload 1 1)) s

/-- The source of a SUBMIT_CODE request (12 R181). -/
def sourceOf (n : Nat) : Source := if n = 0 then .keypad else .remote

/-- The reply of a judged code: at once, or after the checkpoint write of a code consumed or applied (05 R84). -/
def replyJudged (j : Judged) : State :=
  let reply := replyTo 0x10#8 .ok j.bytes
  if j.written then
    startWrite .code (j.state.setHlc { j.state.hlc with slot := .awaitingWrite (some reply) })
  else handReply reply j.state

/-- SUBMIT_CODE is passed to CE (05 R77, R79). -/
def doSubmitCode (payload : List Byte) (s : State) : State :=
  replyJudged (judgeCode (sourceOf (fieldAt payload 0 1)) payload.tail s)

/-- A RESTORE press is answered OK (06 R116). -/
def restoreTaken (s : State) : Bool :=
  match s.sss.contactor with
  | .armed => true
  | .opened => s.sss.reasons == { Reasons.empty with overload := true } && s.ll.reclose == .lockout
  | .fault .noClose => s.sss.reasons.isEmpty
  | .fault .welded => false
  | .fault .driver => false
  | .closed => false
  | .opening => false
  | .closing => false

/-- What a RESTORE press that is answered OK does (06 R116). -/
def restorePress (s : State) : State := if s.sss.contactor = .opened then clearLockout s else startClosing s

/-- CUSTOMER_KEY with RESTORE: results OK 0 and NOT_ARMED 1 (06 R116, 12 R181). -/
def doRestore (s : State) : State :=
  if restoreTaken s then replyOk 0x11#8 [0x00#8] (restorePress s) else replyOk 0x11#8 [0x01#8] s

/-- CUSTOMER_KEY with ACCEPT_EMERGENCY: results OK 0 and NOT_OFFERED 2 (04 R70, 12 R181). -/
def doAcceptEmergency (s : State) : State :=
  if emergencyOffered s then replyOk 0x11#8 [0x00#8] (takeEmergency s) else replyOk 0x11#8 [0x02#8] s

/-- CUSTOMER_KEY (12 R181). -/
def doCustomerKey (payload : List Byte) (s : State) : State :=
  if fieldAt payload 0 1 = 0 then doRestore s else doAcceptEmergency s

/-- TRIM_CLOCK: the reply carries the seconds applied (03 R42). -/
def doTrimClock (payload : List Byte) (s : State) : State :=
  let d := signedOf 8 (fieldAt payload 0 1)
  replyOk 0x12#8 (bytesOfInt 1 (s.tc.compareAllowance.trimAmount d)) (trimClock d s)

def doCommission (payload : List Byte) (s : State) : State :=
  commission (commissionOf payload) (replyTo 0x20#8 .ok []) s

/-- A request that passed its checks is executed by its owning block (12 R180). -/
def runRequest (kind : Byte) (payload : List Byte) (s : State) : State :=
  match kind.toNat with
  | 0x01 => doIdentify s
  | 0x02 => doGetStatus s
  | 0x03 => doGetLedger s
  | 0x04 => doGetEnergy s
  | 0x05 => doGetTariff s
  | 0x06 => doGetTime s
  | 0x07 => doGetEvents s
  | 0x08 => doReadTamperLog payload s
  | 0x10 => doSubmitCode payload s
  | 0x11 => doCustomerKey payload s
  | 0x12 => doTrimClock payload s
  | 0x20 => doCommission payload s
  | _ => s

/-- A request takes the empty slot: it is checked, and refused or executed (12 R180). -/
def takeRequest (kind : Byte) (payload : List Byte) (s : State) : State :=
  match refusal kind payload s.ps.power with
  | some st => handReply (replyTo kind st []) s
  | none => runRequest kind payload s

/-- What arrives is a frame the link can deliver as a request: at most 63 payload bytes, a kind below 0x80
(12 R178, R179), on a link that is served (12 R177, R185). -/
def frameDelivered (kind : Byte) (payload : List Byte) (s : State) : Bool :=
  s.linkServed && decide (payload.length ≤ 63) && decide (kind.toNat < 0x80)

/-- A good frame arrives (12 R180). -/
def takeFrame (kind : Byte) (payload : List Byte) (s : State) : State :=
  if frameDelivered kind payload s then
    if s.hlc.slot = .empty then takeRequest kind payload s else s.setHlc (s.hlc.busy kind)
  else s

/-! ### Commands: requests -/

/-- IDENTIFY (12 R181). -/
def execIdentify (payload : List Byte) (s : State) : Host.Outcome State Fault Refusal :=
  .next (takeFrame 0x01#8 payload s)

/-- GET_STATUS (12 R181). -/
def execGetStatus (payload : List Byte) (s : State) : Host.Outcome State Fault Refusal :=
  .next (takeFrame 0x02#8 payload s)

/-- GET_LEDGER (04 R74). -/
def execGetLedger (payload : List Byte) (s : State) : Host.Outcome State Fault Refusal :=
  .next (takeFrame 0x03#8 payload s)

/-- GET_ENERGY (02 R38). -/
def execGetEnergy (payload : List Byte) (s : State) : Host.Outcome State Fault Refusal :=
  .next (takeFrame 0x04#8 payload s)

/-- GET_TARIFF (03 R54). -/
def execGetTariff (payload : List Byte) (s : State) : Host.Outcome State Fault Refusal :=
  .next (takeFrame 0x05#8 payload s)

/-- GET_TIME (03 R54). -/
def execGetTime (payload : List Byte) (s : State) : Host.Outcome State Fault Refusal :=
  .next (takeFrame 0x06#8 payload s)

/-- GET_EVENTS (12 R182). -/
def execGetEvents (payload : List Byte) (s : State) : Host.Outcome State Fault Refusal :=
  .next (takeFrame 0x07#8 payload s)

/-- READ_TAMPER_LOG (09 R160). -/
def execReadTamperLog (payload : List Byte) (s : State) : Host.Outcome State Fault Refusal :=
  .next (takeFrame 0x08#8 payload s)

/-- SUBMIT_CODE (05 R79). -/
def execSubmitCode (payload : List Byte) (s : State) : Host.Outcome State Fault Refusal :=
  .next (takeFrame 0x10#8 payload s)

/-- RESTORE: a CUSTOMER_KEY frame whose key byte is 0; `extra` is what the frame holds after it (06 R116). -/
def execRestore (extra : List Byte) (s : State) : Host.Outcome State Fault Refusal :=
  .next (takeFrame 0x11#8 (0x00#8 :: extra) s)

/-- ACCEPT_EMERGENCY: a CUSTOMER_KEY frame whose key byte is 1 (04 R70). -/
def execAcceptEmergency (extra : List Byte) (s : State) : Host.Outcome State Fault Refusal :=
  .next (takeFrame 0x11#8 (0x01#8 :: extra) s)

/-- TRIM_CLOCK (03 R42). -/
def execTrimClock (payload : List Byte) (s : State) : Host.Outcome State Fault Refusal :=
  .next (takeFrame 0x12#8 payload s)

/-- COMMISSION (11 R173). -/
def execCommission (payload : List Byte) (s : State) : Host.Outcome State Fault Refusal :=
  .next (takeFrame 0x20#8 payload s)

/-- BAD_KIND: a good frame of a kind the table does not hold (12 R180). -/
def execBadKind (kind : Byte) (payload : List Byte) (s : State) : Host.Outcome State Fault Refusal :=
  .next (takeFrame kind payload s)

/-- BUSY: a good frame that finds the slot occupied (12 R180). One that finds it empty is taken as any frame. -/
def execBusy (kind : Byte) (payload : List Byte) (s : State) : Host.Outcome State Fault Refusal :=
  .next (takeFrame kind payload s)

/-! ### The receiver (12 R179) -/

def State.setRx (s : State) (rx : Option PartialFrame) : State := s.setHlc { s.hlc with rx := rx }

/-- The check of a whole frame, start byte included, holds (12 R178, R179). -/
def checkHolds (bytes : List Byte) (n : Nat) : Bool :=
  frameCheck ((bytes.drop 1).take (n + 1)) == BitVec.ofNat 16 (natOf (bytes.drop (n + 2)))

/-- The last check byte has arrived: the frame is discarded, or taken as a good frame (12 R179). -/
def frameComplete (bytes : List Byte) (n : Nat) (s : State) : State :=
  if checkHolds bytes n then takeFrame ((bytes.drop 2).headD 0x00#8) ((bytes.drop 3).take (n - 1)) (s.setRx none)
  else s.setRx none

/-- A byte arrives inside an open frame (12 R179). -/
def collectByte (bytes : List Byte) (s : State) : State :=
  let n := ((bytes.drop 1).headD 0x00#8).toNat
  if n = 0 ∨ 64 < n then s.setRx none
  else if bytes.length < n + 4 then s.setRx (some ⟨bytes, 0⟩)
  else frameComplete bytes n s

/-- A byte arrives on RXD (12 R177, R179). -/
def receiveByte (s : State) (b : LineByte) : State :=
  if s.linkServed then
    if b.framingError then s.setRx none
    else
      match s.hlc.rx with
      | none => if b.data = 0xC3#8 then s.setRx (some ⟨[0xC3#8], 0⟩) else s
      | some f => collectByte (f.bytes ++ [b.data]) s
  else s

/-- FRAME_DISCARD: bytes arrive that hold a frame to be discarded, or any others (12 R179, log 11). -/
def execFrameDiscard (bytes : List LineByte) (s : State) : Host.Outcome State Fault Refusal :=
  .next (bytes.foldl receiveByte s)

/-- More than 20 ms have passed since the last byte of an open frame (12 R179, log 38). -/
def frameTimeout (s : State) : State :=
  match s.hlc.rx with
  | some f => if 20 < f.gapMs then s.setRx none else s
  | none => s

/-- FRAME_TIMEOUT (12 R179). -/
def execFrameTimeout (s : State) : Host.Outcome State Fault Refusal := .next (frameTimeout s)

/-! ### LINK_RESET (12 R185) -/

/-- HLC at an assertion: everything on its way is discarded, the event queue emptied (12 R185). -/
def Hlc.reset (h : Hlc) : Hlc := { h.cut with queue := [], overflow := false }

/-- LINK_RESET is held low; outside SHELF and ACTIVE it is ignored (12 R177, R185; log 33). -/
def linkResetAssert (s : State) : State :=
  let low := s.setPins { s.pins with linkResetLow := true }
  if s.linkServed then low.setHlc s.hlc.reset else low

/-- LINK_RESET_ASSERT (12 R185). -/
def execLinkResetAssert (s : State) : Host.Outcome State Fault Refusal := .next (linkResetAssert s)

/-- LINK_RESET rises: HLC begins hunting (12 R185). -/
def linkResetRelease (s : State) : State :=
  if s.pins.linkResetLow then (s.setPins { s.pins with linkResetLow := false }).setRx none else s

/-- LINK_RESET_RELEASE (12 R185). -/
def execLinkResetRelease (s : State) : Host.Outcome State Fault Refusal := .next (linkResetRelease s)

end Sys2Proof.Machine
end

