-- ==== Sys2Proof/Machine/MeterLink.lean ====
section
/-! DEFINITION. The meter link intake (01): bursts, arrivals and silence, and the commands BURST_END,
SILENCE_REPORT and SUPPRESSION_TIMER_EXPIRY. -/

namespace Sys2Proof.Machine

/-- A good record joins the tail of a queue of at most 4, or is dropped (01 R6). -/
def joinIntake (queue : List IntervalRecord) (r : IntervalRecord) : List IntervalRecord :=
  if queue.length < 4 then queue ++ [r] else queue

/-- A good record arrives: the silence run ends, TM hears of it, the record is offered to the queue (01 R6). -/
def arrival (r : IntervalRecord) (s : State) : State :=
  let heard := linkGoodToTm (s.setMli { s.mli with silenceMs := 0, reported := false })
  heard.setMli { heard.mli with queue := joinIntake heard.mli.queue r }

/-- A burst has ended: it is judged and the assembly emptied (01 R1, R2). Outside ACTIVE nothing is received. -/
def burstEnd (bytes : List LineByte) (s : State) : State :=
  if s.ps.power = .active then
    let a := bytes.foldl Assembly.take s.mli.assembly
    let emptied := s.setMli { s.mli with assembly := Assembly.empty }
    if a.isGood then arrival (recordOf a.bytes) emptied else emptied
  else s

/-- BURST_END (01 R1, R2). -/
def execBurstEnd (bytes : List LineByte) (s : State) : Host.Outcome State Fault Refusal := .next (burstEnd bytes s)

/-- A silence of 2,000 ms has not been reported in this run (01 R11). -/
def silenceUnreported (s : State) : Bool := decide (2000 ≤ s.mli.silenceMs) && !s.mli.reported

/-- The suppression timer is above 0 (01 R12). -/
def suppressed (s : State) : Bool :=
  match s.mli.suppression with
  | some n => decide (0 < n)
  | none => false

/-- MLI makes a silence report (01 R11, R13). -/
def reportSilence (s : State) : State := silenceToTm (s.setMli { s.mli with reported := true })

/-- The silence timer reaches 2,000 ms with the suppression timer run out (01 R11). -/
def silenceReport (s : State) : State :=
  if s.ps.power = .active ∧ s.mli.silenceRunning ∧ silenceUnreported s ∧ suppressed s = false then reportSilence s
  else s

/-- SILENCE_REPORT (01 R11). -/
def execSilenceReport (s : State) : Host.Outcome State Fault Refusal := .next (silenceReport s)

/-- The suppression timer has reached 0 (01 R12). -/
def suppressionTimerExpiry (s : State) : State :=
  if s.ps.power = .active ∧ timerDue s.mli.suppression then
    let stopped := s.setMli { s.mli with suppression := none }
    if silenceUnreported s then reportSilence stopped else stopped
  else s

/-- SUPPRESSION_TIMER_EXPIRY (01 R12). -/
def execSuppressionTimerExpiry (s : State) : Host.Outcome State Fault Refusal := .next (suppressionTimerExpiry s)

end Sys2Proof.Machine
end

