-- ==== Sys2Proof/Machine/Dispatch.lean ====
section
/-! DEFINITION. The dispatch: one arm for each command. -/

namespace Sys2Proof.Machine

def exec (i : Instr) (s : State) : Host.Outcome State Fault Refusal :=
  match i with
  | .identify payload => Sys2Proof.Machine.execIdentify payload s
  | .getStatus payload => Sys2Proof.Machine.execGetStatus payload s
  | .getLedger payload => Sys2Proof.Machine.execGetLedger payload s
  | .getEnergy payload => Sys2Proof.Machine.execGetEnergy payload s
  | .getTariff payload => Sys2Proof.Machine.execGetTariff payload s
  | .getTime payload => Sys2Proof.Machine.execGetTime payload s
  | .getEvents payload => Sys2Proof.Machine.execGetEvents payload s
  | .readTamperLog payload => Sys2Proof.Machine.execReadTamperLog payload s
  | .submitCode payload => Sys2Proof.Machine.execSubmitCode payload s
  | .restore extra => Sys2Proof.Machine.execRestore extra s
  | .acceptEmergency extra => Sys2Proof.Machine.execAcceptEmergency extra s
  | .trimClock payload => Sys2Proof.Machine.execTrimClock payload s
  | .commission payload => Sys2Proof.Machine.execCommission payload s
  | .badKind kind payload => Sys2Proof.Machine.execBadKind kind payload s
  | .busy kind payload => Sys2Proof.Machine.execBusy kind payload s
  | .frameDiscard bytes => Sys2Proof.Machine.execFrameDiscard bytes s
  | .frameTimeout => Sys2Proof.Machine.execFrameTimeout s
  | .replySent => Sys2Proof.Machine.execReplySent s
  | .linkResetAssert => Sys2Proof.Machine.execLinkResetAssert s
  | .linkResetRelease => Sys2Proof.Machine.execLinkResetRelease s
  | .burstEnd bytes => Sys2Proof.Machine.execBurstEnd bytes s
  | .silenceReport => Sys2Proof.Machine.execSilenceReport s
  | .suppressionTimerExpiry => Sys2Proof.Machine.execSuppressionTimerExpiry s
  | .recordTake loadv => Sys2Proof.Machine.execRecordTake loadv s
  | .silenceTick => Sys2Proof.Machine.execSilenceTick s
  | .sensorInputChange sensor shows => Sys2Proof.Machine.execSensorInputChange sensor shows s
  | .sensorFilterExpiry sensor => Sys2Proof.Machine.execSensorFilterExpiry sensor s
  | .deemedHoldExpiry => Sys2Proof.Machine.execDeemedHoldExpiry s
  | .linklossMeasure => Sys2Proof.Machine.execLinklossMeasure s
  | .holdupSample => Sys2Proof.Machine.execHoldupSample s
  | .lockoutEnd source => Sys2Proof.Machine.execLockoutEnd source s
  | .groupTimeout => Sys2Proof.Machine.execGroupTimeout s
  | .tcEdgeEvaluation => Sys2Proof.Machine.execTcEdgeEvaluation s
  | .coilPulseEnd => Sys2Proof.Machine.execCoilPulseEnd s
  | .pulseCleared => Sys2Proof.Machine.execPulseCleared s
  | .coilCutoff => Sys2Proof.Machine.execCoilCutoff s
  | .settleEnd loadv => Sys2Proof.Machine.execSettleEnd loadv s
  | .weldRetryExpiry => Sys2Proof.Machine.execWeldRetryExpiry s
  | .recloseTimerExpiry => Sys2Proof.Machine.execRecloseTimerExpiry s
  | .recloseWindowExpiry => Sys2Proof.Machine.execRecloseWindowExpiry s
  | .vmainFall => Sys2Proof.Machine.execVmainFall s
  | .vmainRise => Sys2Proof.Machine.execVmainRise s
  | .holdupEntry vbackGood => Sys2Proof.Machine.execHoldupEntry vbackGood s
  | .shelfPowerLoss => Sys2Proof.Machine.execShelfPowerLoss s
  | .returnDecision => Sys2Proof.Machine.execReturnDecision s
  | .deferredReturn => Sys2Proof.Machine.execDeferredReturn s
  | .dormantEntry => Sys2Proof.Machine.execDormantEntry s
  | .powerUp => Sys2Proof.Machine.execPowerUp s
  | .periodicCheckpoint => Sys2Proof.Machine.execPeriodicCheckpoint s
  | .deferredPeriodicWrite => Sys2Proof.Machine.execDeferredPeriodicWrite s
  | .checkpointWriteDone imageGood => Sys2Proof.Machine.execCheckpointWriteDone imageGood s
  | .clockAdvance => Sys2Proof.Machine.execClockAdvance s
  | .holdUpReserveExhaustion => Sys2Proof.Machine.execHoldUpReserveExhaustion s

end Sys2Proof.Machine
end

