-- ==== Sys2Proof/Machine/Tick.lean ====
section
/-! DEFINITION. The passing of one millisecond: which timers run in which power state, and which commands of the
part's own the millisecond makes due (log 1, 3). It is what step does on an empty queue. -/

namespace Sys2Proof.Machine

/-! ### Timers -/

/-- A timer runs for one millisecond; at 0 it stands at its expiry. -/
def runTimer (t : Timer) : Timer := t.map (· - 1)

/-- The silence timer saturates at 65,535 s (01 R11). -/
def maxSilence : Nat := 65535000

def Mli.pass (x : Mli) : Mli :=
  { x with
    silenceMs := if x.silenceRunning then satAdd maxSilence x.silenceMs 1 else x.silenceMs
    suppression := runTimer x.suppression }

def Be.pass (x : Be) : Be := { x with tickTimer := runTimer x.tickTimer }

/-- One millisecond is 32.768 periods of the timebase (03 R39, log 12). -/
def Tc.pass (x : Tc) : Tc := { x with phase := x.phase + 4096 }

def PendingGroup.pass (g : PendingGroup) : PendingGroup := { g with timer := g.timer - 1 }

def Ce.pass (x : Ce) : Ce := { x with lockout := x.lockout.map runTimer, group := x.group.map PendingGroup.pass }

/-- The sequence timers and the weld retry timer of ACTIVE. -/
def Sss.pass (x : Sss) : Sss :=
  { x with phaseTimer := runTimer x.phaseTimer, cutoff := runTimer x.cutoff, weldRetry := runTimer x.weldRetry }

/-- Outside ACTIVE a pulse in progress runs on, and nothing else (06 R119). -/
def Sss.passOutside (x : Sss) : Sss := { x with phaseTimer := runTimer x.phaseTimer, cutoff := runTimer x.cutoff }

def Ll.pass (x : Ll) : Ll := { x with recloseTimer := runTimer x.recloseTimer, window := runTimer x.window }

def Filter.pass : Filter → Filter
  | .timing n => .timing (n - 1)
  | .stopped => .stopped
  | .samples n => .samples n

def Tm.pass (x : Tm) : Tm := { x with filters := x.filters.map Filter.pass, hold := runTimer x.hold }

def Ps.pass (x : Ps) : Ps :=
  { x with
    vmainTimer := runTimer x.vmainTimer
    periodic := runTimer x.periodic
    sampleTimer := runTimer x.sampleTimer }

def PartialFrame.pass (f : PartialFrame) : PartialFrame := { f with gapMs := f.gapMs + 1 }

def Hlc.pass (x : Hlc) : Hlc := { x with rx := x.rx.map PartialFrame.pass }

/-- One millisecond passes (10, table of the power states; 10 R164). -/
def passMs (s : State) : State :=
  match s.ps.power with
  | .active =>
    { s with
      mli := s.mli.pass
      be := s.be.pass
      tc := s.tc.pass
      ce := s.ce.pass
      sss := s.sss.pass
      ll := s.ll.pass
      tm := s.tm.pass
      ps := s.ps.pass
      hlc := s.hlc.pass }
  | .holdup => { s with tc := s.tc.pass, sss := s.sss.passOutside, ps := s.ps.pass }
  | .dormant => { s with sss := s.sss.passOutside, ps := s.ps.pass }
  | .shelf => { s with ps := s.ps.pass, hlc := s.hlc.pass }
  | .off => { s with ps := s.ps.pass }

/-! ### Events that are due -/

/-- One event, if it is due. -/
def dueIf (b : Bool) (c : Instr) : List (List Instr) := if b then [[c]] else []

/-- The clock's second and the edge it reaches (03 R39). The evaluation follows the advance in HOLDUP too: it acts
only if a return to ACTIVE of the same millisecond has come before it (03 R45, R53). -/
def clockDue (s : State) : List (List Instr) :=
  if clockRuns s ∧ phaseSecond ≤ s.tc.phase then
    if s.clock < maxClock ∧ (s.clock + 1) % 600 = 0 then [[.clockAdvance, .tcEdgeEvaluation]]
    else [[.clockAdvance]]
  else []

/-- What the VMAIN timer's expiry is, by the power state (10 R162). DESIGN CHOICE (log 41): the VBACK level of a
HOLDUP_ENTRY that time brings about is the one last seen. -/
def vmainDue (s : State) : List (List Instr) :=
  if timerDue s.ps.vmainTimer then
    match s.ps.power with
    | .active => dueIf (!s.pins.vmain) (.holdupEntry s.pins.vback)
    | .shelf => dueIf (!s.pins.vmain) .shelfPowerLoss
    | .holdup => dueIf s.pins.vmain .returnDecision
    | .dormant => dueIf (s.pins.vmain && s.ps.write.isNone) .powerUp
    | .off => dueIf (s.pins.vmain && s.ps.write.isNone) .powerUp
  else []

/-- The coil events, in any power state in which a pulse runs. -/
def coilDue (s : State) : List (List Instr) :=
  dueIf (s.sss.phase == .pulse && timerDue s.sss.phaseTimer) .coilPulseEnd
    ++ dueIf ((s.sss.phase == .pulse || s.sss.phase == .clearance) && timerDue s.sss.cutoff) .coilCutoff

/-- The frame timeout of an open frame (12 R179). -/
def frameDue (s : State) : Bool :=
  match s.hlc.rx with
  | some f => decide (20 < f.gapMs)
  | none => false

/-- The group timer stands at 0 (05 R99). -/
def groupDue (s : State) : Bool :=
  match s.ce.group with
  | some g => g.timer == 0
  | none => false

/-- A sensor filter has run out (08 R134). -/
def filterDue (s : State) (i : Sensor) : Bool := s.tm.filters.get i == .timing 0

/-- A whole second of silence while LINKLOSS is ACTIVE (08 R138, log 32). -/
def measureDue (s : State) : Bool :=
  (s.cond .linkloss).state == .active && s.mli.silenceRunning && s.mli.silenceMs % 1000 == 0 && s.mli.silenceMs != 0

/-- The events of ACTIVE. -/
def activeDue (s : State) : List (List Instr) :=
  dueIf (s.mli.silenceRunning && silenceUnreported s && !suppressed s) .silenceReport
    ++ dueIf (timerDue s.mli.suppression) .suppressionTimerExpiry
    ++ dueIf ((s.cond .linkloss).state == .active && timerDue s.be.tickTimer) .silenceTick
    ++ dueIf (filterDue s .meterCase) (.sensorFilterExpiry .meterCase)
    ++ dueIf (filterDue s .cover) (.sensorFilterExpiry .cover)
    ++ dueIf (filterDue s .mag) (.sensorFilterExpiry .mag)
    ++ dueIf (timerDue s.tm.hold) .deemedHoldExpiry
    ++ dueIf (measureDue s) .linklossMeasure
    ++ dueIf (timerDue (s.ce.lockout.get .keypad)) (.lockoutEnd .keypad)
    ++ dueIf (timerDue (s.ce.lockout.get .remote)) (.lockoutEnd .remote)
    ++ dueIf (groupDue s) .groupTimeout
    ++ dueIf (s.sss.phase == .settle && timerDue s.sss.phaseTimer) (.settleEnd s.pins.loadv)
    ++ dueIf (s.sss.contactor == .fault .welded && timerDue s.sss.weldRetry) .weldRetryExpiry
    ++ dueIf (s.ll.reclose == .wait && timerDue s.ll.recloseTimer) .recloseTimerExpiry
    ++ dueIf (timerDue s.ll.window) .recloseWindowExpiry
    ++ dueIf (timerDue s.ps.periodic) .periodicCheckpoint
    ++ dueIf (s.ps.periodicWaits && s.hlc.slot == .empty) .deferredPeriodicWrite

/-- The events of HOLDUP. -/
def holdupDue (s : State) : List (List Instr) :=
  dueIf (timerDue s.ps.sampleTimer) .holdupSample
    ++ dueIf (s.ps.returnHeld && s.ps.write.isNone) .deferredReturn

/-- Every event that is due, those of one group in their own order. -/
def dueGroups (s : State) : List (List Instr) :=
  clockDue s ++ vmainDue s ++ coilDue s ++ dueIf (frameDue s) .frameTimeout
    ++ (if s.ps.power = .active then activeDue s else [])
    ++ (if s.ps.power = .holdup then holdupDue s else [])

/-- No BE item falls between the expiry of the deemed hold and a MAG start that fall together (08 R135): a silence
tick drawn between them comes right behind the second. -/
def tickBehindMag (l : List Instr) : List Instr :=
  let fromHold := l.dropWhile (· != .deemedHoldExpiry)
  let between := fromHold.takeWhile (· != .sensorFilterExpiry .mag)
  match fromHold.dropWhile (· != .sensorFilterExpiry .mag) with
  | [] => l
  | mag :: rest =>
    l.takeWhile (· != .deemedHoldExpiry)
      ++ (between.filter (· != .silenceTick) ++ mag :: (between.filter (· == .silenceTick) ++ rest))

/-- The due events join the empty queue, in a drawn order where several fall together (log 3), which keeps what
08 R135 asks of it. -/
def queueDue (s : State) : State :=
  if (dueGroups s).length ≤ 1 then s.setPending (dueGroups s).flatten
  else (s.setPending (tickBehindMag (drawnOrder (Config.dueRank s.free) (dueGroups s)).flatten)).countDraw

/-- One millisecond with no command waiting (log 1). -/
def tick (s : State) : State := queueDue (passMs s)

end Sys2Proof.Machine
end

