-- ==== Sys2Proof/Safety.lean ====
section
/-! DEFINITION. What a sound state of the PM3 is, in the terms the statements use: the laws the manual states of the
whole part. A checkpoint image must keep a law as the running state does, because a restore brings it back. -/

namespace Sys2Proof.Machine

/-! ### Images -/

def StoreSlot.images : StoreSlot → List Image
  | .empty => []
  | .image img _ => [img]

/-- Every image held: in the two slots, and the one being written. -/
def Ps.images (x : Ps) : List Image := x.slotA.images ++ x.slotB.images ++ (x.write.map Write.img).toList

def State.images (s : State) : List Image := s.ps.images

/-- The part is commissioned: neither in SHELF nor off. -/
abbrev State.commissioned (s : State) : Prop := s.ps.power ≠ .shelf ∧ s.ps.power ≠ .off

/-! ### Parameters (11 section 11.3) -/

def FriendlyWindow.inRange (w : FriendlyWindow) : Prop := w.days ≤ 127 ∧ w.start ≤ 143 ∧ w.stop ≤ 143

/-- Every parameter lies in its range of the parameter table (05 R94, 11 R175). -/
structure Params.InRange (p : Params) : Prop where
  vNom : 100 ≤ p.vNom ∧ p.vNom ≤ 300
  dirPolicy : p.dirPolicy ≤ 2
  deemedW : p.deemedW ≤ 60000
  thresholds : p.t1 ≤ 8000 ∧ p.t2 ≤ 8000
  neutralMarginMa : p.neutralMarginMa ≤ 50000
  vlossPct : 20 ≤ p.vlossPct ∧ p.vlossPct ≤ 90
  vlossMa : 100 ≤ p.vlossMa ∧ p.vlossMa ≤ 50000
  reverseW : p.reverseW ≤ 5000
  allowances : p.eAllow ≤ 50000 ∧ p.fAllow ≤ 80000
  creditThresholds : p.lowThreshold ≤ 81910 ∧ p.rearmThreshold ≤ 81910
  recoveryPct : p.recoveryPct ≤ 100
  ageLimit : p.ageLimit ≤ 4000
  cycleDays : 7 ≤ p.cycleDays ∧ p.cycleDays ≤ 62
  commWeekday : p.commWeekday ≤ 6
  loadLimit : p.loadLimit ≤ 81910
  olRecords : 4 ≤ p.olRecords ∧ p.olRecords ≤ 240
  inrushRecords : p.inrushRecords ≤ 40
  recloseS : 10 ≤ p.recloseS ∧ p.recloseS ≤ 900
  recloseMax : p.recloseMax ≤ 10
  autoRecloseKeyless : p.autoRecloseKeyless ≤ 1
  coilMs : 20 ≤ p.coilMs ∧ p.coilMs ≤ 200
  settleMs : 50 ≤ p.settleMs ∧ p.settleMs ≤ 500
  deemedHoldMin : p.deemedHoldMin ≤ 120
  actions : ∀ k, p.actions.get k ≤ 7
  windows : p.windows.w0.inRange ∧ p.windows.w1.inRange ∧ p.windows.w2.inRange ∧ p.windows.w3.inRange

/-- The parameters, and those of every image, lie in their ranges. -/
def ParamsSound (s : State) : Prop := s.params.InRange ∧ ∀ img ∈ s.images, img.contents.params.InRange

/-! ### The ledger (04 R55, R60) -/

/-- The balance equation of 04 R60, while none of the four registers has reached its maximum. -/
def Account.Balanced (a : Account) : Prop :=
  a.crIn < max48 → a.crRecovered < max48 → a.crCharged < max48 → a.crRaised < max48 →
    a.balance = a.opening + a.crIn - a.crRecovered - a.crCharged + a.crRaised

/-- The ranges of 04 R55 and R58 under a parameter set, and the balance equation. -/
def Account.Sound (p : Params) (a : Account) : Prop :=
  floorOf p ≤ a.balance ∧ a.balance ≤ (maxCents : Int) ∧ a.residue < 1000000 ∧ a.debt ≤ maxCents ∧ a.Balanced

/-- The ledger, and that of every image, is sound; RECOVERY_PCT is a percentage. -/
def LedgerSound (s : State) : Prop :=
  (s.params.recoveryPct ≤ 100 ∧ s.acct.Sound s.params) ∧
    ∀ img ∈ s.images, img.contents.params.recoveryPct ≤ 100 ∧ img.contents.acct.Sound img.contents.params

/-- What a recomputation leaves of the flags it found, at the balance as it stands (04 R66, R68, R69): a balance above 0
clears emergency accepted; E_ALLOW 0 keeps emergency available clear, and REARM_THRESHOLD sets it while accepted is
clear; the credit state is that of 04 R67. -/
def Account.recomputed (a : Account) (p : Params) (accepted available : Bool) : Prop :=
  a.accepted = (accepted && decide (a.balance ≤ 0)) ∧
    a.available =
      (decide (p.eAllow ≠ 0) && (available || (!a.accepted && decide ((p.rearmThreshold : Int) ≤ a.balance)))) ∧
    a.state = creditStateOf p a

/-! ### The tamper log (09 R157) -/

/-- At most 64 records in strictly increasing serial order, all of them given out already. -/
def Tl.Ordered (x : Tl) : Prop :=
  x.records.length ≤ 64 ∧ x.records.Pairwise (fun r q => r.serial < q.serial) ∧
    x.nextSerial ≤ 4294967295 ∧ ∀ r ∈ x.records, r.serial ≤ x.nextSerial ∧ (x.usedUp = false → r.serial < x.nextSerial)

/-- PROBE is ACTIVE only while some source is locked out (08 R139). -/
def probeSound (conds : PerCond Cond) (sources : PerSource Bool) : Prop :=
  conds.probe.state = .active → sources.keypad = true ∨ sources.remote = true

/-- The law of 09 R157, with what keeps it: PROBE agrees with its sources, here and in every image. -/
def LogSound (s : State) : Prop :=
  s.tl.Ordered ∧
    (∀ r ∈ s.tl.records, r.stop = none → s.commissioned ∧ claimed s.tm.conds r.serial = true) ∧
    probeSound s.tm.conds s.tm.probeSources ∧
    ∀ img ∈ s.images, probeSound img.contents.conds img.contents.probeSources

/-- The state a condition goes on in at an entry to ACTIVE (08 R149): a sensor condition that is not ACTIVE follows its
input, a PENDING record-based condition is IDLE, LINKLOSS and PROBE keep their states. -/
def stateAtEntry (sensor : PerSensor Bool) (c : CondId) (x : CondState) : CondState :=
  let follow := fun (i : Sensor) => if x = .active then .active else if sensor.get i then .pending else .idle
  let drop : CondState := if x = .active then .active else .idle
  match c with
  | .meterCase => follow .meterCase
  | .cover => follow .cover
  | .mag => follow .mag
  | .neutral => drop
  | .vloss _ => drop
  | .reverse _ => drop
  | .bypass _ => drop
  | .linkloss => x
  | .probe => x

/-! ### The open-reason set and its owners (04 R71, 08 R143, 07 R132) -/

/-- The credit state is that of 04 R67, and CREDIT is in the set exactly when 04 R71 says. -/
def CreditAgrees (s : State) : Prop :=
  s.commissioned →
    s.acct.state = creditStateOf s.params s.acct ∧
      s.cl.creditHeld = wantsCredit s.acct.state s.tc.friendly ∧ s.sss.reasons.credit = s.cl.creditHeld

/-- TAMPER is in the set exactly when some kind in force has OPEN in its setting (08 R143), and the flags are as
08 R144 says. -/
def TamperAgrees (s : State) : Prop :=
  s.commissioned →
    s.tm.tamperHeld = anyInForceWith s opensIn ∧ s.sss.reasons.tamper = s.tm.tamperHeld ∧
      s.tm.deemed = anyInForceWith s deemedIn ∧ ∀ p, s.tm.subst.get p = s.tm.condInForce (.vloss p)

/-- LL holds OVERLOAD in the set while its reclose state is WAIT or LOCKOUT (07 R132). -/
def OverloadAgrees (s : State) : Prop := s.sss.reasons.overload = true ↔ s.ll.reclose ≠ .rest

/-! ### The code history (05 R89) -/

/-- At most 32 numbers, no two equal, each above the floor. -/
def Keys.Sound (k : Keys) : Prop :=
  k.history.length ≤ 32 ∧ k.history.Pairwise (· < ·) ∧ ∀ n ∈ k.history, k.floor < n

def HistorySound (s : State) : Prop := s.ce.keys.Sound ∧ ∀ img ∈ s.images, img.contents.keys.Sound

/-! ### The sequencer (06 R108, R110, R119) -/

/-- A state in which a sequence is in progress. -/
def Contactor.moving : Contactor → Bool
  | .opening => true
  | .closing => true
  | .closed => false
  | .opened => false
  | .armed => false
  | .fault _ => false

/-- Coil activity belongs to OPENING and CLOSING alone, and no image holds either of them (06 R119). -/
def SwitchSound (s : State) : Prop :=
  (s.sss.phase ≠ .idle ↔ s.sss.contactor.moving = true) ∧ ∀ img ∈ s.images, img.contents.contactor.moving = false

/-! ### The checkpoint write (10 R167) -/

/-- The write under way goes to the slot that does not hold the newest valid image, with the generation after it. -/
def WriteSound (s : State) : Prop :=
  ∀ w, s.ps.write = some w → w.target = s.ps.target ∧ w.img.generation = s.ps.generation

/-! ### Queues and the transmitter (01 R7, 12 R179, R180, R182) -/

/-- The partial frame, the two queues and the transmitter keep their capacities. -/
def QueuesSound (s : State) : Prop :=
  s.mli.queue.length ≤ 4 ∧ s.hlc.queue.length ≤ 16 ∧ (∀ f ∈ s.hlc.rx, f.bytes.length ≤ 67) ∧
    (s.hlc.waiting.isSome → s.hlc.sending.isSome) ∧
    ∀ r, s.hlc.slot = .replyWaits r → s.hlc.waiting.isSome

/-! ### The calendar (03 R39, R41, R46, R47) -/

/-- A day profile: 1..6 points in order of start, no two with the same start (03 R47). -/
def profileSound (points : List SwitchPoint) : Prop :=
  1 ≤ points.length ∧ points.length ≤ 6 ∧ points.Pairwise (fun x y => x.start < y.start) ∧
    ∀ x ∈ points, x.start ≤ 143

/-- The ranges of a schedule. -/
structure Schedule.Sound (x : Schedule) : Prop where
  clock : x.clock ≤ maxClock
  rates : ∀ b k, (x.rates.get b).get k ≤ 100000000
  profileA : profileSound x.profileA
  profileB : profileSound x.profileB
  weekMap : x.weekMap.length = 7

def CalendarSound (s : State) : Prop :=
  s.tc.sched.Sound ∧ s.tc.trimUsed ≤ 120 ∧ ∀ img ∈ s.images, img.contents.sched.Sound

/-! ### The events of the part's own that time makes due (log 1) -/

/-- What the passing of a millisecond makes due in the state it leaves: for each command of the part's own, when its
time has come. A timer stands at 0 when it has run out (10 R164); the frame gap, the silence and the sub-second phase
count up (12 R179, 01 R11, 03 R39). No command of another agent is among them. DESIGN CHOICE (log 1, 32, 41): a measure
of LINKLOSS comes at each whole second of the silence, and an event that carries a pin's level carries the one last
seen. -/
def State.due (s : State) (c : Instr) : Prop :=
  let active : Prop := s.ps.power = .active
  let holdup : Prop := s.ps.power = .holdup
  let second : Prop := (active ∨ holdup) ∧ 4096000 ≤ s.tc.phase
  let crossed : Prop := s.ps.vmainTimer = some 0
  match c with
  -- 01 R11, R12: a silence of 2,000 ms not reported in its run, with the suppression timer run out
  | .silenceReport => active ∧ s.mli.silenceRunning = true ∧ 2000 ≤ s.mli.silenceMs ∧ s.mli.reported = false ∧
      (s.mli.suppression = none ∨ s.mli.suppression = some 0)
  | .suppressionTimerExpiry => active ∧ s.mli.suppression = some 0
  -- 02 R32
  | .silenceTick => active ∧ (s.cond .linkloss).state = .active ∧ s.be.tickTimer = some 0
  -- 03 R39, R45
  | .clockAdvance => second
  | .tcEdgeEvaluation => second ∧ s.clock < 4294967295 ∧ (s.clock + 1) % 600 = 0
  -- 05 R86, R99
  | .lockoutEnd src => active ∧ s.ce.lockout.get src = some 0
  | .groupTimeout => active ∧ ∃ g, s.ce.group = some g ∧ g.timer = 0
  -- 06 R108, R113, R115
  | .coilPulseEnd => s.sss.phase = .pulse ∧ s.sss.phaseTimer = some 0
  | .coilCutoff => (s.sss.phase = .pulse ∨ s.sss.phase = .clearance) ∧ s.sss.cutoff = some 0
  | .settleEnd loadv => active ∧ s.sss.phase = .settle ∧ s.sss.phaseTimer = some 0 ∧ loadv = s.pins.loadv
  | .weldRetryExpiry => active ∧ s.sss.contactor = .fault .welded ∧ s.sss.weldRetry = some 0
  -- 07 R128, R130
  | .recloseTimerExpiry => active ∧ s.ll.reclose = .wait ∧ s.ll.recloseTimer = some 0
  | .recloseWindowExpiry => active ∧ s.ll.window = some 0
  -- 08 R134, R135, R138, R148
  | .sensorFilterExpiry i => active ∧ s.tm.filters.get i = .timing 0
  | .deemedHoldExpiry => active ∧ s.tm.hold = some 0
  | .linklossMeasure => active ∧ (s.cond .linkloss).state = .active ∧ s.mli.silenceRunning = true ∧
      s.mli.silenceMs % 1000 = 0 ∧ s.mli.silenceMs ≠ 0
  | .holdupSample => holdup ∧ s.ps.sampleTimer = some 0
  -- 10 R162, R164, R168
  | .holdupEntry vbackGood => active ∧ crossed ∧ s.pins.vmain = false ∧ vbackGood = s.pins.vback
  | .shelfPowerLoss => s.ps.power = .shelf ∧ crossed ∧ s.pins.vmain = false
  | .returnDecision => holdup ∧ crossed ∧ s.pins.vmain = true
  | .powerUp => (s.ps.power = .dormant ∨ s.ps.power = .off) ∧ crossed ∧ s.pins.vmain = true ∧ s.ps.write = none
  | .deferredReturn => holdup ∧ s.ps.returnHeld = true ∧ s.ps.write = none
  | .periodicCheckpoint => active ∧ s.ps.periodic = some 0
  | .deferredPeriodicWrite => active ∧ s.ps.periodicWaits = true ∧ s.hlc.slot = .empty
  -- 12 R179
  | .frameTimeout => ∃ f, s.hlc.rx = some f ∧ 20 < f.gapMs
  -- what other agents send
  | .identify _ | .getStatus _ | .getLedger _ | .getEnergy _ | .getTariff _ | .getTime _ | .getEvents _ => False
  | .readTamperLog _ | .submitCode _ | .restore _ | .acceptEmergency _ | .trimClock _ | .commission _ => False
  | .badKind _ _ | .busy _ _ | .frameDiscard _ | .replySent | .linkResetAssert | .linkResetRelease => False
  | .burstEnd _ | .recordTake _ | .sensorInputChange _ _ | .pulseCleared | .vmainFall | .vmainRise => False
  | .dormantEntry | .checkpointWriteDone _ | .holdUpReserveExhaustion => False

/-! ### A state in which a request can be executed -/

/-- The link is served, the slot is empty and the transmitter is idle (12 R180). -/
abbrev State.ready (s : State) : Prop := s.linkServed = true ∧ s.hlc.slot = .empty ∧ s.hlc.sending = none

/-- The state with a reply begun on an idle transmitter. -/
def State.replying (s : State) (r : Reply) : State := s.setHlc { s.hlc with sending := some r }

/-! ### A COMMISSION request (11 R172) -/

/-- The index an entry of a COMMISSION payload names, and its value in code steps (12 R181). -/
def entryIndex (payload : List Byte) (k : Nat) : Nat := fieldAt payload (20 + 3 * k) 1
def entrySteps (payload : List Byte) (k : Nat) : Nat := fieldAt payload (21 + 3 * k) 2

/-- The number of entries of a payload. -/
def entryCount (payload : List Byte) : Nat := (payload.length - 20) / 3

/-- The parameters a request gives: the defaults, the value of each entry in code steps times its step, and
COMM_WEEKDAY from the weekday field (11 R172, R173). -/
def paramsGiven (payload : List Byte) : Params :=
  { (List.range (entryCount payload)).foldl
      (fun p k => p.setAt (entryIndex payload k)
        (entrySteps payload k * ((paramRow (entryIndex payload k)).elim 0 ParamRow.step)))
      Params.default with commWeekday := fieldAt payload 19 1 }

/-- What 11 R172 asks of a COMMISSION payload, failing which it is BAD_VALUE. -/
structure CommissionGood (payload : List Byte) : Prop where
  minute : fieldAt payload 17 2 ≤ 1439
  weekday : fieldAt payload 19 1 ≤ 6
  revision : fieldAt payload 12 1 ≤ 15
  entries : ∀ k, k < entryCount payload → entryIndex payload k ≠ 17 ∧
    ∃ row, paramRow (entryIndex payload k) = some row ∧ row.lo ≤ entrySteps payload k * row.step ∧
      entrySteps payload k * row.step ≤ row.hi
  distinct : ∀ j k, j < k → k < entryCount payload → entryIndex payload j ≠ entryIndex payload k
  opening : -(((paramsGiven payload).eAllow + (paramsGiven payload).fAllow : Nat) : Int) ≤
      signedOf 32 (fieldAt payload 13 4) ∧ signedOf 32 (fieldAt payload 13 4) ≤ 99999999

/-! ### A code that reaches the apply step (05 R79) -/

/-- The byte that names a source in a SUBMIT_CODE request (12 R181). -/
def sourceByte : Source → Byte
  | .keypad => 0x00#8
  | .remote => 0x01#8

/-- The characters come from a source with attempts left, in ACTIVE, to a link and a store that are free, and spell
the authentic code c. -/
structure State.presents (s : State) (src : Source) (chars : List Byte) (c : Code) : Prop where
  ready : s.ready
  active : s.ps.power = .active
  storeFree : s.ps.write = none
  attempts : s.ce.keys.attempts.get src ≠ 0
  spells : ∃ n, codeNumber chars = some n ∧ decodeCode s.ce.keys.meterKey n = c
  authentic : c.authentic s.ce.keys.meterKey = true

/-- The code passes the replay test (05 R81), the age test (05 R82) and its value checks (05 R83). -/
structure State.passes (s : State) (c : Code) : Prop where
  aboveFloor : s.ce.keys.floor < c.sequence
  unused : c.sequence ∉ s.ce.keys.history
  inDate : codeExpired s c = false
  value : valueGood c.cls (issueDay (dayOf s.clock) c.day) c.value = true

/-- From s to t a code was consumed (05 R84, R89): its source has five attempts again, its sequence has joined the
history, its checkpoint write is under way with the state it leaves, and its reply waits for the write. -/
structure State.consumed (s t : State) (src : Source) (c : Code) (result : List Byte) : Prop where
  keys : t.ce.keys = { s.ce.keys.consume c.sequence with attempts := s.ce.keys.attempts.set src 5 }
  reply : t.hlc.slot = .awaitingWrite (some ⟨0x90#8, 0x00#8 :: result⟩)
  write : ∃ w, t.ps.write = some w ∧ w.img.occasion = .code ∧ w.img.contents = t.snapshot

end Sys2Proof.Machine
end

