-- ==== Sys2Proof/WellFormed.lean ====
section
/-! DEFINITION. Which commands the two links can carry: the payload lengths of 12 R178 and the kinds of
12 R179 to R181. A command that fails a check is no frame the link delivers; its meaning discards it. -/

namespace Sys2Proof

/-- The request kinds of the table of 12 R181. -/
def requestKinds : List Byte :=
  [0x01#8, 0x02#8, 0x03#8, 0x04#8, 0x05#8, 0x06#8, 0x07#8, 0x08#8, 0x10#8, 0x11#8, 0x12#8, 0x20#8]

/-- A payload holds 0..63 bytes (12 R178). -/
def payloadFits (payload : List Byte) : Bool := payload.length ≤ 63

/-- A kind of 0x80 or above is a reply's and not a request's (12 R179). -/
def kindIsRequest (kind : Byte) : Bool := kind.toNat < 0x80

/-- The command is one the outside can give. -/
def Instr.wellFormed : Instr → Bool
  | .identify p => payloadFits p
  | .getStatus p => payloadFits p
  | .getLedger p => payloadFits p
  | .getEnergy p => payloadFits p
  | .getTariff p => payloadFits p
  | .getTime p => payloadFits p
  | .getEvents p => payloadFits p
  | .readTamperLog p => payloadFits p
  | .submitCode p => payloadFits p
  | .restore p => payloadFits (0x00#8 :: p)
  | .acceptEmergency p => payloadFits (0x01#8 :: p)
  | .trimClock p => payloadFits p
  | .commission p => payloadFits p
  | .badKind k p => payloadFits p && kindIsRequest k && !requestKinds.contains k
  | .busy k p => payloadFits p && kindIsRequest k
  | .frameDiscard _ => true
  | .frameTimeout => true
  | .replySent => true
  | .linkResetAssert => true
  | .linkResetRelease => true
  | .burstEnd _ => true
  | .silenceReport => true
  | .suppressionTimerExpiry => true
  | .recordTake _ => true
  | .silenceTick => true
  | .sensorInputChange _ _ => true
  | .sensorFilterExpiry _ => true
  | .deemedHoldExpiry => true
  | .linklossMeasure => true
  | .holdupSample => true
  | .lockoutEnd _ => true
  | .groupTimeout => true
  | .tcEdgeEvaluation => true
  | .coilPulseEnd => true
  | .pulseCleared => true
  | .coilCutoff => true
  | .settleEnd _ => true
  | .weldRetryExpiry => true
  | .recloseTimerExpiry => true
  | .recloseWindowExpiry => true
  | .vmainFall => true
  | .vmainRise => true
  | .holdupEntry _ => true
  | .shelfPowerLoss => true
  | .returnDecision => true
  | .deferredReturn => true
  | .dormantEntry => true
  | .powerUp => true
  | .periodicCheckpoint => true
  | .deferredPeriodicWrite => true
  | .checkpointWriteDone _ => true
  | .clockAdvance => true
  | .holdUpReserveExhaustion => true

end Sys2Proof
end

