-- ==== Sys2Proof/Certificates/Slice0/Obligations.lean ====
section
/-! DEFINITION. The statements for the provers. A command is one row of spec/opcode_table.json; `exec c s` is its
effect; s.ready says that the host link is served and free. Where a statement gives the next state as an equation,
everything it does not name is unchanged. -/

section
open Sys2Proof Sys2Proof.Machine

/-! ### The machine as a whole -/

/-- A command at the front of the queue acts on the state with the queue's rest. -/
def Obligations.StepRunsFrontCommand : Prop :=
  ∀ (c : Instr) (rest : List Instr) (s : State),
    s.pending = c :: rest → step s = exec c (s.setPending rest)

/-- The model's choice (log 1): with no command waiting one step is one millisecond, and this is all it does. The
timers that run in the power state (10 R164) go down by 1 ms and stand at 0 once expired; the silence, while it runs,
grows to 65,535 s at most, and the gap in a partial frame grows; the sub-second phase grows by 4,096 of 4,096,000 (log
12) while the clock runs (03 R39). In HOLDUP and DORMANT only a coil pulse, the power supervisor and, in HOLDUP, the
clock go on (06 R119); in SHELF the receiver. What is due in the state the millisecond leaves joins the queue, each
once, and nothing else does (State.due: a timer that stands at 0, a gap, a silence or a second that is complete). The
order is drawn where several events fall together (log 3), but TC_EDGE_EVALUATION stands behind its CLOCK_ADVANCE, and
no silence tick between the expiry of the deemed hold and a MAG filter's expiry (08 R135); the draw is the one use of
the counter of free values. No other field changes. The instant of a LINKLOSS measure, each whole second of the silence
(log 32), and the pin level that an event carries, the one last seen (log 41), are the model's choice. -/
def Obligations.IdleStepPassesOneMillisecond : Prop :=
  ∀ s : State, s.pending = [] →
    let run := fun (x : Timer) => x.map (· - 1)
    let filter := fun (f : Filter) =>
      match f with
      | .timing n => .timing (n - 1)
      | .stopped => .stopped
      | .samples n => .samples n
    let tc := { s.tc with phase := s.tc.phase + 4096 }
    let coil := { s.sss with phaseTimer := run s.sss.phaseTimer, cutoff := run s.sss.cutoff }
    let ps := { s.ps with
      vmainTimer := run s.ps.vmainTimer, periodic := run s.ps.periodic, sampleTimer := run s.ps.sampleTimer }
    let hlc := { s.hlc with rx := s.hlc.rx.map fun f => { f with gapMs := f.gapMs + 1 } }
    ∃ t, step s = .next t ∧
      (s.ps.power = .active → t = { s with
        mli := { s.mli with
          silenceMs := if s.mli.silenceRunning then min 65535000 (s.mli.silenceMs + 1) else s.mli.silenceMs
          suppression := run s.mli.suppression }
        be := { s.be with tickTimer := run s.be.tickTimer }
        tc := tc
        ce := { s.ce with
          lockout := ⟨run s.ce.lockout.keypad, run s.ce.lockout.remote⟩
          group := s.ce.group.map fun g => { g with timer := g.timer - 1 } }
        sss := { coil with weldRetry := run s.sss.weldRetry }
        ll := { s.ll with recloseTimer := run s.ll.recloseTimer, window := run s.ll.window }
        tm := { s.tm with
          filters := ⟨filter s.tm.filters.meterCase, filter s.tm.filters.cover, filter s.tm.filters.mag⟩
          hold := run s.tm.hold }
        ps := ps
        hlc := hlc
        free := t.free
        pending := t.pending }) ∧
      (s.ps.power = .holdup →
        t = { s with tc := tc, sss := coil, ps := ps, free := t.free, pending := t.pending }) ∧
      (s.ps.power = .dormant → t = { s with sss := coil, ps := ps, free := t.free, pending := t.pending }) ∧
      (s.ps.power = .shelf → t = { s with ps := ps, hlc := hlc, free := t.free, pending := t.pending }) ∧
      (s.ps.power = .off → t = { s with ps := ps, free := t.free, pending := t.pending }) ∧
      (∀ c, c ∈ t.pending ↔ t.due c) ∧ t.pending.Nodup ∧
      (s.ps.power = .active ∨ s.ps.power = .holdup → 4096000 ≤ s.tc.phase + 4096 →
        .clockAdvance ∈ t.pending ∧
          (s.clock < 4294967295 → (s.clock + 1) % 600 = 0 → [.clockAdvance, .tcEdgeEvaluation] <:+: t.pending)) ∧
      t.free = (if t.pending.length ≤ (if .tcEdgeEvaluation ∈ t.pending then 2 else 1) then s.free else s.free + 1) ∧
      t.pending.filter (· ∈ [.deemedHoldExpiry, .silenceTick, .sensorFilterExpiry .mag]) ≠
        [.deemedHoldExpiry, .silenceTick, .sensorFilterExpiry .mag]

/-- Every command answers a next state in every state, and none touches the queue of commands. That none stops the part
is the model's reading (log 40, DEDUCED: no meaning ends in a fault or a refusal); that an event which is not due
changes nothing, and so completes, is the model's choice (log 2). -/
def Obligations.EveryCommandCompletes : Prop :=
  ∀ (c : Instr) (s : State), ∃ t, exec c s = .next t ∧ t.pending = s.pending

/-- The manufacture rows of the reset tables (01 R15, 02 R37, 03 R53, 04 R76, 05 R104, 06 R122, 07 R132, 08 R151, 09
R161, 10 R171, 11 R175, 12 R186), with every parameter at its default. What the tables do not give is not stated, being
the model's choice: the pins, the sub-second phase and the model's own fields (logs 9 and 39). -/
def Obligations.ResetLeavesManufactureValues : Prop :=
  let s := State.reset
  (s.mli.assembly = ⟨[], 0, false⟩ ∧ s.mli.queue = [] ∧ s.mli.expected = 0 ∧ s.mli.baseline = true ∧
    s.mli.silenceMs = 0 ∧ s.mli.silenceRunning = false ∧ s.mli.suppression = none ∧ s.mli.reported = false) ∧
  (s.be.reg = ⟨0, ⟨0, 0, 0⟩, ⟨0, 0, 0⟩, 0, 0, ⟨0, 0, 0⟩, ⟨0, 0, 0⟩⟩ ∧ s.be.bLast = 0 ∧ s.be.ticks = 0 ∧
    s.be.tickTimer = none ∧ s.be.runs = ⟨0, ⟨0, 0, 0⟩, ⟨0, 0, 0⟩, ⟨0, 0, 0⟩⟩) ∧
  (s.clock = 0 ∧ s.tc.clockValid = false ∧ s.tc.trimUsed = 0 ∧ s.tc.allowanceDay = 0 ∧ s.tc.sched.cycleIndex = 0 ∧
    (∀ b k, (s.tc.sched.rates.get b).get k = 0) ∧ s.tc.sched.profileA = [⟨0, 0⟩] ∧ s.tc.sched.profileB = [⟨0, 0⟩] ∧
    s.tc.sched.weekMap = [.a, .a, .a, .a, .a, .a, .a] ∧ s.tc.band = 0 ∧ s.tc.friendly = false) ∧
  (s.acct.balance = 0 ∧ s.acct.opening = 0 ∧ s.acct.residue = 0 ∧ s.acct.debt = 0 ∧ s.acct.crIn = 0 ∧
    s.acct.crRecovered = 0 ∧ s.acct.crCharged = 0 ∧ s.acct.crRaised = 0 ∧ s.acct.crDeferred = 0 ∧
    s.acct.available = false ∧ s.acct.accepted = false ∧ s.acct.satNoted = false ∧ s.acct.state = .exhausted ∧
    s.cl.creditHeld = false) ∧
  (s.ce.keys = ⟨0, 0, 0, [], ⟨5, 5⟩⟩ ∧ s.ce.lockout = ⟨none, none⟩ ∧ s.ce.group = none) ∧
  (s.sss.reasons = ⟨false, false, false, false, true⟩ ∧ s.sss.contactor = .opened ∧ s.sss.verified = .unknown ∧
    s.sss.coilEnable = false ∧ s.sss.attempts = 0 ∧ s.sss.origin = .ordinary ∧ s.sss.weldRetry = none ∧
    s.sss.phase = .idle ∧ s.sss.phaseTimer = none ∧ s.sss.cutoff = none ∧ s.coilOpen = false ∧ s.coilClose = false) ∧
  (s.ll.tempLimit = 0 ∧ s.ll.watch = .off ∧ s.ll.blanking = 0 ∧ s.ll.overload = 0 ∧ s.ll.reclose = .rest ∧
    s.ll.recloseTimer = none ∧ s.ll.recloseCount = 0 ∧ s.ll.window = none) ∧
  ((∀ c, s.cond c = ⟨.idle, false, none, .none⟩) ∧ s.tm.filters = ⟨.stopped, .stopped, .stopped⟩ ∧ s.tm.hold = none ∧
    s.tm.probeSources = ⟨false, false⟩ ∧ s.tm.deemed = false ∧ s.tm.subst = ⟨false, false, false⟩ ∧
    s.tm.tamperHeld = false) ∧
  (s.tl.records = [] ∧ s.tl.nextSerial = 1 ∧ s.tl.usedUp = false ∧ (∀ k, s.tl.unrecorded.get k = 0) ∧
    s.tl.fullNoticed = false) ∧
  (s.ps.power = .shelf ∧ s.ps.valid = false ∧ s.ps.periodic = none ∧ s.ps.slotA = .empty ∧ s.ps.slotB = .empty) ∧
  (s.hlc.rx = none ∧ s.hlc.slot = .empty ∧ s.hlc.sending = none ∧ s.hlc.waiting = none ∧ s.hlc.queue = [] ∧
    s.hlc.overflow = false) ∧
  s.params =
    { vNom := 230, dirPolicy := 0, deemedW := 3000, t1 := 0, t2 := 0, neutralMarginMa := 1000, vlossPct := 50
      vlossMa := 1000, reverseW := 20, eAllow := 2000, fAllow := 5000, lowThreshold := 500, rearmThreshold := 1000
      recoveryPct := 25, ageLimit := 365, cycleDays := 30, commWeekday := 0, loadLimit := 0, olRecords := 20
      inrushRecords := 8, recloseS := 60, recloseMax := 3, autoRecloseKeyless := 1, coilMs := 80, settleMs := 150
      deemedHoldMin := 15, actions := ⟨5, 4, 2, 2, 0, 0, 0, 2, 0⟩
      windows := ⟨⟨0, 0, 0⟩, ⟨0, 0, 0⟩, ⟨0, 0, 0⟩, ⟨0, 0, 0⟩⟩ }

/-- Every law of Safety.lean holds of the part after reset. -/
def Obligations.LawsHoldAtReset : Prop :=
  let s := State.reset
  ParamsSound s ∧ LedgerSound s ∧ LogSound s ∧ CreditAgrees s ∧ TamperAgrees s ∧ OverloadAgrees s ∧ HistorySound s ∧
    SwitchSound s ∧ WriteSound s ∧ QueuesSound s ∧ CalendarSound s

/-! ### Laws that every step keeps -/

/-- Parameters stay in the ranges of the parameter table, here and in every checkpoint image (05 R94, 11 R175). -/
def Obligations.StepKeepsParameterRanges : Prop :=
  ∀ s t : State, ParamsSound s → step s = .next t → ParamsSound t

/-- The balance stays between the floor and 99,999,999 cents, the residue below a cent, debt in its range (04 R55,
R58), and the conservation equation of 04 R60 holds, here and in every checkpoint image. -/
def Obligations.StepKeepsLedgerLaw : Prop :=
  ∀ s t : State, LedgerSound s → step s = .next t → LedgerSound t

/-- The tamper log keeps at most 64 records in strictly increasing serial order, and every record without an end time
belongs to a condition that is ACTIVE (09 R157). -/
def Obligations.StepKeepsLogLaw : Prop :=
  ∀ s t : State, LogSound s → step s = .next t → LogSound t

/-- Each owner keeps its reason: outside SHELF the credit state is that of 04 R67 and CREDIT is in the open-reason set
exactly when 04 R71 says; TAMPER is in it exactly when a kind in force has OPEN in its setting (08 R143), and the
deemed and substitution flags are those of 08 R144; OVERLOAD is in it exactly while the reclose state is WAIT or
LOCKOUT (07 R132). -/
def Obligations.StepKeepsReasonOwners : Prop :=
  ∀ s t : State, step s = .next t →
    (CreditAgrees s → CreditAgrees t) ∧ (TamperAgrees s → TamperAgrees t) ∧ (OverloadAgrees s → OverloadAgrees t)

/-- A close pulse starts only when the open-reason set is empty at that moment (06 R110). Where one step changes the
set at most before the pulse, the set is empty in the next state: every command but a record take and a return to
ACTIVE, in which other parties may change the set after the pulse has begun and of which the sequencer's own part is
stated, and but a FRAME_DISCARD of several bytes, which may carry a RESTORE frame and behind it a code that adds a
reason (06 R112). -/
def Obligations.ClosePulseStartsWithTheSetEmpty : Prop :=
  let drives := fun (x : State) => x.sss.contactor = .closing ∧ x.sss.phase = .pulse
  (∀ (s t : State) (c : Instr) (rest : List Instr),
    s.pending = c :: rest → (∀ loadv, c ≠ .recordTake loadv) → c ≠ .returnDecision → c ≠ .deferredReturn →
    c ≠ .powerUp → (∀ bytes, c = .frameDiscard bytes → bytes.length ≤ 1) → step s = .next t → ¬drives s → drives t →
      t.sss.reasons = ⟨false, false, false, false, false⟩ ∧ t.ps.power = .active) ∧
  (∀ (s : State) (r : IntervalRecord), ¬drives s → drives (positionCheck r s) →
    (positionCheck r s).sss.reasons = ⟨false, false, false, false, false⟩) ∧
  ∀ s : State, ¬drives s → drives (enterActiveSss s) →
    (enterActiveSss s).sss.reasons = ⟨false, false, false, false, false⟩

/-- While the power state is HOLDUP or DORMANT the balance, debt, energy registers and code history do not change (10
R164), nor do the rest of the ledger, the code engine, the parameters and the rates. -/
def Obligations.HeldPowerStatesKeepTheAccount : Prop :=
  ∀ s t : State, s.ps.power = .holdup ∨ s.ps.power = .dormant → step s = .next t →
    t.ps.power = .holdup ∨ t.ps.power = .dormant →
    t.cl = s.cl ∧ t.be.reg = s.be.reg ∧ t.ce.keys = s.ce.keys ∧ t.ce = s.ce ∧ t.params = s.params ∧
      t.tc.sched.rates = s.tc.sched.rates

/-- The code history holds at most 32 sequence numbers, no two equal, each greater than the sequence floor, here and
in every checkpoint image (05 R89). -/
def Obligations.StepKeepsCodeHistory : Prop :=
  ∀ s t : State, HistorySound s → step s = .next t → HistorySound t

/-- A coil sequence is in progress exactly in OPENING and CLOSING (06 section 6.2), and no checkpoint image holds
either of them (06 R119). -/
def Obligations.StepKeepsSwitchLaw : Prop :=
  ∀ s t : State, SwitchSound s → step s = .next t → SwitchSound t

/-- The intake queue, the event queue, the partial frame and the transmitter keep their capacities (01 R7, 12 R179,
R180, R182). -/
def Obligations.StepKeepsQueueCapacities : Prop :=
  ∀ s t : State, QueuesSound s → step s = .next t → QueuesSound t

/-- The clock, the rates, the day profiles, the week map and the trim used keep their ranges, here and in every
checkpoint image (03 R39, R41, R46, R47). -/
def Obligations.StepKeepsCalendarRanges : Prop :=
  ∀ s t : State, CalendarSound s → step s = .next t → CalendarSound t

/-! ### Checks, pricing and the ledger -/

/-- The record check of 01 R3: the register starts at 0 and takes each byte from bit 7 to bit 0, the polynomial being
combined when bit 7 and the data bit differ; over the nine bytes 0x31 to 0x39 it is 0xF4, and over a record with its
check byte it ends at 0. A burst of 33 bytes that is otherwise good is good exactly when its last byte is the check of
its second to thirty-second bytes. -/
def Obligations.RecordCheckIsTheStatedCrc : Prop :=
  let bit := fun (r : BitVec 8) (d : Bool) => (r <<< 1) ^^^ (if (r.getLsbD 7).xor d then 0x07#8 else 0x00#8)
  recordCheck [] = 0#8 ∧
  (∀ (bytes : List Byte) (b : Byte),
    recordCheck (bytes ++ [b]) = [7, 6, 5, 4, 3, 2, 1, 0].foldl (fun r i => bit r (b.getLsbD i)) (recordCheck bytes)) ∧
  recordCheck [0x31#8, 0x32#8, 0x33#8, 0x34#8, 0x35#8, 0x36#8, 0x37#8, 0x38#8, 0x39#8] = 0xF4#8 ∧
  (∀ bytes : List Byte, recordCheck (bytes ++ [recordCheck bytes]) = 0#8) ∧
  ∀ (body : List Byte) (check : Byte), body.length = 31 →
    ((⟨0x5A#8 :: (body ++ [check]), 33, false⟩ : Assembly).isGood = true ↔ check = recordCheck body)

/-- The interval billed power of a record (02 R20): the sum of the three billed powers, raised to 0. The billed power of
a phase is its base power under DIR_POLICY (R18), and with its substitution flag raised the greater of that and V_NOM
times its current over 1,000 (R19). With the deemed flag raised the result is at least DEEMED_W (R21). The sum lies in
0..96,000 W under ABSOLUTE and IMPORT_ONLY and in −96,000..+96,000 W under NET; the result lies in 0..96,000 W. -/
def Obligations.IntervalPowerIsTheFlooredSum : Prop :=
  ∀ (s : State) (r : IntervalRecord),
    s.params.vNom ≤ 300 → s.params.dirPolicy ≤ 2 → s.params.deemedW ≤ 60000 →
    (∀ p, -32000 ≤ r.p.get p ∧ r.p.get p ≤ 32000 ∧ r.i.get p ≤ 100000) →
    let base := fun (p : Phase) =>
      if s.params.dirPolicy = 0 then |r.p.get p|
      else if s.params.dirPolicy = 1 then (if 0 ≤ r.p.get p then r.p.get p else 0)
      else r.p.get p
    let substitute := fun (p : Phase) => (s.params.vNom * r.i.get p / 1000 : Nat)
    let billed := fun (p : Phase) => if s.tm.subst.get p then max (base p) (substitute p : Int) else base p
    let sum := billed .p1 + billed .p2 + billed .p3
    (∀ p, phaseBilled s r p = billed p ∧ substitute p ≤ 30000 ∧ -32000 ≤ base p ∧ base p ≤ 32000 ∧
      (s.params.dirPolicy ≤ 1 → 0 ≤ base p)) ∧
    (s.tm.deemed = false → (intervalPower s r : Int) = max 0 sum) ∧
    (s.tm.deemed = true → (intervalPower s r : Int) = max (s.params.deemedW : Int) (max 0 sum)) ∧
    intervalPower s r ≤ 96000 ∧ (s.params.dirPolicy ≤ 1 → 0 ≤ sum ∧ sum ≤ 96000) ∧
    (s.params.dirPolicy = 2 → -96000 ≤ sum ∧ sum ≤ 96000)

/-- The issue day of a code (05 R82): D is the largest day number not above today + 2 that leaves the remainder x when
divided by 4,096. It lies in today − 4,093..today + 2. Only a CREDIT code can be EXPIRED, by its age today − D against
AGE_LIMIT. A code that passes the steps before is EXPIRED with nothing changed, or goes on with D. -/
def Obligations.IssueDayIsTheLargestThatFits : Prop :=
  ∀ (s : State) (c : Code) (src : Source), c.day < 4096 →
    let today : Int := dayOf s.clock
    let d := issueDay (dayOf s.clock) c.day
    d ≤ today + 2 ∧ d % 4096 = c.day ∧ (∀ e : Int, e ≤ today + 2 → e % 4096 = c.day → e ≤ d) ∧
      today - 4093 ≤ d ∧
      (codeExpired s c = true ↔ c.cls = 0 ∧ 0 < s.params.ageLimit ∧ (s.params.ageLimit : Int) < today - d) ∧
      (c.cls ≤ 10 → sourcePermitted src c.cls = true → s.ce.keys.floor < c.sequence →
        c.sequence ∉ s.ce.keys.history →
        (codeExpired s c = true →
          (judgeAuthentic src c s).state = s ∧ (judgeAuthentic src c s).outcome = .expired) ∧
        (codeExpired s c = false → valueGood c.cls d c.value = true →
          judgeAuthentic src c s = applyCode src c d s))

/-- The cost of an item in split form (02 R28) is the sum of the costs of its Wh priced one at a time (02 R27): the
i-th at block 0 when T1 is 0 or CYCLE_WH is below T1, else at block 2 when T2 is above T1 and CYCLE_WH is T2 or above,
else at block 1. -/
def Obligations.SplitCostIsTheSumPerWh : Prop :=
  ∀ (rates : PerBlock Nat) (t1 t2 w n : Nat),
    itemCost rates t1 t2 w n =
      ((List.range n).map fun i =>
        if t1 = 0 ∨ w + i < t1 then rates.k0 else if t1 < t2 ∧ t2 ≤ w + i then rates.k2 else rates.k1).sum

/-- A top-up and a debit in either order (04 R62), with no debt lost to saturation: balance less debt is the same, and
when the debit taken first is not cut, the balance and the debt are the same. -/
def Obligations.TopUpAndDebitCommute : Prop :=
  ∀ (s : State) (cents c : Nat),
    s.params.recoveryPct ≤ 100 → floorOf s.params ≤ s.acct.balance → 1 ≤ c → s.acct.debt + c ≤ 99999999 →
    topUpRefused cents s = false → topUpRefused cents (debit c s) = false →
    let x := debit c (topUp cents s)
    let y := topUp cents (debit c s)
    x.acct.balance - x.acct.debt = y.acct.balance - y.acct.debt ∧
      (floorOf s.params ≤ s.acct.balance - c → x.acct.balance = y.acct.balance ∧ x.acct.debt = y.acct.debt)

/-- A consumed sequence number joins the history; of 33 the lowest is removed and becomes the floor (05 R89). -/
def Obligations.ConsumedCodeJoinsTheHistory : Prop :=
  ∀ (k : Keys) (n : Nat), k.Sound → k.floor < n → n ∉ k.history →
    (k.history.length < 32 →
      (∀ m, m ∈ (k.consume n).history ↔ m = n ∨ m ∈ k.history) ∧ (k.consume n).floor = k.floor) ∧
    (k.history.length = 32 →
      (k.consume n).history.length = 32 ∧ ((k.consume n).floor = n ∨ (k.consume n).floor ∈ k.history) ∧
        ∀ m, m ∈ (k.consume n).history ↔ (m = n ∨ m ∈ k.history) ∧ (k.consume n).floor < m) ∧
    (k.consume n).attempts = k.attempts ∧ (k.consume n).meterKey = k.meterKey ∧
    (k.consume n).keyRevision = k.keyRevision

/-! ### Requests that report (12 R181) -/

/-- IDENTIFY and GET_STATUS answer with the fields of 12 R181 and change nothing else. -/
def Obligations.IdentityAndStatusAreReported : Prop :=
  ∀ s : State, s.ready →
    (s.ps.meterId < 4294967296 → s.ce.keys.keyRevision ≤ 15 →
      ∃ r, exec (.identify []) s = .next (s.replying r) ∧ r.kind = 0x81#8 ∧ r.payload.length = 11 ∧
        fieldAt r.payload 0 1 = 0 ∧ fieldAt r.payload 1 2 = 0x4A46 ∧ fieldAt r.payload 3 2 = 0x0003 ∧
        fieldAt r.payload 5 1 = 0x01 ∧
        fieldAt r.payload 6 4 = (if s.ps.power = .shelf then 0 else s.ps.meterId) ∧
        fieldAt r.payload 10 1 = s.ce.keys.keyRevision) ∧
    (s.hlc.queue.length ≤ 16 →
      ∃ r, exec (.getStatus []) s = .next (s.replying r) ∧ r.kind = 0x82#8 ∧ r.payload.length = 10 ∧
        fieldAt r.payload 0 1 = 0 ∧ fieldAt r.payload 1 1 = (if s.ps.power = .shelf then 0 else 1) ∧
        fieldAt r.payload 2 1 =
          [CreditState.inCredit, .low, .offer, .emergency, .exhausted, .floor].idxOf s.acct.state ∧
        (∀ k, s.sss.contactor = .fault k → fieldAt r.payload 3 1 = 5 ∧
          fieldAt r.payload 4 1 = 1 + [FaultKind.welded, .noClose, .driver].idxOf k) ∧
        ((∀ k, s.sss.contactor ≠ .fault k) →
          fieldAt r.payload 3 1 = [Contactor.closed, .opening, .opened, .armed, .closing].idxOf s.sss.contactor ∧
          fieldAt r.payload 4 1 = 0) ∧
        (∀ i q, [Reason.credit, .overload, .tamper, .remote, .service][i]? = some q →
          (fieldAt r.payload 5 1).testBit i = s.sss.reasons.get q) ∧
        (∀ i k, [Kind.meterCase, .cover, .mag, .neutral, .vloss, .reverse, .bypass, .linkloss, .probe][i]? = some k →
          (fieldAt r.payload 6 2).testBit i = s.tm.kindInForce k) ∧
        (fieldAt r.payload 8 1).testBit 0 = (s.sss.verified == .unknown) ∧
        (fieldAt r.payload 8 1).testBit 1 = s.tc.clockValid ∧
        (fieldAt r.payload 8 1).testBit 2 = decide (64 ≤ s.tl.records.length) ∧
        fieldAt r.payload 9 1 = s.hlc.queue.length)

/-- GET_LEDGER, GET_ENERGY, GET_TARIFF and GET_TIME answer with the ledger, the registers, the tariff in force and the
clock as they stand (02 R38, 03 R54, 04 R74, 12 R181) and change nothing else. The block in force is that of 02 R27 at
CYCLE_WH as it stands. -/
def Obligations.RegistersAreReported : Prop :=
  ∀ s : State, s.ready →
    (s.params.InRange → s.acct.Sound s.params →
      -130000 ≤ s.acct.opening → s.acct.opening ≤ 99999999 →
      s.acct.crIn ≤ max48 → s.acct.crRecovered ≤ max48 → s.acct.crCharged ≤ max48 → s.acct.crRaised ≤ max48 →
      s.acct.crDeferred ≤ max48 →
      ∃ r, exec (.getLedger []) s = .next (s.replying r) ∧ r.kind = 0x83#8 ∧ r.payload.length = 53 ∧
        fieldAt r.payload 0 1 = 0 ∧ signedOf 32 (fieldAt r.payload 1 4) = s.acct.balance ∧
        signedOf 32 (fieldAt r.payload 5 4) = -((s.params.eAllow + s.params.fAllow : Nat) : Int) ∧
        fieldAt r.payload 9 4 = s.acct.residue ∧ fieldAt r.payload 13 4 = s.acct.debt ∧
        (fieldAt r.payload 17 1).testBit 0 = s.acct.available ∧ (fieldAt r.payload 17 1).testBit 1 = s.acct.accepted ∧
        fieldAt r.payload 18 1 =
          [CreditState.inCredit, .low, .offer, .emergency, .exhausted, .floor].idxOf s.acct.state ∧
        signedOf 32 (fieldAt r.payload 19 4) = s.acct.opening ∧ fieldAt r.payload 23 6 = s.acct.crIn ∧
        fieldAt r.payload 29 6 = s.acct.crRecovered ∧ fieldAt r.payload 35 6 = s.acct.crCharged ∧
        fieldAt r.payload 41 6 = s.acct.crRaised ∧ fieldAt r.payload 47 6 = s.acct.crDeferred) ∧
    ((∀ p, s.be.reg.importWh.get p ≤ max48 ∧ s.be.reg.exportWh.get p ≤ max48) → s.be.reg.billedWh ≤ max48 →
      s.be.reg.cycleWh ≤ max48 → s.be.bLast ≤ 96000 →
      ∃ r, exec (.getEnergy []) s = .next (s.replying r) ∧ r.kind = 0x84#8 ∧ r.payload.length = 52 ∧
        fieldAt r.payload 0 1 = 0 ∧ fieldAt r.payload 1 6 = s.be.reg.billedWh ∧
        fieldAt r.payload 7 6 = s.be.reg.cycleWh ∧ fieldAt r.payload 13 6 = s.be.reg.importWh.p1 ∧
        fieldAt r.payload 19 6 = s.be.reg.importWh.p2 ∧ fieldAt r.payload 25 6 = s.be.reg.importWh.p3 ∧
        fieldAt r.payload 31 6 = s.be.reg.exportWh.p1 ∧ fieldAt r.payload 37 6 = s.be.reg.exportWh.p2 ∧
        fieldAt r.payload 43 6 = s.be.reg.exportWh.p3 ∧ fieldAt r.payload 49 3 = s.be.bLast) ∧
    ((∀ b k, (s.tc.sched.rates.get b).get k ≤ 100000000) → s.tc.sched.cycleIndex < 65536 →
      ∃ r, exec (.getTariff []) s = .next (s.replying r) ∧ r.kind = 0x85#8 ∧ r.payload.length = 10 ∧
        let block : Block :=
          if s.params.t1 = 0 ∨ s.be.reg.cycleWh < s.params.t1 * 1000 then 0
          else if s.params.t1 < s.params.t2 ∧ s.params.t2 * 1000 ≤ s.be.reg.cycleWh then 2 else 1
        fieldAt r.payload 0 1 = 0 ∧ fieldAt r.payload 1 1 = s.tc.band.val ∧ fieldAt r.payload 2 1 = block.val ∧
        fieldAt r.payload 3 4 = (s.tc.sched.rates.get s.tc.band).get block ∧
        fieldAt r.payload 7 1 = s.tc.friendly.toNat ∧ fieldAt r.payload 8 2 = s.tc.sched.cycleIndex) ∧
    (s.clock ≤ 4294967295 → s.tc.trimUsed ≤ 120 →
      ∃ r, exec (.getTime []) s = .next (s.replying r) ∧ r.kind = 0x86#8 ∧ r.payload.length = 12 ∧
        fieldAt r.payload 0 1 = 0 ∧ fieldAt r.payload 1 4 = s.clock ∧
        fieldAt r.payload 5 1 = s.tc.clockValid.toNat ∧ fieldAt r.payload 6 2 = s.clock / 86400 ∧
        fieldAt r.payload 8 1 = (s.clock / 86400 + s.params.commWeekday) % 7 ∧
        fieldAt r.payload 9 2 = s.clock % 86400 / 60 ∧ fieldAt r.payload 11 1 = 120 - s.tc.trimUsed)

/-- GET_EVENTS returns up to six notices from the head of the queue, oldest first, ten bytes each: the kind, the meter
seconds and five bytes of detail, padded with 0; they leave the queue and the overflow flag is cleared (12 R182). ATTN
is driven after it exactly when notices are left, in ACTIVE with LINK_RESET high (12 R184). -/
def Obligations.EventsAreCollected : Prop :=
  ∀ s : State, s.ready → (∀ n ∈ s.hlc.queue, n.seconds < 4294967296) →
    ∃ r, exec (.getEvents []) s =
        .next ((s.setHlc { s.hlc with queue := s.hlc.queue.drop 6, overflow := false }).replying r) ∧
      r.kind = 0x87#8 ∧ r.payload.length = 3 + 10 * min 6 s.hlc.queue.length ∧ fieldAt r.payload 0 1 = 0 ∧
      fieldAt r.payload 1 1 = s.hlc.overflow.toNat ∧ fieldAt r.payload 2 1 = min 6 s.hlc.queue.length ∧
      (∀ i n, i < 6 → s.hlc.queue[i]? = some n →
        let sent := fun (kind : Nat) (fields : List (Nat × Nat)) =>
          (r.payload.drop (3 + 10 * i)).take 10 =
            bytesOf 1 kind ++ bytesOf 4 n.seconds ++ fields.flatMap fun f => bytesOf f.1 f.2
        let cond := fun (c : CondId) => 1 + [CondId.meterCase, .cover, .mag, .neutral, .vloss .p1, .vloss .p2, .vloss .p3,
          .reverse .p1, .reverse .p2, .reverse .p3, .bypass .p1, .bypass .p2, .bypass .p3, .linkloss, .probe].idxOf c
        let contactor := fun (c : Contactor) => [Contactor.closed, .opening, .opened, .armed, .closing].idxOf c
        let serial := fun (x : Ongoing) =>
          match x with
          | .serial k => k
          | .unrecorded => 0
          | .none => 0
        let source := fun (x : Source) => [Source.keypad, .remote].idxOf x
        match n.body with
        | .supply c unverified => sent 1 [(1, contactor c), (1, unverified.toNat), (3, 0)]
        | .credit c =>
          sent 2 [(1, [CreditState.inCredit, .low, .offer, .emergency, .exhausted, .floor].idxOf c), (4, 0)]
        | .tamperStart c x => sent 3 [(1, cond c), (4, serial x)]
        | .tamperEnd c x => sent 4 [(1, cond c), (4, serial x)]
        | .logFull c => sent 5 [(1, cond c), (4, 0)]
        | .contactorFault k pulses loadv coil =>
          sent 6 [(1, 1 + [FaultKind.welded, .noClose, .driver].idxOf k), (1, pulses),
            (1, loadv.p1.toNat + 2 * loadv.p2.toNat + 4 * loadv.p3.toNat),
            (1, [Coil.none, .open, .close].idxOf coil), (1, 0)]
        | .clockSet was => sent 7 [(4, was), (1, 0)]
        | .restoredWarm length => sent 8 [(1, 0), (4, length)]
        | .restoredCold occ generation =>
          sent 8 [(1, 1 + [Occasion.commission, .code, .periodic, .holdupEntry, .dormantEntry].idxOf occ),
            (4, generation)]
        | .groupDropped cls sequence parts src timeout =>
          sent 9 [(1, 8 + [GroupClass.setRate, .setProfile, .keyChange].idxOf cls), (2, sequence),
            (1, (parts.contains 0).toNat + 2 * (parts.contains 1).toNat + 4 * (parts.contains 2).toNat
              + 8 * (parts.contains 3).toNat), (1, source src + 2 * timeout.toNat)]
        | .lockout src ends => sent 10 [(1, source src), (1, ends.toNat), (3, 0)]
        | .debtSaturated cause loss =>
          sent 11 [(1, [DebtCause.debitCut, .allowanceRaise, .debtAdd].idxOf cause), (4, loss)]
        | .overload lockout limit count => sent 12 [(1, lockout.toNat), (3, limit), (1, count)]) ∧
      (((s.setHlc { s.hlc with queue := s.hlc.queue.drop 6, overflow := false }).replying r).attn = true ↔
        6 < s.hlc.queue.length ∧ s.ps.power = .active)

/-- READ_TAMPER_LOG (09 R160, 12 R183) changes nothing: a record read returns the records from its start position on,
fifteen bytes each, the extreme in kind units up to 16,383; a summary read the counts; a count outside 1..4 or a start
in 64..254 is BAD_VALUE. -/
def Obligations.TamperLogIsRead : Prop :=
  ∀ (s : State) (start count : Byte), s.ready →
    (∀ x ∈ s.tl.records, x.serial < 4294967296 ∧ x.start < 4294967296 ∧ x.stop.getD 0 < 4294967296) →
    s.tl.records.length ≤ 64 → s.tl.nextSerial < 4294967296 → (∀ k, s.tl.unrecorded.get k ≤ 65535) →
    (1 ≤ count.toNat → count.toNat ≤ 4 → start.toNat ≤ 63 →
      ∃ r, exec (.readTamperLog [start, count]) s = .next (s.replying r) ∧ r.kind = 0x88#8 ∧
        fieldAt r.payload 0 1 = 0 ∧ fieldAt r.payload 1 1 = s.tl.records.length ∧
        r.payload.length = 2 + 15 * min count.toNat (s.tl.records.length - start.toNat) ∧
        ∀ i x, i < count.toNat → s.tl.records[start.toNat + i]? = some x →
          let off := 2 + 15 * i
          fieldAt r.payload off 4 = x.serial ∧ fieldAt r.payload (off + 4) 1 / 16 = x.cond.number ∧
            (fieldAt r.payload (off + 4) 1).testBit 3 = x.stop.isSome ∧
            (fieldAt r.payload (off + 4) 1).testBit 2 = x.clockValid ∧
            (fieldAt r.payload (off + 4) 1).testBit 1 = x.inHoldup ∧
            (fieldAt r.payload (off + 4) 1).testBit 0 = x.actions.opens ∧
            (fieldAt r.payload (off + 5) 1).testBit 7 = x.actions.deemed ∧
            (fieldAt r.payload (off + 5) 1).testBit 6 = x.actions.latch ∧
            fieldAt r.payload (off + 5) 2 % 16384 =
              (match x.extreme with
              | none => 0
              | some m =>
                match x.cond with
                | .neutral => min 16383 (m.natAbs / 10)
                | .bypass _ => min 16383 (m.natAbs / 10)
                | .reverse _ => min 16383 (m.natAbs / 2)
                | .linkloss => min 16383 (m.natAbs / 4)
                | .meterCase => 0
                | .cover => 0
                | .mag => 0
                | .vloss _ => 0
                | .probe => 0) ∧
            fieldAt r.payload (off + 7) 4 = x.start ∧ fieldAt r.payload (off + 11) 4 = x.stop.getD 0) ∧
    (1 ≤ count.toNat → count.toNat ≤ 4 → start.toNat = 255 →
      ∃ r, exec (.readTamperLog [start, count]) s = .next (s.replying r) ∧ r.kind = 0x88#8 ∧
        r.payload.length = 25 ∧ fieldAt r.payload 0 1 = 0 ∧ fieldAt r.payload 1 1 = s.tl.records.length ∧
        fieldAt r.payload 2 4 = s.tl.nextSerial ∧ fieldAt r.payload 6 1 = s.tl.fullNoticed.toNat ∧
        ∀ i k, [Kind.meterCase, .cover, .mag, .neutral, .vloss, .reverse, .bypass, .linkloss, .probe][i]? = some k →
          fieldAt r.payload (7 + 2 * i) 2 = s.tl.unrecorded.get k) ∧
    (count.toNat = 0 ∨ 4 < count.toNat ∨ (63 < start.toNat ∧ start.toNat < 255) →
      exec (.readTamperLog [start, count]) s = .next (s.replying ⟨0x88#8, [0x03#8]⟩))

/-- A request refused (12 R180) is answered with its status alone, and nothing else changes: kind, length, power state
and fields are checked in that order. A CUSTOMER_KEY frame (0x11) whose payload is not one byte is BAD_LENGTH, and one
whose key is neither 0 nor 1 BAD_VALUE (R181). A COMMISSION is BAD_VALUE unless the minute is 1,439 or less, the weekday
6 or less and the key revision 15 or less, every entry names a listed index but COMM_WEEKDAY's with a value in its
range, no index is named twice, and the opening balance lies between the floor given and 99,999,999 (11 R172). -/
def Obligations.RefusalsAnswerAloneInOrder : Prop :=
  ∀ (s : State) (payload : List Byte), s.ready → payload.length ≤ 63 →
    (∀ kind : Byte, kind.toNat < 0x80 → kind ∉ requestKinds →
      exec (.badKind kind payload) s = .next (s.replying ⟨kind + 0x80#8, [0x02#8]⟩)) ∧
    (payload ≠ [] →
      exec (.identify payload) s = .next (s.replying ⟨0x81#8, [0x01#8]⟩) ∧
      exec (.getStatus payload) s = .next (s.replying ⟨0x82#8, [0x01#8]⟩) ∧
      exec (.getLedger payload) s = .next (s.replying ⟨0x83#8, [0x01#8]⟩) ∧
      exec (.getEnergy payload) s = .next (s.replying ⟨0x84#8, [0x01#8]⟩) ∧
      exec (.getTariff payload) s = .next (s.replying ⟨0x85#8, [0x01#8]⟩) ∧
      exec (.getTime payload) s = .next (s.replying ⟨0x86#8, [0x01#8]⟩) ∧
      exec (.getEvents payload) s = .next (s.replying ⟨0x87#8, [0x01#8]⟩)) ∧
    (payload.length ≠ 2 → exec (.readTamperLog payload) s = .next (s.replying ⟨0x88#8, [0x01#8]⟩)) ∧
    (payload = [] → exec (.submitCode payload) s = .next (s.replying ⟨0x90#8, [0x01#8]⟩)) ∧
    (payload ≠ [] → payload.length ≤ 62 →
      exec (.restore payload) s = .next (s.replying ⟨0x91#8, [0x01#8]⟩) ∧
      exec (.acceptEmergency payload) s = .next (s.replying ⟨0x91#8, [0x01#8]⟩)) ∧
    (s.hlc.rx = none →
      let body := BitVec.ofNat 8 (payload.length + 1) :: 0x11#8 :: payload
      let key :=
        exec (.frameDiscard ((0xC3#8 :: (body ++ bytesOf 2 (frameCheck body).toNat)).map fun b => ⟨b, false⟩)) s
      (payload.length ≠ 1 → key = .next (s.replying ⟨0x91#8, [0x01#8]⟩)) ∧
      (payload.length = 1 → s.ps.power = .shelf → key = .next (s.replying ⟨0x91#8, [0x05#8]⟩)) ∧
      (payload.length = 1 → s.ps.power = .active → 1 < fieldAt payload 0 1 →
        key = .next (s.replying ⟨0x91#8, [0x03#8]⟩))) ∧
    (payload.length ≠ 1 → exec (.trimClock payload) s = .next (s.replying ⟨0x92#8, [0x01#8]⟩)) ∧
    (payload.length < 20 ∨ payload.length % 3 ≠ 2 →
      exec (.commission payload) s = .next (s.replying ⟨0xA0#8, [0x01#8]⟩)) ∧
    (s.ps.power = .shelf →
      (payload ≠ [] → exec (.submitCode payload) s = .next (s.replying ⟨0x90#8, [0x05#8]⟩)) ∧
      exec (.restore []) s = .next (s.replying ⟨0x91#8, [0x05#8]⟩) ∧
      exec (.acceptEmergency []) s = .next (s.replying ⟨0x91#8, [0x05#8]⟩) ∧
      (payload.length = 1 → exec (.trimClock payload) s = .next (s.replying ⟨0x92#8, [0x05#8]⟩)) ∧
      (20 ≤ payload.length → payload.length % 3 = 2 → ¬CommissionGood payload →
        exec (.commission payload) s = .next (s.replying ⟨0xA0#8, [0x03#8]⟩))) ∧
    (s.ps.power = .active →
      (20 ≤ payload.length → payload.length % 3 = 2 →
        exec (.commission payload) s = .next (s.replying ⟨0xA0#8, [0x05#8]⟩)) ∧
      (payload ≠ [] → 1 < fieldAt payload 0 1 →
        exec (.submitCode payload) s = .next (s.replying ⟨0x90#8, [0x03#8]⟩)))

/-! ### Codes (05) -/

/-- A code from a locked-out source is answered LOCKED_OUT with the seconds left (a part of a second: log 14),
undecoded; a string that is not a code is answered MALFORMED: not 21 characters, a character that is not a digit, or a
number of 2^69 (590,295,810,358,705,651,712) or more, as is every one with a first digit of 6 or above (05 R77, R79).
Neither changes anything else. -/
def Obligations.UndecodedCodesChangeNothing : Prop :=
  ∀ (s : State) (src : Source) (chars : List Byte), s.ready → s.ps.power = .active → chars.length ≤ 62 →
    (∀ k, s.ce.keys.attempts.get src = 0 → s.ce.lockout.get src = some (1000 * k) → k ≤ 3600 →
      exec (.submitCode (sourceByte src :: chars)) s =
        .next (s.replying ⟨0x90#8, [0x00#8, 0x03#8, 0xFF#8] ++ bytesOf 2 k⟩)) ∧
    (s.ce.keys.attempts.get src ≠ 0 →
      (chars.length ≠ 21 ∨ (∃ b ∈ chars, b.toNat < 0x30 ∨ 0x39 < b.toNat) ∨
        590295810358705651712 ≤ chars.foldl (fun n b => n * 10 + (b.toNat - 0x30)) 0 ∨
        ∃ b rest, chars = b :: rest ∧ 0x36 ≤ b.toNat) →
      exec (.submitCode (sourceByte src :: chars)) s = .next (s.replying ⟨0x90#8, [0x00#8, 0x04#8, 0xFF#8]⟩))

/-- A code that is not authentic lowers its source's attempt counter by 1 (05 R85). At 0 the source is locked out for
3,600 s, PROBE has it among its sources and starts if it was idle with none (08 R139), and LOCKOUT is noticed. That its
notice comes last, behind TM's, is the model's choice (log 7, DEDUCED): 12 R182 leaves their order open. -/
def Obligations.FailedAuthenticationCostsAnAttempt : Prop :=
  ∀ (s : State) (src : Source) (chars : List Byte) (n k : Nat), s.ready → s.ps.power = .active →
    s.ce.keys.attempts.get src = k → 1 ≤ k → k ≤ 5 → codeNumber chars = some n →
    (decodeCode s.ce.keys.meterKey n).authentic s.ce.keys.meterKey = false →
    (2 ≤ k → exec (.submitCode (sourceByte src :: chars)) s =
      .next ((s.setAttempts src (k - 1)).replying
        ⟨0x90#8, [0x00#8, 0x05#8, 0xFF#8, BitVec.ofNat 8 (k - 1)]⟩)) ∧
    (k = 1 → ∃ t, exec (.submitCode (sourceByte src :: chars)) s = .next t ∧
      t.ce = { s.ce with
        keys := { s.ce.keys with attempts := s.ce.keys.attempts.set src 0 }
        lockout := s.ce.lockout.set src (some 3600000) } ∧
      t.hlc.sending = some ⟨0x90#8, [0x00#8, 0x05#8, 0xFF#8, 0x00#8]⟩ ∧
      t.tm.probeSources = s.tm.probeSources.set src true ∧
      (s.tm.probeSources = ⟨false, false⟩ → (t.cond .probe).state = .active) ∧
      (s.hlc.queue.length ≤ 12 → t.hlc.queue.getLast? = some ⟨.lockout src false, s.clock⟩) ∧
      t.params = s.params ∧ t.mli = s.mli ∧ t.be = s.be ∧ t.tc = s.tc ∧ t.cl = s.cl ∧ t.ps = s.ps ∧ t.pins = s.pins)

/-- An authentic code refused at steps 4 to 8 (05 R80 to R83) restores its source's five attempts (R87) and changes
nothing else: classes 11..15, a class KEYPAD may not carry, a sequence at or below the floor, one in the history, a
CREDIT code past AGE_LIMIT, a value that breaks its class's rules. No group is pending. The rules are those of section
5.5: an amount of at most 2,000,000 cents; an action 0 or 1; a minute of at most 1,439 and a second of at most 59; a
known parameter index; hours above 0; bits that must be 0; a resulting clock in range; a part index below the count (a
part index of two bits is always below 4). A value that breaks none passes step 8. -/
def Obligations.AuthenticRefusalsConsumeNothing : Prop :=
  ∀ (s : State) (src : Source) (chars : List Byte) (c : Code), s.presents src chars c → s.ce.group = none →
    let answered := fun (bytes : List Byte) =>
      exec (.submitCode (sourceByte src :: chars)) s = .next ((s.setAttempts src 5).replying ⟨0x90#8, 0x00#8 :: bytes⟩)
    let cls : Byte := BitVec.ofNat 8 c.cls
    let v := c.value.toNat
    let day := issueDay (dayOf s.clock) c.day
    let broken :=
      (c.cls ≤ 1 ∧ 2000000 < v) ∨
      (c.cls = 2 ∧ 1 < v) ∨
      (c.cls = 3 ∧ (1439 < v / 2 % 2048 ∨ v % 2 ≠ 0)) ∨
      (c.cls = 4 ∧ ¬(1 ≤ v / 8192 ∧ v / 8192 ≤ 26) ∧ ¬(32 ≤ v / 8192 ∧ v / 8192 ≤ 40) ∧
        ¬(48 ≤ v / 8192 ∧ v / 8192 ≤ 59)) ∨
      (c.cls = 5 ∧ v % 256 = 0) ∨
      (c.cls = 6 ∧ (1439 < v / 1024 ∨ 59 < v / 16 % 64 ∨ v % 16 ≠ 0 ∨ day < 0 ∨
        4294967295 < day * 86400 + ((v / 1024 * 60 + v / 16 % 64 : Nat) : Int))) ∨
      (c.cls = 7 ∧ v % 16384 ≠ 0) ∨
      (c.cls = 8 ∧ 1 < v / 524288)
    (c.cls ≤ 10 → (valueGood c.cls day c.value = true ↔ ¬broken)) ∧
    (11 ≤ c.cls → answered [0x06#8, cls]) ∧
    (src = .keypad → c.cls = 2 ∨ c.cls = 10 → answered [0x07#8, cls]) ∧
    (c.cls ≤ 10 → src = .remote ∨ (c.cls ≠ 2 ∧ c.cls ≠ 10) →
      (c.sequence ≤ s.ce.keys.floor →
        answered ([0x08#8, cls] ++ bytesOf 2 c.sequence ++ bytesOf 2 s.ce.keys.floor)) ∧
      (s.ce.keys.floor < c.sequence → c.sequence ∈ s.ce.keys.history →
        answered ([0x09#8, cls] ++ bytesOf 2 c.sequence)) ∧
      (s.ce.keys.floor < c.sequence → c.sequence ∉ s.ce.keys.history → codeExpired s c = true →
        answered ([0x0A#8, cls] ++ bytesOfInt 2 (dayOf s.clock - day))) ∧
      (s.ce.keys.floor < c.sequence → c.sequence ∉ s.ce.keys.history → codeExpired s c = false →
        broken → answered [0x0B#8, cls]))

/-- A CREDIT code of A cents that reaches the apply step (04 R61, 05 R84): q = min(debt, A × RECOVERY_PCT / 100) goes
to debt and R = A − q to the balance, the ledger is recomputed (R66, R68, R69), the code is consumed and its checkpoint
written, and the reply carries R and q. The recomputation raises one CREDIT notice with the new credit state if that
has changed, and none if not (R66); the notice of a pending group, which the code discards, stands before it (05 R99),
and a full queue sets the overflow flag (12 R182). That notices of several blocks join in the order in which the rules
state their effects is the model's choice (log 7). When the balance would pass 99,999,999 the answer is BALANCE_LIMIT
and the ledger and the history stay. -/
def Obligations.CreditCodeTopsUp : Prop :=
  ∀ (s : State) (src : Source) (chars : List Byte) (c : Code),
    s.presents src chars c → s.passes c → c.cls = 0 → s.params.recoveryPct ≤ 100 → s.acct.debt ≤ 99999999 →
    let a := c.value.toNat
    let q := min s.acct.debt (a * s.params.recoveryPct / 100)
    let dropped : List Notice := s.ce.group.toList.map fun g =>
      ⟨.groupDropped g.cls g.sequence (g.parts.map GroupPart.index) g.firstSource false, s.clock⟩
    (s.acct.balance + (a - q : Nat) ≤ 99999999 →
      ∃ t, exec (.submitCode (sourceByte src :: chars)) s = .next t ∧
        s.consumed t src c ([0x00#8, 0x00#8] ++ bytesOf 4 (a - q) ++ bytesOf 4 q) ∧
        t.acct.balance = s.acct.balance + (a - q : Nat) ∧ t.acct.debt = s.acct.debt - q ∧
        t.acct.residue = s.acct.residue ∧ t.acct.opening = s.acct.opening ∧
        t.acct.crIn = min max48 (s.acct.crIn + a) ∧ t.acct.crRecovered = min max48 (s.acct.crRecovered + q) ∧
        t.acct.crCharged = s.acct.crCharged ∧ t.acct.crRaised = s.acct.crRaised ∧
        t.acct.crDeferred = s.acct.crDeferred ∧
        t.acct.satNoted = (s.acct.satNoted && decide (s.acct.debt - q = 99999999)) ∧
        t.acct.recomputed s.params s.acct.accepted s.acct.available ∧
        (let told : List Notice :=
          s.hlc.queue ++ dropped ++ (if t.acct.state = s.acct.state then [] else [⟨.credit t.acct.state, s.clock⟩])
        told.length ≤ 16 →
          told <+: t.hlc.queue ∧ ∀ n ∈ t.hlc.queue.drop told.length, ∀ x, n.body ≠ .credit x) ∧
        (16 ≤ s.hlc.queue.length → t.hlc.queue = s.hlc.queue ∧ (t.acct.state ≠ s.acct.state → t.hlc.overflow = true)) ∧
        t.params = s.params ∧ t.mli = s.mli ∧ t.be = s.be ∧ t.tc = s.tc ∧ t.ce.group = none ∧
        t.ce.lockout = s.ce.lockout ∧ t.ll = s.ll ∧ t.tm = s.tm ∧ t.tl = s.tl ∧ t.pins = s.pins) ∧
    (99999999 < s.acct.balance + (a - q : Nat) → s.ce.group = none →
      exec (.submitCode (sourceByte src :: chars)) s =
        .next ((s.setAttempts src 5).replying ⟨0x90#8, [0x00#8, 0x0C#8, 0x00#8]⟩))

/-- DEBT_ADD, REMOTE_SWITCH, TEMP_LIMIT, SET_CLOCK and SET_WEEKMAP codes that reach the apply step: each is consumed
and gives its owner what it carries (04 R63, 05 R92, 07 R124, 03 R43, 05 R97). A DEBT_ADD that debt cannot hold raises
one DEBT_SATURATED notice with the loss, unless a saturation was noted already, and no other notice of the ledger (04
R58, R63); the notice of a pending group, which the code discards, stands before it (05 R99), and a full queue sets the
overflow flag (12 R182). That notices of several blocks join in the order in which the rules state their effects is the
model's choice (log 7). -/
def Obligations.EngineeringCodesTakeEffect : Prop :=
  ∀ (s : State) (src : Source) (chars : List Byte) (c : Code), s.presents src chars c → s.passes c →
    let v := c.value.toNat
    let dropped : List Notice := s.ce.group.toList.map fun g =>
      ⟨.groupDropped g.cls g.sequence (g.parts.map GroupPart.index) g.firstSource false, s.clock⟩
    let noted : List Notice :=
      if 99999999 < s.acct.debt + v ∧ s.acct.satNoted = false then
        [⟨.debtSaturated .debtAdd (s.acct.debt + v - 99999999), s.clock⟩]
      else []
    let done := fun (t : State) => exec (.submitCode (sourceByte src :: chars)) s = .next t
    (c.cls = 1 → s.acct.debt ≤ 99999999 →
      ∃ t, done t ∧ s.consumed t src c ([0x00#8, 0x01#8] ++ bytesOf 4 (min v (99999999 - s.acct.debt))) ∧
        t.acct = { s.acct with
          debt := min 99999999 (s.acct.debt + v)
          satNoted := s.acct.satNoted || decide (99999999 < s.acct.debt + v) } ∧
        ((s.hlc.queue ++ dropped ++ noted).length ≤ 16 →
          t.hlc.queue = s.hlc.queue ++ dropped ++ noted ∧ t.hlc.overflow = s.hlc.overflow) ∧
        (16 ≤ s.hlc.queue.length →
          t.hlc.queue = s.hlc.queue ∧ t.hlc.overflow = (s.hlc.overflow || !(dropped ++ noted).isEmpty)) ∧
        t.cl.creditHeld = s.cl.creditHeld ∧ t.params = s.params ∧ t.be = s.be ∧ t.tc = s.tc ∧ t.sss = s.sss ∧
        t.ll = s.ll ∧ t.tm = s.tm ∧ t.tl = s.tl) ∧
    (c.cls = 2 → src = .remote →
      ∃ t, done t ∧
        s.consumed t src c ([0x00#8, 0x02#8] ++ bytesOf 1 (s.sss.reasons.remote != (v == 0)).toNat) ∧
        t.sss.reasons = { s.sss.reasons with remote := v == 0 } ∧
        (v = 0 → s.sss.reasons.remote = false → s.sss.contactor = .closed →
          t.sss.contactor = .opening ∧ t.sss.phase = .pulse) ∧
        t.cl = s.cl ∧ t.params = s.params ∧ t.be = s.be ∧ t.tc = s.tc ∧ t.ll = s.ll ∧ t.tm = s.tm ∧ t.tl = s.tl) ∧
    (c.cls = 5 →
      ∃ t, done t ∧ s.consumed t src c ([0x00#8, 0x05#8] ++ bytesOf 4 (v / 256 * 10) ++ bytesOf 1 (v % 256)) ∧
        (v / 256 = 0 → t.ll = { s.ll with tempLimit := 0 }) ∧
        (v / 256 ≠ 0 → t.ll = { s.ll with
          tempLimit := v / 256 * 10, tempExpiry := min 4294967295 (s.clock + v % 256 * 3600) }) ∧
        t.cl = s.cl ∧ t.params = s.params ∧ t.be = s.be ∧ t.tc = s.tc ∧ t.sss = s.sss ∧ t.tm = s.tm ∧ t.tl = s.tl) ∧
    (c.cls = 6 →
      let d := (issueDay (dayOf s.clock) c.day).toNat
      let now := d * 86400 + v / 1024 * 60 + v / 16 % 64
      ∃ t, done t ∧ s.consumed t src c ([0x00#8, 0x06#8] ++ bytesOf 4 now) ∧
        t.clock = now ∧ t.tc.phase = 0 ∧ t.tc.clockValid = true ∧ t.tc.trimUsed = 0 ∧ t.tc.allowanceDay = d ∧
        (s.hlc.queue.length ≤ 12 → t.hlc.queue.getLast? = some ⟨.clockSet s.clock, now⟩) ∧
        t.acct = s.acct ∧ t.params = s.params ∧ t.be.reg.billedWh = s.be.reg.billedWh ∧ t.ll = s.ll ∧ t.tm = s.tm ∧
        t.tl = s.tl) ∧
    (c.cls = 7 →
      ∃ t, done t ∧ s.consumed t src c [0x00#8, 0x07#8] ∧
        t.tc.sched.weekMap = (List.range 7).map (fun d => if c.value.getLsbD (14 + d) then .b else .a) ∧
        t.tc.sched.rates = s.tc.sched.rates ∧ t.tc.sched.profileA = s.tc.sched.profileA ∧
        t.tc.sched.profileB = s.tc.sched.profileB ∧ t.clock = s.clock ∧ t.acct = s.acct ∧ t.params = s.params ∧
        t.ll = s.ll ∧ t.tm = s.tm ∧ t.tl = s.tl)

/-- A SET_CONFIG code that reaches the apply step (05 R94, 11 R175): the value in code steps, times the step, clamped
into the parameter's range, becomes the parameter's value; the outcome says whether it was clamped. E_ALLOW and
F_ALLOW move the floor, and a balance below the new floor is raised to it, the difference going to debt (04 R64); the
ledger is recomputed (R66, R68, R69), with emergency credit available first where E_ALLOW is raised from 0 (R65), as it
is at the two thresholds. A changed CYCLE_DAYS re-bases the cycle index and keeps CYCLE_WH (03 R52); a code that gives
it the value it has re-bases nothing, which is the model's choice (log 30). -/
def Obligations.SetConfigGivesTheClampedValue : Prop :=
  ∀ (s : State) (src : Source) (chars : List Byte) (c : Code) (row : ParamRow),
    s.presents src chars c → s.passes c → c.cls = 4 → paramRow (c.value.toNat / 8192) = some row →
    s.acct.debt ≤ 99999999 →
    let index := c.value.toNat / 8192
    let asked := c.value.toNat % 8192 * row.step
    let v := max row.lo (min row.hi asked)
    ∃ t, exec (.submitCode (sourceByte src :: chars)) s = .next t ∧
      s.consumed t src c ([if v = asked then 0x00#8 else 0x01#8, 0x04#8] ++ bytesOf 1 index ++ bytesOf 4 v) ∧
      t.params = s.params.setAt index v ∧ (index = 1 → t.params.vNom = v) ∧ (index = 3 → t.params.deemedW = v) ∧
      (index = 40 → t.params.actions.probe = v) ∧ (index = 59 → t.params.windows.w3.stop = v) ∧
      (index = 10 → t.params.eAllow = v) ∧ (index = 11 → t.params.fAllow = v) ∧
      (index = 10 ∨ index = 11 →
        t.acct.balance = max s.acct.balance (floorOf t.params) ∧
          (t.acct.debt : Int) = min 99999999 (s.acct.debt + (t.acct.balance - s.acct.balance)) ∧
          t.acct.recomputed t.params s.acct.accepted
            (s.acct.available || decide (s.params.eAllow = 0 ∧ 0 < t.params.eAllow ∧ s.acct.accepted = false))) ∧
      (index = 12 → t.params.lowThreshold = v) ∧ (index = 13 → t.params.rearmThreshold = v) ∧
      (index = 12 ∨ index = 13 →
        t.acct = { s.acct with accepted := t.acct.accepted, available := t.acct.available, state := t.acct.state } ∧
          t.acct.recomputed t.params s.acct.accepted s.acct.available) ∧
      (index = 16 → t.params.cycleDays = v ∧ (v ≠ s.params.cycleDays →
        t.tc.sched.cycleIndex = s.clock / 86400 / v ∧ t.be.reg.cycleWh = s.be.reg.cycleWh) ∧
        (v = s.params.cycleDays → s.tc.clockValid = false → t.tc.sched.cycleIndex = s.tc.sched.cycleIndex)) ∧
      (index < 10 → t.cl = s.cl ∧ t.tc = s.tc ∧ t.sss = s.sss ∧ t.tm = s.tm) ∧
      t.be.reg.billedWh = s.be.reg.billedWh ∧ t.mli = s.mli ∧ t.ll = s.ll ∧ t.tl = s.tl ∧ t.clock = s.clock ∧
      t.pins = s.pins

/-- A CLEAR_TAMPER code that reaches the apply step (05 R93): of the kinds in its mask the latches are cleared whose
condition is IDLE and last ended before the cutoff (08 R145), and the records are removed that ended before it (09
R158); all others stay. The reply carries both counts. -/
def Obligations.ClearTamperRemovesWhatEndedBefore : Prop :=
  ∀ (s : State) (src : Source) (chars : List Byte) (c : Code), s.presents src chars c → s.passes c → c.cls = 3 →
    s.tl.records.length ≤ 64 →
    let v := c.value.toNat
    let cutoff : Int := issueDay (dayOf s.clock) c.day * 86400 + ((v / 2 % 2048 * 60 : Nat) : Int)
    let masked := fun (k : Kind) => (v / 4096).testBit
      ([Kind.meterCase, .cover, .mag, .neutral, .vloss, .reverse, .bypass, .linkloss, .probe].idxOf k)
    let before := fun (e : Option Nat) => e.any fun n => decide ((n : Int) < cutoff)
    let freed := fun (x : CondId) =>
      masked x.kind && (s.cond x).latch && (s.cond x).state == .idle && before (s.cond x).lastEnd
    let kept := s.tl.records.filter fun r => !(masked r.cond.kind && before r.stop)
    ∃ t, exec (.submitCode (sourceByte src :: chars)) s = .next t ∧
      s.consumed t src c ([0x00#8, 0x03#8] ++ bytesOf 1 (allConds.countP freed) ++
        bytesOf 1 (s.tl.records.length - kept.length)) ∧
      t.tl.records = kept ∧ t.tl.nextSerial = s.tl.nextSerial ∧
      (∀ x, t.cond x = { s.cond x with latch := (s.cond x).latch && !freed x }) ∧
      (∀ k, t.tl.unrecorded.get k =
        if masked k ∧ (kept.length < s.tl.records.length ∨ s.tl.records.length < 64) then 0
        else s.tl.unrecorded.get k) ∧
      t.tm.hold = s.tm.hold ∧ t.cl = s.cl ∧ t.params = s.params ∧ t.mli = s.mli ∧ t.be = s.be ∧ t.tc = s.tc ∧
      t.ll = s.ll ∧ t.pins = s.pins

/-- Code groups (05 R98 to R102). The first part opens a group and is held, and so is a further one that does not
complete it; a part already received is DUPLICATE_PART. The part that completes a SET_RATE group replaces the one rate,
a SET_PROFILE group the whole profile, and a KEY_CHANGE group key and revision, with the history, the floor, the
counters and the timers renewed. A content that breaks its class's rules is BAD_VALUE: the group is discarded without
notice and not consumed. An authentic code of another class or sequence drops the pending group with a notice of cause
"other code" and is judged on its own (R99). -/
def Obligations.GroupsAreAppliedWhole : Prop :=
  ∀ (s : State) (src : Source) (chars : List Byte) (c : Code), s.presents src chars c →
    let part : GroupPart := ⟨c.value.toNat / 524288, c.value.extractLsb' 0 19⟩
    let cls : Byte := BitVec.ofNat 8 c.cls
    let done := fun (t : State) => exec (.submitCode (sourceByte src :: chars)) s = .next t
    let broken := ((s.setAttempts src 5).setGroup none).replying ⟨0x90#8, [0x00#8, 0x0B#8, cls]⟩
    (s.passes c → s.ce.group = none →
      (c.cls = 8 → done (((s.setAttempts src 5).setGroup (some ⟨.setRate, c.sequence, src, [part], 600000⟩)).replying
        ⟨0x90#8, [0x00#8, 0x02#8, cls, BitVec.ofNat 8 (2 ^ part.index)]⟩)) ∧
      (c.cls = 9 → done (((s.setAttempts src 5).setGroup
        (some ⟨.setProfile, c.sequence, src, [part], 600000⟩)).replying
        ⟨0x90#8, [0x00#8, 0x02#8, cls, BitVec.ofNat 8 (2 ^ part.index)]⟩)) ∧
      (c.cls = 10 → src = .remote → done (((s.setAttempts src 5).setGroup
        (some ⟨.keyChange, c.sequence, src, [part], 600000⟩)).replying
        ⟨0x90#8, [0x00#8, 0x02#8, cls, BitVec.ofNat 8 (2 ^ part.index)]⟩))) ∧
    (∀ g, s.passes c → s.ce.group = some g → groupClassOf c.cls = some g.cls → g.sequence = c.sequence →
      src = .remote ∨ c.cls ≠ 10 → part.index ∈ g.indices →
      done ((s.setAttempts src 5).replying ⟨0x90#8, [0x00#8, 0x0D#8, cls] ++ bytesOf 1 (partSet g.indices)⟩)) ∧
    (∀ g, s.passes c → s.ce.group = some g → groupClassOf c.cls = some g.cls → g.sequence = c.sequence →
      src = .remote ∨ c.cls ≠ 10 → part.index ∉ g.indices →
      (∃ i, i < (if g.cls = .setRate then 2 else 4) ∧ i ≠ part.index ∧ i ∉ g.indices) →
      done (((s.setAttempts src 5).setGroup (some { g with parts := g.parts ++ [part] })).replying
        ⟨0x90#8, [0x00#8, 0x02#8, cls] ++ bytesOf 1 (partSet (g.indices ++ [part.index]))⟩)) ∧
    (∀ g, s.passes c → s.ce.group = some g → c.cls = 8 → g.cls = .setRate → g.sequence = c.sequence →
      part.index ∉ g.indices → (∀ i, i < 2 → i = part.index ∨ i ∈ g.indices) →
      let p := payloadAt (g.parts ++ [part])
      let content := p 0 * 524288 + p 1
      let band := content / 2 ^ 36
      let block := content / 2 ^ 34 % 4
      let rate := content / 128 % 2 ^ 27
      (block = 3 ∨ content % 128 ≠ 0 → done broken) ∧
      (block ≠ 3 → content % 128 = 0 →
        ∃ t, done t ∧ t.ce.group = none ∧
          s.consumed t src c ([if rate ≤ 100000000 then 0x00#8 else 0x01#8, 0x08#8] ++ bytesOf 1 band ++
            bytesOf 1 block ++ bytesOf 4 (min rate 100000000)) ∧
          (∀ (b : Band) (k : Block), (t.tc.sched.rates.get b).get k =
            if b.val = band ∧ k.val = block then min rate 100000000 else (s.tc.sched.rates.get b).get k) ∧
          t.tc.sched.profileA = s.tc.sched.profileA ∧ t.tc.sched.profileB = s.tc.sched.profileB ∧
          t.tc.sched.weekMap = s.tc.sched.weekMap ∧ t.clock = s.clock ∧
          t.acct = s.acct ∧ t.params = s.params ∧ t.tm = s.tm ∧ t.tl = s.tl ∧ t.ll = s.ll)) ∧
    (∀ g, s.passes c → s.ce.group = some g → c.cls = 9 → g.cls = .setProfile → g.sequence = c.sequence →
      part.index ∉ g.indices → (∀ i, i < 4 → i = part.index ∨ i ∈ g.indices) →
      let p := payloadAt (g.parts ++ [part])
      let content := p 0 * 2 ^ 57 + p 1 * 2 ^ 38 + p 2 * 2 ^ 19 + p 3
      let count := content / 2 ^ 72 % 8
      let start := fun (j : Nat) => content / 2 ^ (64 - 10 * j) % 256
      let band := fun (j : Nat) => content / 2 ^ (62 - 10 * j) % 4
      let good := 1 ≤ count ∧ count ≤ 6 ∧ (∀ j, j < count → start j ≤ 143) ∧
        (∀ j, j < count - 1 → start j < start (j + 1)) ∧ (∀ j, j < 6 → count ≤ j → start j = 0 ∧ band j = 0) ∧
        content % 4096 = 0
      let points := (List.range count).map fun j => (⟨start j, Fin.ofNat 4 (band j)⟩ : SwitchPoint)
      (¬good → done broken) ∧
      (good →
        ∃ t, done t ∧ t.ce.group = none ∧ s.consumed t src c ([0x00#8, 0x09#8] ++ bytesOf 1 (content / 2 ^ 75)) ∧
          t.tc.sched.profileA = (if content / 2 ^ 75 = 0 then points else s.tc.sched.profileA) ∧
          t.tc.sched.profileB = (if content / 2 ^ 75 = 0 then s.tc.sched.profileB else points) ∧
          t.tc.sched.rates = s.tc.sched.rates ∧ t.tc.sched.weekMap = s.tc.sched.weekMap ∧ t.clock = s.clock ∧
          t.acct = s.acct ∧ t.params = s.params ∧ t.tm = s.tm ∧ t.tl = s.tl ∧ t.ll = s.ll)) ∧
    (∀ g, s.passes c → s.ce.group = some g → c.cls = 10 → src = .remote → g.cls = .keyChange →
      g.sequence = c.sequence → part.index ∉ g.indices → (∀ i, i < 4 → i = part.index ∨ i ∈ g.indices) →
      let p := payloadAt (g.parts ++ [part])
      let content := p 0 * 2 ^ 57 + p 1 * 2 ^ 38 + p 2 * 2 ^ 19 + p 3
      (content % 256 ≠ 0 ∨ content / 256 % 16 = s.ce.keys.keyRevision → done broken) ∧
      (content % 256 = 0 → content / 256 % 16 ≠ s.ce.keys.keyRevision →
        ∃ t, done t ∧
          t.ce = ⟨⟨BitVec.ofNat 64 (content / 4096), content / 256 % 16, 0, [], ⟨5, 5⟩⟩, ⟨none, none⟩, none⟩ ∧
          t.hlc.slot = .awaitingWrite (some ⟨0x90#8, [0x00#8, 0x00#8, 0x0A#8]⟩) ∧
          (∃ w, t.ps.write = some w ∧ w.img.occasion = .code) ∧ t.cl = s.cl ∧ t.params = s.params ∧ t.be = s.be ∧
          t.tc = s.tc ∧ t.ll = s.ll)) ∧
    (c.cls ≤ 7 → ∃ t, done t ∧ t.ce.group = none) ∧
    ∀ g, s.ce.group = some g → groupClassOf c.cls ≠ some g.cls ∨ g.sequence ≠ c.sequence →
      ∃ t, done t ∧
        (s.hlc.queue.length < 16 →
          s.hlc.queue ++ [⟨.groupDropped g.cls g.sequence g.indices g.firstSource false, s.clock⟩] <+: t.hlc.queue) ∧
        (11 ≤ c.cls → t.ce.group = none) ∧
        ∀ cl, groupClassOf c.cls = some cl → s.passes c → src = .remote ∨ c.cls ≠ 10 →
          t.ce.group = some ⟨cl, c.sequence, src, [part], 600000⟩

/-! ### Keys, trims and commissioning -/

/-- A RESTORE press (06 R116): in ARMED, and in FAULT NO_CLOSE with the set empty, a closing sequence starts with its
first pulse (R110); in OPEN with OVERLOAD alone under a reclose lockout the lockout is cleared and the contactor
closes from the one press (07 R129); in every other case the answer is NOT_ARMED and nothing changes. -/
def Obligations.RestorePressClosesWhereArmed : Prop :=
  ∀ s : State, s.ready → s.ps.power = .active →
    let empty : Reasons := ⟨false, false, false, false, false⟩
    let overloadAlone : Reasons := ⟨false, true, false, false, false⟩
    let closing : Sss := { s.sss with
      reasons := empty, origin := .ordinary, contactor := .closing, attempts := 1, phase := .pulse
      phaseTimer := some s.params.coilMs, cutoff := some 250, openNext := false, verified := .unknown }
    (s.sss.contactor = .armed ∨ s.sss.contactor = .fault .noClose → s.sss.reasons = empty →
      exec (.restore []) s = .next ((s.setSss closing).replying ⟨0x91#8, [0x00#8, 0x00#8]⟩)) ∧
    (s.sss.contactor = .opened → s.sss.reasons = overloadAlone → s.ll.reclose = .lockout →
      exec (.restore []) s =
        .next (((s.setLl { s.ll with reclose := .rest }).setSss closing).replying ⟨0x91#8, [0x00#8, 0x00#8]⟩)) ∧
    (s.sss.contactor = .closed ∨ s.sss.contactor = .opening ∨ s.sss.contactor = .closing ∨
        s.sss.contactor = .fault .welded ∨ s.sss.contactor = .fault .driver ∨
        (s.sss.contactor = .fault .noClose ∧ s.sss.reasons ≠ empty) ∨
        (s.sss.contactor = .opened ∧ (s.sss.reasons ≠ overloadAlone ∨ s.ll.reclose ≠ .lockout)) →
      exec (.restore []) s = .next (s.replying ⟨0x91#8, [0x00#8, 0x01#8]⟩))

/-- An ACCEPT_EMERGENCY press (04 R70): in OFFER accepted is set and available cleared, the state becomes EMERGENCY
above −E_ALLOW and EXHAUSTED otherwise, no money moves, and the answer is OK; with CREDIT the only reason the
contactor closes from the press. During a closing CREDIT leaves the set and nothing else of the sequencer changes (06
R112). In every other credit state the answer is NOT_OFFERED and nothing changes. -/
def Obligations.EmergencyIsTakenInOfferAlone : Prop :=
  ∀ s : State, s.ready → s.ps.power = .active →
    (s.acct.state ≠ .offer → exec (.acceptEmergency []) s = .next (s.replying ⟨0x91#8, [0x00#8, 0x02#8]⟩)) ∧
    (s.acct.state = .offer → s.acct.state = creditStateOf s.params s.acct →
      let after : CreditState := if -(s.params.eAllow : Int) < s.acct.balance then .emergency else .exhausted
      ∃ t, exec (.acceptEmergency []) s = .next t ∧
        t.acct = { s.acct with accepted := true, available := false, state := after } ∧
        t.cl.creditHeld = (after == .exhausted && !s.tc.friendly) ∧
        t.hlc.sending = some ⟨0x91#8, [0x00#8, 0x00#8]⟩ ∧
        (s.sss.contactor = .opened → s.sss.reasons = ⟨true, false, false, false, false⟩ → s.cl.creditHeld = true →
          after = .emergency → t.sss.contactor = .closing ∧ t.sss.phase = .pulse) ∧
        (s.sss.contactor = .armed → s.sss.reasons = ⟨false, false, false, false, false⟩ → s.cl.creditHeld = false →
          after = .emergency → t.sss.contactor = .closing ∧ t.sss.phase = .pulse) ∧
        (s.sss.contactor = .closing → s.cl.creditHeld = true → after = .emergency →
          t.sss = { s.sss with reasons := { s.sss.reasons with credit := false } }) ∧
        t.params = s.params ∧ t.mli = s.mli ∧ t.be = s.be ∧ t.tc = s.tc ∧ t.ce = s.ce ∧ t.ll = s.ll ∧ t.tm = s.tm ∧
        t.tl = s.tl ∧ t.ps = s.ps ∧ t.pins = s.pins)

/-- A trim of d seconds (03 R41, R42): d is limited to ±30, to what is left of the day's 120 s, and to the clock's
range; the clock moves by the amount, which the reply carries; the phase, the clock-valid flag and the ledger stay. -/
def Obligations.TrimMovesTheClockWithinItsAllowance : Prop :=
  ∀ (s : State) (b : Byte), s.ready → s.ps.power = .active → s.clock ≤ 4294967295 → s.tc.trimUsed ≤ 120 →
    let day := s.clock / 86400
    let used : Int := if s.tc.allowanceDay < day then 0 else s.tc.trimUsed
    let left : Int := 120 - used
    let d : Int := max (-left) (min left (max (-30) (min 30 (signedOf 8 b.toNat))))
    let a : Int := max (-(s.clock : Int)) (min (4294967295 - (s.clock : Int)) d)
    ∃ t, exec (.trimClock [b]) s = .next t ∧ (t.clock : Int) = s.clock + a ∧
      t.hlc.sending = some ⟨0x92#8, [0x00#8, BitVec.ofInt 8 a]⟩ ∧
      (t.clock / 86400 ≤ max s.tc.allowanceDay day → (t.tc.trimUsed : Int) = used + |a| ∧
        t.tc.allowanceDay = max s.tc.allowanceDay day) ∧
      (max s.tc.allowanceDay day < t.clock / 86400 → t.tc.trimUsed = 0 ∧ t.tc.allowanceDay = t.clock / 86400) ∧
      t.tc.phase = s.tc.phase ∧ t.tc.clockValid = s.tc.clockValid ∧ t.acct = s.acct ∧
      t.be.reg.billedWh = s.be.reg.billedWh ∧ t.params = s.params ∧ t.mli = s.mli ∧ t.ce = s.ce ∧ t.ll = s.ll ∧
      t.tm = s.tm ∧ t.tl = s.tl ∧ t.ps = s.ps ∧ t.pins = s.pins

/-- A COMMISSION that passes its checks (11 R172, R173): the parameters are the defaults with the request's entries,
each its value in code steps times its step, and COMM_WEEKDAY from the weekday; calendar, key and ledger take the
request's values, the open-reason set loses SERVICE, REMOTE and OVERLOAD, the part is in ACTIVE, the log keeps its
records closed, and the COMMISSION checkpoint is being written, with the reply OK held until it is. -/
def Obligations.CommissionMakesTheMeter : Prop :=
  ∀ (s : State) (payload : List Byte), s.ready → s.ps.power = .shelf → s.ps.write = none →
    payload.length ≤ 63 → 20 ≤ payload.length → payload.length % 3 = 2 → CommissionGood payload →
    let opening := signedOf 32 (fieldAt payload 13 4)
    ∃ t, exec (.commission payload) s = .next t ∧
      t.ps.power = .active ∧ t.ps.meterId = fieldAt payload 0 4 ∧
      t.ce = ⟨⟨BitVec.ofNat 64 (fieldAt payload 4 8), fieldAt payload 12 1, 0, [], ⟨5, 5⟩⟩, ⟨none, none⟩, none⟩ ∧
      t.params = paramsGiven payload ∧ t.params.commWeekday = fieldAt payload 19 1 ∧
      t.clock = fieldAt payload 17 2 * 60 ∧ t.tc.clockValid = true ∧ t.tc.sched.cycleIndex = 0 ∧
      t.tc.sched.rates = s.tc.sched.rates ∧ t.tc.sched.weekMap = s.tc.sched.weekMap ∧
      t.acct.balance = opening ∧ t.acct.opening = opening ∧ t.acct.residue = 0 ∧ t.acct.debt = 0 ∧
      t.acct.crIn = 0 ∧ t.acct.crRecovered = 0 ∧ t.acct.crCharged = 0 ∧ t.acct.crRaised = 0 ∧
      t.acct.crDeferred = 0 ∧ t.acct.accepted = false ∧ t.acct.available = decide (0 < t.params.eAllow) ∧
      t.acct.state = creditStateOf t.params t.acct ∧
      t.sss.reasons.service = false ∧ t.sss.reasons.remote = false ∧ t.sss.reasons.overload = false ∧
      t.sss.reasons.tamper = false ∧ t.sss.verified = .unknown ∧ t.sss.coilEnable = true ∧
      t.be.reg.billedWh = 0 ∧ t.be.reg.cycleWh = 0 ∧ t.be.bLast = 0 ∧ t.mli.baseline = true ∧
      t.mli.expected = 0 ∧ t.ll.reclose = .rest ∧ t.ll.tempLimit = 0 ∧
      t.tl.records.map TamperRecord.serial = s.tl.records.map TamperRecord.serial ∧
      (∀ r ∈ t.tl.records, r.stop.isSome = true) ∧ t.tl.nextSerial = s.tl.nextSerial ∧
      t.hlc.slot = .awaitingWrite (some ⟨0xA0#8, [0x00#8]⟩) ∧
      (∃ w, t.ps.write = some w ∧ w.img.occasion = .commission ∧ w.img.contents = t.snapshot)

/-! ### The host link's own events (12) -/

/-- DECODE AND ENCODE AGREE. The bytes of a frame laid out as 12 R178 says (0xC3, the length, the kind, the payload,
the check, most significant byte first) that reach a hunting receiver have the effect of the command they spell,
whatever the kind and the payload. -/
def Obligations.GoodFrameIsTheCommandItSpells : Prop :=
  ∀ (s : State) (payload : List Byte), s.linkServed = true → s.hlc.rx = none → payload.length ≤ 63 →
    let line := fun (kind : Byte) (p : List Byte) =>
      let body := BitVec.ofNat 8 (p.length + 1) :: kind :: p
      exec (.frameDiscard ((0xC3#8 :: (body ++ bytesOf 2 (frameCheck body).toNat)).map fun b => ⟨b, false⟩)) s
    line 0x01#8 payload = exec (.identify payload) s ∧ line 0x02#8 payload = exec (.getStatus payload) s ∧
    line 0x03#8 payload = exec (.getLedger payload) s ∧ line 0x04#8 payload = exec (.getEnergy payload) s ∧
    line 0x05#8 payload = exec (.getTariff payload) s ∧ line 0x06#8 payload = exec (.getTime payload) s ∧
    line 0x07#8 payload = exec (.getEvents payload) s ∧ line 0x08#8 payload = exec (.readTamperLog payload) s ∧
    line 0x10#8 payload = exec (.submitCode payload) s ∧ line 0x12#8 payload = exec (.trimClock payload) s ∧
    line 0x20#8 payload = exec (.commission payload) s ∧
    (∀ extra, payload = 0x00#8 :: extra → line 0x11#8 payload = exec (.restore extra) s) ∧
    (∀ extra, payload = 0x01#8 :: extra → line 0x11#8 payload = exec (.acceptEmergency extra) s) ∧
    (∀ kind : Byte, kind.toNat < 0x80 → kind ∉ requestKinds → line kind payload = exec (.badKind kind payload) s) ∧
    ∀ kind : Byte, kind.toNat < 0x80 → s.hlc.slot ≠ .empty → line kind payload = exec (.busy kind payload) s

/-- What the receiver discards leaves no trace (12 R178, R179): bytes other than 0xC3 while it hunts, a length outside
1..64, a check that does not hold, a kind of 0x80 or above, a framing error, a gap of more than 20 ms (its exact
millisecond is log 38), and every byte while the link is not served. The check starts at 0 and takes each byte from
bit 7 to bit 0 with the polynomial 0x8005. -/
def Obligations.BadFramesLeaveNoTrace : Prop :=
  let bit := fun (r : BitVec 16) (d : Bool) =>
    (r <<< 1) ^^^ (if (r.getLsbD 15).xor d then 0x8005#16 else 0x0000#16)
  (frameCheck [] = 0#16 ∧ ∀ (bytes : List Byte) (b : Byte),
    frameCheck (bytes ++ [b]) = [7, 6, 5, 4, 3, 2, 1, 0].foldl (fun r i => bit r (b.getLsbD i)) (frameCheck bytes)) ∧
  (∀ s : State, s.linkServed = true → s.hlc.rx = none →
    (∀ b : Byte, b ≠ 0xC3#8 → exec (.frameDiscard [⟨b, false⟩]) s = .next s) ∧
    (∀ n : Byte, n = 0x00#8 ∨ 0x40 < n.toNat → exec (.frameDiscard [⟨0xC3#8, false⟩, ⟨n, false⟩]) s = .next s) ∧
    ∀ (kind : Byte) (payload : List Byte) (h l : Byte), payload.length ≤ 63 →
      let body := BitVec.ofNat 8 (payload.length + 1) :: kind :: payload
      h.toNat * 256 + l.toNat ≠ (frameCheck body).toNat ∨ 0x80 ≤ kind.toNat →
      exec (.frameDiscard ((0xC3#8 :: (body ++ [h, l])).map fun b => ⟨b, false⟩)) s = .next s) ∧
  (∀ (s : State) (f : PartialFrame), s.hlc.rx = some f →
    (∀ b : Byte, s.linkServed = true →
      exec (.frameDiscard [⟨b, true⟩]) s = .next (s.setHlc { s.hlc with rx := none })) ∧
    (20 < f.gapMs → exec .frameTimeout s = .next (s.setHlc { s.hlc with rx := none })) ∧
    (f.gapMs ≤ 20 → exec .frameTimeout s = .next s)) ∧
  ∀ (s : State) (bytes : List LineByte), s.linkServed = false → exec (.frameDiscard bytes) s = .next s

/-- A good frame that finds the slot occupied is answered BUSY at once and not executed; a BUSY reply that would be a
second waiting one, or that comes while the slot's reply waits, is not made (12 R180). At REPLY_SENT the waiting reply
follows, and one held in the slot takes the waiting place. LINK_RESET discards everything on its way and empties the
event queue, a request whose write is awaited keeping the slot (log 34), and ATTN is let go; its release resumes
hunting (R185). Where the link is not served the line is followed and nothing else (log 33). -/
def Obligations.RepliesWaitTheirTurn : Prop :=
  (∀ (s : State) (kind : Byte) (payload : List Byte),
      s.linkServed = true → payload.length ≤ 63 → kind.toNat < 0x80 → s.hlc.slot ≠ .empty →
      ((∀ r, s.hlc.slot ≠ .replyWaits r) → s.hlc.sending = none →
        exec (.busy kind payload) s = .next (s.replying ⟨kind + 0x80#8, [0x04#8]⟩)) ∧
      (∀ x, (∀ r, s.hlc.slot ≠ .replyWaits r) → s.hlc.sending = some x → s.hlc.waiting = none →
        exec (.busy kind payload) s = .next (s.setHlc { s.hlc with waiting := some ⟨kind + 0x80#8, [0x04#8]⟩ })) ∧
      (∀ x y, (∀ r, s.hlc.slot ≠ .replyWaits r) → s.hlc.sending = some x → s.hlc.waiting = some y →
        exec (.busy kind payload) s = .next s) ∧
      (∀ r, s.hlc.slot = .replyWaits r → exec (.busy kind payload) s = .next s)) ∧
  ∀ s : State,
    (∀ x, s.hlc.sending = some x →
      (∀ r, s.hlc.slot = .replyWaits r → exec .replySent s =
        .next (s.setHlc { s.hlc with sending := s.hlc.waiting, waiting := some r, slot := .empty })) ∧
      ((∀ r, s.hlc.slot ≠ .replyWaits r) →
        exec .replySent s = .next (s.setHlc { s.hlc with sending := s.hlc.waiting, waiting := none }))) ∧
    (s.linkServed = true →
      (∀ r, s.hlc.slot = .empty ∨ s.hlc.slot = .replyWaits r → exec .linkResetAssert s =
        .next ((s.setPins { s.pins with linkResetLow := true }).setHlc ⟨none, .empty, none, none, [], false⟩)) ∧
      (s.hlc.slot = .periodicWrite → exec .linkResetAssert s =
        .next ((s.setPins { s.pins with linkResetLow := true }).setHlc
          ⟨none, .periodicWrite, none, none, [], false⟩)) ∧
      (∀ r, s.hlc.slot = .awaitingWrite r → exec .linkResetAssert s =
        .next ((s.setPins { s.pins with linkResetLow := true }).setHlc
          ⟨none, .awaitingWrite none, none, none, [], false⟩)) ∧
      ∃ t, exec .linkResetAssert s = .next t ∧ t.attn = false ∧ t.linkServed = false) ∧
    (s.linkServed = false →
      exec .linkResetAssert s = .next (s.setPins { s.pins with linkResetLow := true })) ∧
    (s.pins.linkResetLow = true → exec .linkResetRelease s =
      .next ((s.setPins { s.pins with linkResetLow := false }).setHlc { s.hlc with rx := none }))

/-! ### The meter link (01) -/

/-- A burst is a record when it has 33 bytes without framing error, starts with 0x5A and ends with its check (01 R1,
R2). A good record ends the silence run and joins the queue unless four wait (01 R6); with LINKLOSS ACTIVE the
condition ends (08 R138) and the tick timer stops. A bad burst leaves the part as it was. -/
def Obligations.BurstsAreJudgedOnTheirOwn : Prop :=
  ∀ (s : State) (body : List Byte) (check : Byte) (junk : List LineByte),
    s.ps.power = .active → s.mli.assembly = ⟨[], 0, false⟩ → body.length = 31 →
    let bytes := 0x5A#8 :: (body ++ [check])
    let line : List LineByte := bytes.map fun b => ⟨b, false⟩
    let joined := if s.mli.queue.length < 4 then s.mli.queue ++ [recordOf bytes] else s.mli.queue
    (check = recordCheck body → (s.cond .linkloss).state ≠ .active →
      exec (.burstEnd line) s =
        .next (s.setMli { s.mli with silenceMs := 0, reported := false, queue := joined })) ∧
    (check = recordCheck body → (s.cond .linkloss).state = .active →
      ∃ t, exec (.burstEnd line) s = .next t ∧
        t.mli = { s.mli with silenceMs := 0, reported := false, queue := joined } ∧
        t.cond .linkloss = { s.cond .linkloss with state := .idle, lastEnd := some s.clock, ongoing := .none } ∧
        (∀ c, c ≠ .linkloss → t.cond c = s.cond c) ∧ t.be = { s.be with tickTimer := none } ∧
        t.params = s.params ∧ t.tc = s.tc ∧ t.cl = s.cl ∧ t.ce = s.ce ∧ t.ps = s.ps ∧ t.ll = s.ll ∧ t.pins = s.pins) ∧
    (check ≠ recordCheck body → exec (.burstEnd line) s = .next s) ∧
    (junk.length ≠ 33 ∨ (junk.map LineByte.data).head? ≠ some 0x5A#8 ∨ (∃ b ∈ junk, b.framingError = true) →
      exec (.burstEnd junk) s = .next s)

/-- DECODE AND ENCODE AGREE for an interval record: the fields laid out as 12 R187 states are read back, clamped to
the ranges of 01 R4, an over-range flag giving its channel the upper end (01 R5). -/
def Obligations.RecordFieldsAreReadBack : Prop :=
  ∀ (seq dur : Nat) (p : PerPhase Int) (v i : PerPhase Nat) (inn : Nat) (flags check : Byte),
    seq < 2 ^ 8 → dur < 2 ^ 16 → (∀ x, -8388608 ≤ p.get x ∧ p.get x < 8388608 ∧ v.get x < 2 ^ 16 ∧ i.get x < 2 ^ 24) →
    inn < 2 ^ 24 →
    let phase := fun (x : Phase) => bytesOfInt 3 (p.get x) ++ bytesOf 2 (v.get x) ++ bytesOf 3 (i.get x)
    let bytes := 0x5A#8 :: (bytesOf 1 seq ++ bytesOf 2 dur ++ phase .p1 ++ phase .p2 ++ phase .p3 ++ bytesOf 3 inn ++
      [flags, check])
    let r := recordOf bytes
    bytes.length = 33 ∧ r.seq = seq ∧ r.dur = max 100 (min 1000 dur) ∧
      (∀ x, r.p.get x = max (-32000) (min 32000 (p.get x))) ∧
      r.v = ⟨if flags.getLsbD 4 then 5000 else min 5000 v.p1, if flags.getLsbD 5 then 5000 else min 5000 v.p2,
        if flags.getLsbD 6 then 5000 else min 5000 v.p3⟩ ∧
      r.i = ⟨if flags.getLsbD 0 then 100000 else min 100000 i.p1, if flags.getLsbD 1 then 100000 else min 100000 i.p2,
        if flags.getLsbD 2 then 100000 else min 100000 i.p3⟩ ∧
      r.inn = if flags.getLsbD 3 then 100000 else min 100000 inn

/-- A silence of 2,000 ms is reported once, and not while suppressed (01 R11, R12): the report sets the
silence-reported flag, and SILENCE_REPORT with the flag set, with a shorter silence, with the silence timer stopped or
outside ACTIVE leaves the state as it is. The suppression timer's expiry stops the timer, and reports a silence of
2,000 ms that was not reported. A report that finds LINKLOSS not IDLE changes nothing more; one that finds it IDLE
starts it (08 R138, R140): BE's tick timer is loaded with 250 ms (02 R32), and its record holds the silence in whole
seconds (09 R154, R155) and is told in a TAMPER_START notice; without room it is UNRECORDED. That the seconds are
rounded down is the model's choice (log 32), and so is that a command whose event is not due leaves the state (log 2)
and that its notice stands before any of the switch (log 7). -/
def Obligations.SilenceIsReportedOnce : Prop :=
  ∀ s : State,
    let setting := s.params.actions.get .linkloss
    let seconds : Nat := min 65535 (s.mli.silenceMs / 1000)
    let told := fun (l : List Notice) (t : State) =>
      ((s.hlc.queue ++ l).length ≤ 16 → s.hlc.queue ++ l <+: t.hlc.queue) ∧
        (16 ≤ s.hlc.queue.length → t.hlc.queue = s.hlc.queue ∧ t.hlc.overflow = true)
    let started := fun (t : State) =>
      (t.cond .linkloss).state = .active ∧ (t.cond .linkloss).lastEnd = (s.cond .linkloss).lastEnd ∧
        (t.cond .linkloss).latch = ((s.cond .linkloss).latch || setting.testBit 2) ∧
        t.be = { s.be with tickTimer := some 250 } ∧
        (s.tl.records.length < 64 → s.tl.usedUp = false →
          t.tl.records = s.tl.records ++ [⟨s.tl.nextSerial, .linkloss, s.clock, none, false, s.tc.clockValid,
            ⟨setting.testBit 0, setting.testBit 1, setting.testBit 2, false⟩, some (seconds : Int)⟩] ∧
          (t.cond .linkloss).ongoing = .serial s.tl.nextSerial ∧
          told [⟨.tamperStart .linkloss (.serial s.tl.nextSerial), s.clock⟩] t) ∧
        (64 ≤ s.tl.records.length ∨ s.tl.usedUp = true →
          t.tl.records = s.tl.records ∧ (t.cond .linkloss).ongoing = .unrecorded ∧
          t.tl.unrecorded.get .linkloss = min 65535 (s.tl.unrecorded.get .linkloss + 1)) ∧
        (setting.testBit 0 = true → t.tm.tamperHeld = true) ∧ (setting.testBit 1 = true → t.tm.deemed = true) ∧
        (∀ d, d ≠ .linkloss → t.cond d = s.cond d) ∧
        t.params = s.params ∧ t.tc = s.tc ∧ t.cl = s.cl ∧ t.ce = s.ce ∧ t.ps = s.ps ∧ t.ll = s.ll ∧ t.pins = s.pins
    (s.ps.power ≠ .active → exec .silenceReport s = .next s ∧ exec .suppressionTimerExpiry s = .next s) ∧
    (s.mli.silenceRunning = false ∨ s.mli.silenceMs < 2000 ∨ s.mli.reported = true →
      exec .silenceReport s = .next s) ∧
    (∀ n, s.mli.suppression = some (n + 1) →
      exec .silenceReport s = .next s ∧ exec .suppressionTimerExpiry s = .next s) ∧
    (s.mli.suppression = none → exec .suppressionTimerExpiry s = .next s) ∧
    (s.ps.power = .active → s.mli.silenceRunning = true → 2000 ≤ s.mli.silenceMs → s.mli.reported = false →
      s.mli.suppression = none ∨ s.mli.suppression = some 0 →
      ((s.cond .linkloss).state ≠ .idle →
        exec .silenceReport s = .next (s.setMli { s.mli with reported := true })) ∧
      ((s.cond .linkloss).state = .idle →
        ∃ t, exec .silenceReport s = .next t ∧ t.mli = { s.mli with reported := true } ∧ started t)) ∧
    (s.ps.power = .active → s.mli.suppression = some 0 →
      (s.mli.silenceMs < 2000 ∨ s.mli.reported = true →
        exec .suppressionTimerExpiry s = .next (s.setMli { s.mli with suppression := none })) ∧
      (2000 ≤ s.mli.silenceMs → s.mli.reported = false →
        ((s.cond .linkloss).state ≠ .idle →
          exec .suppressionTimerExpiry s =
            .next (s.setMli { s.mli with reported := true, suppression := none })) ∧
        ((s.cond .linkloss).state = .idle →
          ∃ t, exec .suppressionTimerExpiry s = .next t ∧
            t.mli = { s.mli with reported := true, suppression := none } ∧ started t)))

/-! ### Billing (02) -/

/-- The taking of a record (01 R8 to R10, 02 R16, R22 to R34). E is the energy of the gap intervals, 250 ms each at
the gap power, and of the record, its billed power times its duration. Residue and registers take E in whole Wh, the
directional registers each phase's energy by sign, and the ledger is charged the price of the Wh at the band in force:
with no saturation the µcent residue and balance less debt move by exactly that. B_last is the record's billed power
and the tick count is 0. The billed power is offered to the limiter: where no position check is due and no whole Wh is
charged, the limiter is left as that offer leaves it. Parameters, calendar, codes and power state stay. -/
def Obligations.RecordIsBilled : Prop :=
  ∀ (s : State) (loadv : PerPhase Bool) (r : IntervalRecord) (rest : List IntervalRecord),
    s.ps.power = .active → s.mli.queue = r :: rest →
    let missing := if s.mli.baseline then 0 else (r.seq + 256 - s.mli.expected) % 256
    let gap := (missing - s.be.ticks) * 250 * (if s.tm.deemed then max s.be.bLast s.params.deemedW else s.be.bLast)
    let e := s.be.reg.billedResidue + gap + intervalPower s r * r.dur
    let cost := itemCost (s.tc.sched.rates.get s.tc.band) (s.params.t1 * 1000) (s.params.t2 * 1000) s.be.reg.cycleWh
      (e / 3600000)
    ∃ t, exec (.recordTake loadv) s = .next t ∧
      t.mli = { s.mli with queue := rest, expected := (r.seq + 1) % 256, baseline := false, latest := some r } ∧
      t.be.reg.billedResidue = e % 3600000 ∧ t.be.reg.billedWh = min max48 (s.be.reg.billedWh + e / 3600000) ∧
      t.be.reg.cycleWh = min max48 (s.be.reg.cycleWh + e / 3600000) ∧
      (∀ p,
        t.be.reg.importWh.get p =
          min max48 (s.be.reg.importWh.get p + (s.be.reg.importResidue.get p + (r.p.get p).toNat * r.dur) / 3600000) ∧
        t.be.reg.importResidue.get p = (s.be.reg.importResidue.get p + (r.p.get p).toNat * r.dur) % 3600000 ∧
        t.be.reg.exportWh.get p =
          min max48 (s.be.reg.exportWh.get p + (s.be.reg.exportResidue.get p + (-r.p.get p).toNat * r.dur) / 3600000) ∧
        t.be.reg.exportResidue.get p = (s.be.reg.exportResidue.get p + (-r.p.get p).toNat * r.dur) % 3600000) ∧
      t.be.bLast = intervalPower s r ∧ t.be.ticks = 0 ∧ t.be.tickTimer = s.be.tickTimer ∧
      (s.be.reg.billedResidue < 3600000 → s.acct.residue < 1000000 → s.be.reg.cycleWh + e / 3600000 ≤ max48 →
        floorOf s.params ≤ s.acct.balance → s.acct.debt + (s.acct.residue + cost) / 1000000 ≤ 99999999 →
        t.acct.residue = (s.acct.residue + cost) % 1000000 ∧
          t.acct.balance - t.acct.debt =
            s.acct.balance - s.acct.debt - ((s.acct.residue + cost) / 1000000 : Nat)) ∧
      (s.sss.verified ≠ .unknown → e < 3600000 → t.ll = (offerLoad (intervalPower s r) s).ll) ∧
      t.params = s.params ∧ t.tc = s.tc ∧ t.ce = s.ce ∧ t.ps = s.ps ∧ t.pins = { s.pins with loadv := loadv }

/-- One silence tick (02 R32, R33): with LINKLOSS ACTIVE and the tick timer run out, 250 ms of the tick power are
billed, the tick count grows to at most 255, and the timer starts again; the ledger is charged as for a record. -/
def Obligations.SilenceTickIsBilled : Prop :=
  ∀ s : State, s.ps.power = .active → (s.cond .linkloss).state = .active → s.be.tickTimer = some 0 →
    let e := s.be.reg.billedResidue + (if s.tm.deemed then max s.be.bLast s.params.deemedW else s.be.bLast) * 250
    let n := e / 3600000
    let cost := itemCost (s.tc.sched.rates.get s.tc.band) (s.params.t1 * 1000) (s.params.t2 * 1000) s.be.reg.cycleWh n
    let c := (s.acct.residue + cost) / 1000000
    ∃ t, exec .silenceTick s = .next t ∧
      t.be = { s.be with
        reg := { s.be.reg with
          billedResidue := e % 3600000
          billedWh := min max48 (s.be.reg.billedWh + n)
          cycleWh := min max48 (s.be.reg.cycleWh + n) }
        ticks := min 255 (s.be.ticks + 1)
        tickTimer := some 250 } ∧
      (n = 0 → t.cl = s.cl ∧ t.sss = s.sss ∧ t.hlc = s.hlc) ∧
      (0 < n → t.acct.residue = (s.acct.residue + cost) % 1000000 ∧
        (c = 0 → t.acct.balance = s.acct.balance ∧ t.acct.debt = s.acct.debt) ∧
        (0 < c → floorOf s.params ≤ s.acct.balance - c → s.acct.debt ≤ 99999999 →
          t.acct.balance = s.acct.balance - c ∧ t.acct.debt = s.acct.debt ∧
            t.acct.crCharged = min max48 (s.acct.crCharged + c) ∧ t.acct.crDeferred = s.acct.crDeferred) ∧
        (0 < c → s.acct.balance - c < floorOf s.params → floorOf s.params ≤ s.acct.balance →
          s.acct.debt ≤ 99999999 →
          let cut := c - (s.acct.balance - floorOf s.params).toNat
          t.acct.balance = floorOf s.params ∧ t.acct.debt = min 99999999 (s.acct.debt + cut) ∧
            t.acct.crCharged = min max48 (s.acct.crCharged + (s.acct.balance - floorOf s.params).toNat) ∧
            t.acct.crDeferred = min max48 (s.acct.crDeferred + cut)) ∧
        (0 < c → t.acct.state = creditStateOf s.params t.acct)) ∧
      t.params = s.params ∧ t.mli = s.mli ∧ t.tc = s.tc ∧ t.ce = s.ce ∧ t.ll = s.ll ∧ t.tm = s.tm ∧ t.tl = s.tl ∧
      t.ps = s.ps ∧ t.pins = s.pins

/-! ### The load limiter (07) -/

/-- The limiter takes a record's billed power (07 R123 to R127): the temporary limit lapses at its expiry; outside
CLOSED the watch is off; blanking counts down to WATCHING; a power above the limit in force is counted, any other sets
the count to 0, and the OL_RECORDS-th in a row trips: OVERLOAD is added and RECLOSE_S begins. -/
def Obligations.LimiterTripsAtTheEndOfTheRun : Prop :=
  ∀ (s : State) (power : Nat),
    let temp := if s.ll.tempExpiry ≤ s.clock then 0 else s.ll.tempLimit
    let limit := if s.params.loadLimit = 0 then temp else if temp = 0 then s.params.loadLimit
      else min s.params.loadLimit temp
    let ll := { s.ll with tempLimit := temp }
    (s.sss.contactor ≠ .closed →
      offerLoad power s = s.setLl { ll with watch := .off, overload := 0, window := none }) ∧
    (s.sss.contactor = .closed →
      (ll.watch = .off → offerLoad power s = s.setLl ll) ∧
      (ll.watch = .blanking → offerLoad power s =
        s.setLl { ll with
          blanking := ll.blanking - 1, watch := if ll.blanking ≤ 1 then .watching else .blanking }) ∧
      (ll.watch = .watching →
        (limit = 0 ∨ power ≤ limit → offerLoad power s = s.setLl { ll with overload := 0 }) ∧
        (limit ≠ 0 → limit < power → ll.overload + 1 < s.params.olRecords →
          offerLoad power s = s.setLl { ll with overload := ll.overload + 1 }) ∧
        (limit ≠ 0 → limit < power → s.params.olRecords ≤ ll.overload + 1 →
          let t := offerLoad power s
          t.ll = { ll with
            overload := 0, watch := .off, window := none, reclose := .wait
            recloseTimer := some (s.params.recloseS * 1000) } ∧
          t.sss.reasons = { s.sss.reasons with overload := true } ∧
          (s.sss.reasons.overload = false → s.ps.power = .active →
            t.sss.contactor = .opening ∧ t.sss.phase = .pulse ∧ t.sss.attempts = 1) ∧
          (s.hlc.queue.length < 16 →
            t.hlc.queue = s.hlc.queue ++ [⟨.overload false limit s.ll.recloseCount, s.clock⟩]) ∧
          t.params = s.params ∧ t.mli = s.mli ∧ t.be = s.be ∧ t.tc = s.tc ∧ t.cl = s.cl ∧ t.ce = s.ce ∧
          t.tm = s.tm ∧ t.tl = s.tl ∧ t.ps = s.ps ∧ t.pins = s.pins)))

/-- The reclose timer and the reclose window (07 R128, R130), and the weld retry timer (06 R113). Below RECLOSE_MAX an
expiry counts a reclose and removes OVERLOAD, after which the contactor closes by itself where AUTO_RECLOSE_KEYLESS is
1 and is ARMED otherwise; at RECLOSE_MAX it is lockout, with a notice whose limit is the limit in force (0 while none
is: the model's choice, log 17). The window's expiry clears the count in CLOSED. The weld retry
timer is loaded again while the set is empty, and opens again once it is not. -/
def Obligations.LimiterAndWeldTimersExpire : Prop :=
  ∀ s : State, s.ps.power = .active →
    let pulse := fun (c : Contactor) (x : Sss) => { x with
      contactor := c, attempts := 1, phase := .pulse, phaseTimer := some s.params.coilMs, cutoff := some 250
      openNext := false, verified := .unknown, origin := .ordinary }
    (s.ll.reclose = .wait → s.ll.recloseTimer = some 0 →
      (s.params.recloseMax ≤ s.ll.recloseCount →
        ∃ t, exec .recloseTimerExpiry s = .next t ∧
          t.ll = { s.ll with recloseTimer := none, reclose := .lockout } ∧ t.sss = s.sss ∧
          (s.hlc.queue.length < 16 →
            t.hlc.queue = s.hlc.queue ++ [⟨.overload true s.limit s.ll.recloseCount, s.clock⟩])) ∧
      (s.ll.recloseCount < s.params.recloseMax →
        let ll := { s.ll with recloseTimer := none, recloseCount := s.ll.recloseCount + 1, reclose := .rest }
        (s.sss.contactor = .opened → s.sss.reasons = ⟨false, true, false, false, false⟩ →
          s.params.autoRecloseKeyless = 1 →
          exec .recloseTimerExpiry s = .next ((s.setLl ll).setSss
            { pulse .closing s.sss with reasons := ⟨false, false, false, false, false⟩ })) ∧
        (s.sss.contactor = .opened → s.sss.reasons = ⟨false, true, false, false, false⟩ →
          s.params.autoRecloseKeyless ≠ 1 →
          ∃ t, exec .recloseTimerExpiry s = .next t ∧ t.ll = ll ∧ t.sss.contactor = .armed ∧
            t.sss.phase = s.sss.phase ∧ t.sss.reasons = ⟨false, false, false, false, false⟩) ∧
        (s.sss.reasons = ⟨true, true, false, false, false⟩ → exec .recloseTimerExpiry s =
          .next ((s.setLl ll).setSss { s.sss with reasons := ⟨true, false, false, false, false⟩ })))) ∧
    (s.ll.window = some 0 → exec .recloseWindowExpiry s =
      .next (s.setLl { s.ll with
        window := none, recloseCount := if s.sss.contactor = .closed then 0 else s.ll.recloseCount })) ∧
    (s.sss.contactor = .fault .welded → s.sss.weldRetry = some 0 →
      (s.sss.reasons = ⟨false, false, false, false, false⟩ → exec .weldRetryExpiry s =
        .next (s.setSss { s.sss with weldRetry := some 900000 })) ∧
      (s.sss.reasons ≠ ⟨false, false, false, false, false⟩ → exec .weldRetryExpiry s =
        .next (s.setSss { pulse .opening s.sss with origin := s.sss.origin, pulseLimit := 3, weldRetry := none })))

/-! ### Tamper conditions and their log (08, 09) -/

/-- A record decides the ten record-based conditions, each by itself with a filter of eight records (02 R35, 08 R136):
the table of states, with the tests of 02 R35, the contactor's state for BYPASS being that of the taking; here with no
position check due. The measure of the observation that completes the start filter is the first extreme of the record
the start opens (08 R137, 09 R154): the neutral excess, the phase power, the phase current, none for VLOSS. Each
further observation that shows an ACTIVE condition replaces the extreme of its ongoing record where it is worse, the
most negative power and otherwise the greatest (09 R155); one that does not show it hands nothing, and the end closes
the record. A serial is given to one record alone (09 R154), so no other condition holds that of a record, and none
holds one not yet given: of such states the extremes are stated. With the position unverified and a verifiable phase in
the record the take makes the check of 06 R118, at a place of the take that is drawn (log 6). In OPEN and ARMED it
passes with no LOADV input present and starts an opening of pulse limit 1 otherwise. In CLOSED it passes with LOADV on
every verifiable phase, and a failed one starts a closing while the set is empty; of CLOSED the check itself is stated,
because the take's other parts may open the contactor before it. -/
def Obligations.RecordConditionsTakeEightRecords : Prop :=
  (∀ (s : State) (loadv : PerPhase Bool) (r : IntervalRecord) (rest : List IntervalRecord) (c : RecordCond),
    s.ps.power = .active → s.mli.queue = r :: rest → s.sss.verified ≠ .unknown →
    let shows : Prop :=
      match c with
      | .neutral => r.i.p1 + r.i.p2 + r.i.p3 + s.params.neutralMarginMa < r.inn
      | .vloss p => r.v.get p * 10 < s.params.vNom * s.params.vlossPct ∧ s.params.vlossMa ≤ r.i.get p
      | .reverse p => r.p.get p < -(s.params.reverseW : Int)
      | .bypass p => s.sss.contactor = .opened ∧ 500 ≤ r.i.get p
    let measure : Option Int :=
      match c with
      | .neutral => some ((r.inn - (r.i.p1 + r.i.p2 + r.i.p3) : Nat) : Int)
      | .vloss _ => none
      | .reverse p => some (r.p.get p)
      | .bypass p => some (r.i.get p)
    let worse := fun (held new : Int) =>
      match c with
      | .neutral => max held new
      | .vloss _ => held
      | .reverse _ => min held new
      | .bypass _ => max held new
    let setting := s.params.actions.get c.cond.kind
    let x := s.cond c.cond
    let n := s.be.runs.get c
    ∃ t, exec (.recordTake loadv) s = .next t ∧
      let y := t.cond c.cond
      let m := t.be.runs.get c
      (x.state = .idle → shows → y = { x with state := .pending } ∧ m = 1) ∧
      (x.state = .idle → ¬shows → y = x ∧ m = 0) ∧
      (x.state = .pending → shows → n < 7 → y = x ∧ m = n + 1) ∧
      (x.state = .pending → shows → 7 ≤ n →
        y.state = .active ∧ y.latch = (x.latch || (s.params.actions.get c.cond.kind).testBit 2) ∧ m = 0) ∧
      (x.state = .pending → ¬shows → y = { x with state := .idle } ∧ m = 0) ∧
      (x.state = .active → shows → y = x ∧ m = 0) ∧
      (x.state = .active → ¬shows → n < 7 → y = x ∧ m = n + 1) ∧
      (x.state = .active → ¬shows → 7 ≤ n →
        y = { x with state := .idle, lastEnd := some s.clock, ongoing := .none } ∧ m = 0) ∧
      (x.state = .pending → shows → 7 ≤ n → (∀ d k, (s.cond d).ongoing = .serial k → k < s.tl.nextSerial) →
        (s.tl.records.length ≤ 54 → s.tl.usedUp = false → s.tl.nextSerial ≤ 4294967285 →
          ∃ k, y.ongoing = .serial k) ∧
        ∀ k, y.ongoing = .serial k →
          ⟨k, c.cond, s.clock, none, false, s.tc.clockValid,
            ⟨setting.testBit 0, setting.testBit 1, setting.testBit 2, c.cond.kind == .vloss⟩, measure⟩ ∈ t.tl.records) ∧
      ∀ (k j : Nat) (z : TamperRecord), x.state = .active → x.ongoing = .serial k →
        (∀ d, d ≠ c.cond → (s.cond d).ongoing ≠ .serial k) →
        s.tl.records[j]? = some z → z.serial = k → z.cond = c.cond → z.stop = none →
        (shows → t.tl.records[j]? = some { z with extreme := z.extreme.map fun held => measure.elim held (worse held) }) ∧
        (¬shows → n < 7 → t.tl.records[j]? = some z) ∧
        (¬shows → 7 ≤ n → t.tl.records[j]? = some { z with stop := some s.clock })) ∧
  (∀ (s : State) (loadv : PerPhase Bool) (r : IntervalRecord) (rest : List IntervalRecord),
    s.ps.power = .active → s.mli.queue = r :: rest → s.sss.verified = .unknown →
    (∃ p, s.params.vNom * 10 ≤ 2 * r.v.get p) → s.sss.contactor = .opened ∨ s.sss.contactor = .armed →
    let load := loadv.p1 || loadv.p2 || loadv.p3
    ∃ t, exec (.recordTake loadv) s = .next t ∧
      (load = false → t.sss.verified = .opened ∧ (t.sss.contactor = .opened ∨ t.sss.contactor = .armed)) ∧
      (load = true → t.sss.contactor = .opening ∧ t.sss.phase = .pulse ∧ t.sss.attempts = 1 ∧ t.sss.pulseLimit = 1 ∧
        t.sss.phaseTimer = some s.params.coilMs ∧ t.sss.verified = .unknown)) ∧
  ∀ (s : State) (r : IntervalRecord),
    let verifiable := fun (p : Phase) => s.params.vNom * 10 ≤ 2 * r.v.get p
    let load := s.pins.loadv.p1 || s.pins.loadv.p2 || s.pins.loadv.p3
    let pulse : Sss := { s.sss with
      attempts := 1, phase := .pulse, phaseTimer := some s.params.coilMs, cutoff := some 250, openNext := false
      verified := .unknown }
    let told := fun (body : NoticeBody) (x : Sss) => (s.setSss x).setHlc
      (if s.hlc.queue.length < 16 then { s.hlc with queue := s.hlc.queue ++ [⟨body, s.clock⟩] }
       else { s.hlc with overflow := true })
    (s.sss.verified ≠ .unknown ∨ (∀ p, ¬verifiable p) ∨ s.sss.contactor = .opening ∨ s.sss.contactor = .closing ∨
        s.sss.contactor = .fault .welded ∨ s.sss.contactor = .fault .noClose ∨ s.sss.contactor = .fault .driver →
      positionCheck r s = s) ∧
    (s.sss.verified = .unknown → (∃ p, verifiable p) →
      (s.sss.contactor = .closed →
        ((∀ p, verifiable p → s.pins.loadv.get p = true) → positionCheck r s =
          (told (.supply .closed false) { s.sss with verified := .closed }).setLl { s.ll with
            blanking := s.params.inrushRecords, overload := 0, window := some 1800000
            watch := if s.params.inrushRecords = 0 then .watching else .blanking }) ∧
        ((∃ p, verifiable p ∧ s.pins.loadv.get p = false) → s.sss.reasons = ⟨false, false, false, false, false⟩ →
          positionCheck r s = s.setSss { pulse with contactor := .closing, origin := .ordinary })) ∧
      (s.sss.contactor = .opened ∨ s.sss.contactor = .armed →
        (load = false → positionCheck r s =
          told (.supply s.sss.contactor false) { s.sss with verified := .opened }) ∧
        (load = true → positionCheck r s =
          s.setSss { pulse with contactor := .opening, pulseLimit := 1, weldRetry := none })))

/-- A sensor input (08 R134, R135, R147): a change in ACTIVE starts or stops the kind's filter, 500 ms for CASE and
COVER and 2,000 ms for MAG, or is followed alone; outside ACTIVE only the level is seen. -/
def Obligations.SensorChangesStartFilters : Prop :=
  ∀ (s : State) (i : Sensor) (shows : Bool), s.pins.sensor.get i ≠ shows →
    let c := sensorCond i
    let ms := match i with | .meterCase => 500 | .cover => 500 | .mag => 2000
    let level := s.setPins { s.pins with sensor := s.pins.sensor.set i shows }
    let filter := fun (f : Filter) => level.setTm { s.tm with filters := s.tm.filters.set i f }
    let done := fun (t : State) => exec (.sensorInputChange i shows) s = .next t
    (s.ps.power ≠ .active → done level) ∧
    (s.ps.power = .active →
      ((s.cond c).state = .idle → shows = true →
        done ((filter (.timing ms)).setCond c { s.cond c with state := .pending })) ∧
      ((s.cond c).state = .idle → shows = false → done level) ∧
      ((s.cond c).state = .pending → shows = true → done level) ∧
      ((s.cond c).state = .pending → shows = false →
        done ((filter .stopped).setCond c { s.cond c with state := .idle })) ∧
      ((s.cond c).state = .active → shows = true → done (filter .stopped)) ∧
      ((s.cond c).state = .active → shows = false → done (filter (.timing ms))))

/-- A sensor filter that runs out in ACTIVE starts a PENDING condition and ends an ACTIVE one (08 R134, R135). A start
(R140) sets the latch its setting asks, and its record (09 R154) has the next serial, the clock and the actions;
without room the kind's unrecorded count grows. An end (R141) keeps its time, and that of MAG starts the deemed hold. A
start raises TAMPER_START with the record's serial or UNRECORDED, the first start that finds the log full a LOG_FULL
before it (09 R154), and an end TAMPER_END; a full queue sets the overflow flag (12 R182). That notices of several
blocks join in the order in which the rules state their effects is the model's choice (log 7). -/
def Obligations.SensorFiltersDecideConditions : Prop :=
  ∀ (s : State) (i : Sensor), s.ps.power = .active → s.tm.filters.get i = .timing 0 →
    let c := sensorCond i
    let setting := s.params.actions.get c.kind
    let told := fun (l : List Notice) (t : State) =>
      ((s.hlc.queue ++ l).length ≤ 16 → s.hlc.queue ++ l <+: t.hlc.queue) ∧
        (16 ≤ s.hlc.queue.length → t.hlc.queue = s.hlc.queue ∧ t.hlc.overflow = true)
    ((s.cond c).state = .pending →
      ∃ t, exec (.sensorFilterExpiry i) s = .next t ∧ t.tm.filters = s.tm.filters.set i .stopped ∧
        (t.cond c).state = .active ∧ (t.cond c).latch = ((s.cond c).latch || setting.testBit 2) ∧
        (s.tl.records.length < 64 → s.tl.usedUp = false →
          (t.cond c).ongoing = .serial s.tl.nextSerial ∧
          t.tl.records = s.tl.records ++ [⟨s.tl.nextSerial, c, s.clock, none, false, s.tc.clockValid,
            ⟨setting.testBit 0, setting.testBit 1, setting.testBit 2, false⟩, none⟩] ∧
          (s.tl.nextSerial < 4294967295 → t.tl.nextSerial = s.tl.nextSerial + 1 ∧ t.tl.usedUp = false) ∧
          t.tl.fullNoticed = s.tl.fullNoticed ∧ told [⟨.tamperStart c (.serial s.tl.nextSerial), s.clock⟩] t) ∧
        (64 ≤ s.tl.records.length ∨ s.tl.usedUp = true →
          (t.cond c).ongoing = .unrecorded ∧ t.tl.records = s.tl.records ∧ t.tl.nextSerial = s.tl.nextSerial ∧
          t.tl.unrecorded.get c.kind = min 65535 (s.tl.unrecorded.get c.kind + 1)) ∧
        (64 ≤ s.tl.records.length → s.tl.fullNoticed = false →
          t.tl.fullNoticed = true ∧ told [⟨.logFull c, s.clock⟩, ⟨.tamperStart c .unrecorded, s.clock⟩] t) ∧
        (64 ≤ s.tl.records.length ∧ s.tl.fullNoticed = true ∨ s.tl.records.length < 64 ∧ s.tl.usedUp = true →
          t.tl.fullNoticed = s.tl.fullNoticed ∧ told [⟨.tamperStart c .unrecorded, s.clock⟩] t) ∧
        (i = .mag → t.tm.hold = none) ∧ (i ≠ .mag → t.tm.hold = s.tm.hold) ∧
        (setting.testBit 0 = true → s.tm.tamperHeld = false →
          t.tm.tamperHeld = true ∧ t.sss.reasons = { s.sss.reasons with tamper := true } ∧
            (s.sss.reasons.tamper = false → s.sss.contactor = .closed →
              t.sss.contactor = .opening ∧ t.sss.phase = .pulse)) ∧
        (setting.testBit 1 = true → t.tm.deemed = true) ∧
        (∀ d, d ≠ c → t.cond d = s.cond d) ∧ t.params = s.params ∧ t.mli = s.mli ∧ t.be = s.be ∧ t.tc = s.tc ∧
        t.cl = s.cl ∧ t.ce = s.ce ∧ t.ll = s.ll ∧ t.ps = s.ps ∧ t.pins = s.pins) ∧
    ((s.cond c).state = .active →
      ∃ t, exec (.sensorFilterExpiry i) s = .next t ∧ t.tm.filters = s.tm.filters.set i .stopped ∧
        t.cond c = { s.cond c with state := .idle, lastEnd := some s.clock, ongoing := .none } ∧
        (∀ n, (s.cond c).ongoing = .serial n → t.tl.records = s.tl.records.map fun x =>
          if x.serial = n ∧ x.stop = none then { x with stop := some s.clock } else x) ∧
        ((∀ n, (s.cond c).ongoing ≠ .serial n) → t.tl.records = s.tl.records) ∧
        told [⟨.tamperEnd c (s.cond c).ongoing, s.clock⟩] t ∧
        (i = .mag → t.tm.hold =
          if s.params.deemedHoldMin = 0 then none else some (s.params.deemedHoldMin * 60000)) ∧
        (i ≠ .mag → t.tm.hold = s.tm.hold) ∧ (∀ d, d ≠ c → t.cond d = s.cond d) ∧ t.tl.nextSerial = s.tl.nextSerial ∧
        t.params = s.params ∧ t.mli = s.mli ∧ t.be = s.be ∧ t.tc = s.tc ∧ t.cl = s.cl ∧ t.ce = s.ce ∧ t.ll = s.ll ∧
        t.ps = s.ps ∧ t.pins = s.pins)

/-- The hold-up watch, the deemed hold and LINKLOSS's measure (08 R135, R138, R148, 10 R164). A sample in HOLDUP
starts a shown CASE or COVER at once and a MAG at the second sample, and ends one in the same way, in every record of
which the hold-up bit is set; the sample timer starts again. The deemed hold's expiry lowers the deemed flag where no
kind in force asks it. The measure of an ACTIVE LINKLOSS is the larger silence, in whole seconds; that a part of a second
is dropped is the model's choice (log 32). -/
def Obligations.TamperTimersExpire : Prop :=
  ∀ s : State,
    (s.ps.power = .holdup → s.ps.sampleTimer = some 0 → ∀ i : Sensor,
      let c := sensorCond i
      let need := match i with | .meterCase => 1 | .cover => 1 | .mag => 2
      let n := match s.tm.filters.get i with | .samples k => k + 1 | .stopped => 1 | .timing _ => 1
      let shows := s.pins.sensor.get i
      ∃ t, exec .holdupSample s = .next t ∧ t.ps = { s.ps with sampleTimer := some 1000 } ∧
        ((s.cond c).state = .idle → shows = true → need = 2 →
          (t.cond c).state = .pending ∧ t.tm.filters.get i = .samples 1) ∧
        ((s.cond c).state = .idle → shows = true → need = 1 → (t.cond c).state = .active) ∧
        ((s.cond c).state = .idle → shows = false → t.cond c = s.cond c) ∧
        ((s.cond c).state = .pending → shows = true →
          (t.cond c).state = if need ≤ n then .active else .pending) ∧
        ((s.cond c).state = .pending → shows = false → (t.cond c).state = .idle) ∧
        ((s.cond c).state = .active → shows = true → t.cond c = s.cond c ∧ t.tm.filters.get i = .samples 0) ∧
        ((s.cond c).state = .active → shows = false → need ≤ n →
          (t.cond c).state = .idle ∧ (t.cond c).lastEnd = some s.clock) ∧
        ((s.cond c).state = .active → shows = false → n < need →
          t.cond c = s.cond c ∧ t.tm.filters.get i = .samples n) ∧
        (∀ x ∈ t.tl.records, s.tl.nextSerial ≤ x.serial → (∀ y ∈ s.tl.records, y.serial < s.tl.nextSerial) →
          x.inHoldup = true) ∧
        t.params = s.params ∧ t.mli = s.mli ∧ t.be = s.be ∧ t.tc = s.tc ∧ t.cl = s.cl ∧ t.ce = s.ce ∧ t.ll = s.ll ∧
        t.pins = s.pins) ∧
    (s.ps.power = .active → s.tm.hold = some 0 →
      ∃ t, exec .deemedHoldExpiry s = .next t ∧ t.tm.hold = none ∧ t.tm.conds = s.tm.conds ∧
        (t.tm.deemed = true ↔ ∃ k, (s.params.actions.get k).testBit 1 = true ∧ t.tm.kindInForce k = true) ∧
        t.params = s.params ∧ t.mli = s.mli ∧ t.be = s.be ∧ t.tc = s.tc ∧ t.cl = s.cl ∧ t.ce = s.ce ∧ t.ll = s.ll ∧
        t.tl = s.tl ∧ t.ps = s.ps ∧ t.pins = s.pins) ∧
    (s.ps.power = .active → (s.cond .linkloss).state = .active → ∀ n, (s.cond .linkloss).ongoing = .serial n →
      (∀ x ∈ s.tl.records, x.serial = n → x.cond = .linkloss) →
      exec .linklossMeasure s = .next (s.setTl { s.tl with records := s.tl.records.map fun x =>
        if x.serial = n ∧ x.stop = none then
          { x with extreme := x.extreme.map fun held => max held ((min 65535 (s.mli.silenceMs / 1000) : Nat) : Int) }
        else x }))

/-! ### Codes' timers and the calendar (05, 03) -/

/-- A lockout's end gives its source five attempts (05 R86) and takes it from PROBE, which ends with the last (08
R139); a group whose timer has run out is dropped with a notice (05 R99). That the LOCKOUT notice comes last, behind
TM's, is the model's choice (log 7, DEDUCED): 12 R182 leaves their order open. -/
def Obligations.CodeTimersExpire : Prop :=
  ∀ s : State, s.ps.power = .active →
    (∀ src, s.ce.lockout.get src = some 0 →
      ∃ t, exec (.lockoutEnd src) s = .next t ∧
        t.ce = { s.ce with
          keys := { s.ce.keys with attempts := s.ce.keys.attempts.set src 5 }
          lockout := s.ce.lockout.set src none } ∧
        t.tm.probeSources = s.tm.probeSources.set src false ∧
        (s.tm.probeSources.get src = true → s.tm.probeSources.set src false = ⟨false, false⟩ →
          t.cond .probe = { s.cond .probe with state := .idle, lastEnd := some s.clock, ongoing := .none }) ∧
        (s.tm.probeSources.set src false ≠ ⟨false, false⟩ → t.tm.conds = s.tm.conds ∧ t.tl = s.tl ∧ t.sss = s.sss) ∧
        (s.hlc.queue.length ≤ 13 → t.hlc.queue.getLast? = some ⟨.lockout src true, s.clock⟩) ∧
        t.params = s.params ∧ t.mli = s.mli ∧ t.be = s.be ∧ t.tc = s.tc ∧ t.cl = s.cl ∧ t.ll = s.ll ∧ t.ps = s.ps ∧
        t.pins = s.pins) ∧
    (∀ g, s.ce.group = some g → g.timer = 0 → s.hlc.queue.length < 16 →
      exec .groupTimeout s = .next ((s.setCe { s.ce with group := none }).setHlc { s.hlc with
        queue := s.hlc.queue ++ [⟨.groupDropped g.cls g.sequence g.indices g.firstSource true, s.clock⟩] }))

/-- The clock advances by one, to its maximum at most, when the sub-second phase completes a second (03 R39). An
evaluation (R45) makes the allowance comparison (R41), finds the band (R48) and the friendly state (R49, R50), and
rolls the cycle forward with CYCLE_WH at 0 (R51). It moves no money. -/
def Obligations.ClockAndCalendarAdvance : Prop :=
  ∀ s : State,
    (s.ps.power = .active ∨ s.ps.power = .holdup → 4096000 ≤ s.tc.phase →
      exec .clockAdvance s = .next (s.setTc { s.tc with
        phase := s.tc.phase - 4096000, sched := { s.tc.sched with clock := min 4294967295 (s.clock + 1) } })) ∧
    (s.ps.power = .active → s.clock % 600 = 0 → s.tc.sched.Sound →
      let day := s.clock / 86400
      let weekday := (day + s.params.commWeekday) % 7
      let now := s.clock % 86400 / 600
      let points := if s.tc.sched.weekMap[weekday]? = some .b then s.tc.sched.profileB else s.tc.sched.profileA
      let covers := fun (w : FriendlyWindow) =>
        (w.start < w.stop ∧ w.days.testBit weekday = true ∧ w.start ≤ now ∧ now < w.stop) ∨
        (w.stop < w.start ∧ ((w.days.testBit weekday = true ∧ w.start ≤ now) ∨
          (w.days.testBit ((weekday + 6) % 7) = true ∧ now < w.stop)))
      let p := s.params.windows
      let index := day / s.params.cycleDays
      ∃ t, exec .tcEdgeEvaluation s = .next t ∧
        (s.tc.clockValid = false → t.tc.band = 0) ∧
        (s.tc.clockValid = true →
          (∀ x ∈ points, x.start ≤ now → (∀ y ∈ points, y.start ≤ now → y.start ≤ x.start) → t.tc.band = x.band) ∧
          ((∀ y ∈ points, now < y.start) → ∀ x, points.getLast? = some x → t.tc.band = x.band)) ∧
        (t.tc.friendly = true ↔
          s.tc.clockValid = true ∧ (covers p.w0 ∨ covers p.w1 ∨ covers p.w2 ∨ covers p.w3)) ∧
        (s.tc.clockValid = true → s.tc.sched.cycleIndex < index →
          t.tc.sched = { s.tc.sched with cycleIndex := index } ∧ t.be.reg = { s.be.reg with cycleWh := 0 }) ∧
        (s.tc.clockValid = false ∨ index ≤ s.tc.sched.cycleIndex → t.tc.sched = s.tc.sched ∧ t.be = s.be) ∧
        t.tc.allowanceDay = max s.tc.allowanceDay day ∧
        t.tc.trimUsed = (if s.tc.allowanceDay < day then 0 else s.tc.trimUsed) ∧ t.tc.phase = s.tc.phase ∧
        t.tc.clockValid = s.tc.clockValid ∧ t.acct = s.acct ∧
        (t.tc.friendly ≠ s.tc.friendly → t.cl.creditHeld = wantsCredit s.acct.state t.tc.friendly) ∧
        (t.tc.friendly = s.tc.friendly → t.cl = s.cl ∧ t.sss = s.sss ∧ t.hlc = s.hlc) ∧
        t.params = s.params ∧ t.mli = s.mli ∧ t.ce = s.ce ∧ t.ll = s.ll ∧ t.tm = s.tm ∧ t.tl = s.tl ∧ t.ps = s.ps ∧
        t.pins = s.pins)

/-! ### The contactor (06) -/

/-- A coil pulse (06 R108, R110, R112, R115, R119): at COIL_MS the coil is released; the monitor's clearance starts
the settle in ACTIVE, or the opening that a reason found at a close pulse's end calls for, and outside ACTIVE ends the
sequence at its commanded end (with no SUPPLY notice, not even for a closing that ends in CLOSED: the model's choice,
log 46, DEDUCED); current still flowing 250 ms after the pulse began is FAULT DRIVER, with COIL_EN
dropped, and a notice with the pulses made, the LOADV inputs and the coil (12 R182; that those inputs are the levels
last seen is the model's choice, log 15). -/
def Obligations.CoilPulsesAreMonitored : Prop :=
  ∀ s : State,
    let quiet := s.setPins { s.pins with coilSense := false }
    (s.sss.phase = .pulse → s.sss.phaseTimer = some 0 →
      exec .coilPulseEnd s = .next (s.setSss { s.sss with
        phase := .clearance, phaseTimer := none
        openNext := decide (s.sss.contactor = .closing ∧ s.ps.power = .active ∧
          s.sss.reasons ≠ ⟨false, false, false, false, false⟩) })) ∧
    (s.sss.phase = .clearance →
      (s.ps.power = .active → s.sss.openNext = false → exec .pulseCleared s =
        .next (quiet.setSss { s.sss with
          phase := .settle, phaseTimer := some s.params.settleMs, cutoff := none })) ∧
      (s.ps.power = .active → s.sss.openNext = true → exec .pulseCleared s =
        .next (quiet.setSss { s.sss with
          contactor := .opening, attempts := 1, pulseLimit := 3, phase := .pulse
          phaseTimer := some s.params.coilMs, cutoff := some 250, openNext := false, verified := .unknown
          weldRetry := none })) ∧
      (s.ps.power ≠ .active → s.sss.contactor = .opening ∨ s.sss.contactor = .closing → exec .pulseCleared s =
        .next (quiet.setSss { s.sss with
          contactor := if s.sss.contactor = .opening then .opened else .closed, attempts := 0, phase := .idle
          phaseTimer := none, cutoff := none, openNext := false, verified := .unknown }))) ∧
    (s.sss.cutoff = some 0 → s.sss.phase = .pulse ∨ s.sss.phase = .clearance →
      ∃ t, exec .coilCutoff s = .next t ∧
        t.sss = { s.sss with
          contactor := .fault .driver, attempts := 0, phase := .idle, phaseTimer := none, cutoff := none
          openNext := false, verified := .unknown, coilEnable := false } ∧
        t.coilOpen = false ∧ t.coilClose = false ∧
        (s.hlc.queue.length < 16 → s.sss.contactor = .opening ∨ s.sss.contactor = .closing → t.hlc.queue =
          s.hlc.queue ++ [⟨.contactorFault .driver s.sss.attempts s.pins.loadv
            (if s.sss.contactor = .opening then .open else .close), s.clock⟩]) ∧
        t.params = s.params ∧ t.mli = s.mli ∧ t.be = s.be ∧ t.tc = s.tc ∧ t.cl = s.cl ∧ t.ce = s.ce ∧ t.ll = s.ll ∧
        t.tm = s.tm ∧ t.tl = s.tl ∧ t.ps = s.ps)

/-- The verification at the end of a settle (06 R108, R109, R111 to R114). An opening with LOADV absent everywhere is
done, OPEN and verified; with the set empty it comes to rest in ARMED, or closes at once where the emptying origin is an
accepting press, a RESTORE press, or an automatic reclose with AUTO_RECLOSE_KEYLESS 1; else it pulses again, three times
in all (once after a position check), and is then FAULT WELDED. A closing with a reason in the set becomes an opening;
it is CLOSED unverified when the latest record verifies no phase, CLOSED and verified with LOADV on every verifiable
phase, and else pulses again, up to FAULT NO_CLOSE (in FAULT the attempt count is 0, log 29, and the notice's coil field
none, log 16). -/
def Obligations.SettlesAreVerified : Prop :=
  ∀ (s : State) (loadv : PerPhase Bool),
    s.ps.power = .active → s.sss.phase = .settle → s.sss.phaseTimer = some 0 →
    let seen := s.setPins { s.pins with loadv := loadv }
    let none? : Reasons := ⟨false, false, false, false, false⟩
    let load := loadv.p1 || loadv.p2 || loadv.p3
    let ended : Sss := { s.sss with attempts := 0, phase := .idle, phaseTimer := none, cutoff := none, openNext := false }
    let again : Sss := { s.sss with
      attempts := s.sss.attempts + 1, phase := .pulse, phaseTimer := some s.params.coilMs, cutoff := some 250
      openNext := false, verified := .unknown }
    let told := fun (body : NoticeBody) (x : Sss) => (seen.setSss x).setHlc
      (if s.hlc.queue.length < 16 then { s.hlc with queue := s.hlc.queue ++ [⟨body, s.clock⟩] }
       else { s.hlc with overflow := true })
    let done := fun (t : State) => exec (.settleEnd loadv) s = .next t
    (s.sss.contactor = .opening →
      (load = false → s.sss.reasons ≠ none? →
        done (told (.supply .opened false) { ended with verified := .opened, contactor := .opened })) ∧
      (load = false → s.sss.reasons = none? →
        s.sss.origin = .ordinary ∨ (s.sss.origin = .autoReclose ∧ s.params.autoRecloseKeyless ≠ 1) →
        ∃ t, done t ∧ t.sss = { ended with verified := .opened, contactor := .armed, origin := .ordinary } ∧
          (s.hlc.queue.length < 15 → t.hlc.queue =
            s.hlc.queue ++ [⟨.supply .opened false, s.clock⟩, ⟨.supply .armed false, s.clock⟩]) ∧
          t.ll = s.ll ∧ t.tm = s.tm ∧ t.cl = s.cl ∧ t.params = s.params ∧ t.mli = s.mli ∧ t.be = s.be ∧ t.tc = s.tc ∧
          t.ce = s.ce ∧ t.tl = s.tl ∧ t.ps = s.ps ∧ t.pins = seen.pins) ∧
      (load = false → s.sss.reasons = none? →
        s.sss.origin = .acceptingPress ∨ s.sss.origin = .restorePress ∨
          (s.sss.origin = .autoReclose ∧ s.params.autoRecloseKeyless = 1) →
        done (told (.supply .opened false) { ended with
          contactor := .closing, origin := .ordinary, attempts := 1, phase := .pulse
          phaseTimer := some s.params.coilMs, cutoff := some 250, verified := .unknown })) ∧
      (load = true → s.sss.attempts < s.sss.pulseLimit → done (seen.setSss again)) ∧
      (load = true → s.sss.pulseLimit ≤ s.sss.attempts →
        done (told (.contactorFault .welded s.sss.attempts loadv .none)
          { ended with verified := .unknown, contactor := .fault .welded, weldRetry := some 900000 }))) ∧
    (s.sss.contactor = .closing →
      (s.sss.reasons ≠ none? → done (seen.setSss { again with
        contactor := .opening, attempts := 1, pulseLimit := 3, weldRetry := none })) ∧
      (s.sss.reasons = none? →
        (s.mli.latest = none →
          done (told (.supply .closed true) { ended with verified := .unknown, contactor := .closed })) ∧
        ∀ r, s.mli.latest = some r →
          let verifiable := fun (p : Phase) => s.params.vNom * 10 ≤ 2 * r.v.get p
          ((∀ p, ¬verifiable p) →
            done (told (.supply .closed true) { ended with verified := .unknown, contactor := .closed })) ∧
          ((∃ p, verifiable p) → (∀ p, verifiable p → loadv.get p = true) →
            done ((told (.supply .closed false) { ended with verified := .closed, contactor := .closed }).setLl
              { s.ll with
                blanking := s.params.inrushRecords, overload := 0, window := some 1800000
                watch := if s.params.inrushRecords = 0 then .watching else .blanking })) ∧
          ((∃ p, verifiable p ∧ loadv.get p = false) → s.sss.attempts < 3 → done (seen.setSss again)) ∧
          ((∃ p, verifiable p ∧ loadv.get p = false) → 3 ≤ s.sss.attempts →
            done (told (.contactorFault .noClose s.sss.attempts loadv .none)
              { ended with verified := .unknown, contactor := .fault .noClose }))))

/-! ### Power (10) -/

/-- VMAIN's threshold crossings load the debounce timer, 20 ms for a fall in SHELF and ACTIVE and 500 ms for a rise
elsewhere, and stop it on the way back (10 R162; off and DORMANT: log 20; a held return: log 21). A part that is not
commissioned goes off 20 ms after a fall with all but the log and the images at manufacture values (log 18). -/
def Obligations.MainsCrossingsAreDebounced : Prop :=
  ∀ s : State,
    let running := s.ps.power = .active ∨ s.ps.power = .shelf
    let low := s.setPins { s.pins with vmain := false }
    let high := s.setPins { s.pins with vmain := true }
    (s.pins.vmain = true →
      (running → exec .vmainFall s = .next (low.setPs { s.ps with vmainTimer := some 20 })) ∧
      (s.ps.power = .holdup →
        exec .vmainFall s = .next (low.setPs { s.ps with vmainTimer := none, returnHeld := false })) ∧
      (s.ps.power = .dormant ∨ s.ps.power = .off →
        exec .vmainFall s = .next (low.setPs { s.ps with vmainTimer := none }))) ∧
    (s.pins.vmain = false →
      (running → exec .vmainRise s = .next (high.setPs { s.ps with vmainTimer := none })) ∧
      (¬running → exec .vmainRise s = .next (high.setPs { s.ps with vmainTimer := some 500 }))) ∧
    (s.ps.power = .shelf → s.pins.vmain = false → s.ps.vmainTimer = some 0 →
      exec .shelfPowerLoss s = .next { State.reset with
        tl := s.tl, pins := s.pins, free := s.free, pending := s.pending
        ps := { State.reset.ps with power := .off, slotA := s.ps.slotA, slotB := s.ps.slotB } })

/-- The entry to HOLDUP (10 R163): the links stop and their queues, replies and timers are discarded, a settle is
abandoned at its commanded end and a pulse runs on (06 R119), the limiter's watch ends (07 R131, log 31), the filters
count samples (08 R148), the clock is noted and the write is asked for, with the valid flag down. A request whose
write is under way loses its reply and is waited for (log 22). VBACK low, now or later, is DORMANT (R166), with its
own write. Three clauses are the model's choice: the first hold-up sample comes 1,000 ms after the entry (log 37), an
hourly write that waits for the slot is dropped (log 35, DEDUCED), and a settle abandoned here raises no SUPPLY notice,
not even a closing's that ends in CLOSED (log 46, DEDUCED): the event queue is kept as it stands. -/
def Obligations.PowerFailureKeepsTheState : Prop :=
  ∀ s : State,
    (s.ps.power = .active → s.ps.vmainTimer = some 0 → s.pins.vmain = false → ∀ vback : Bool,
      (∀ r, s.hlc.slot = .awaitingWrite r → exec (.holdupEntry vback) s =
        .next (((s.setPins { s.pins with vback := vback }).setPs
          { s.ps with vmainTimer := none, holdupHeld := true }).setHlc { s.hlc with slot := .awaitingWrite none })) ∧
      ((∀ r, s.hlc.slot ≠ .awaitingWrite r) →
        ∃ t, exec (.holdupEntry vback) s = .next t ∧ t.ps.power = (if vback then .holdup else .dormant) ∧
          t.ps.entryTime = s.clock ∧ t.ps.periodic = none ∧ t.ps.periodicWaits = false ∧ t.ps.vmainTimer = none ∧
          t.ps.sampleTimer = (if vback then some 1000 else none) ∧
          t.mli.assembly = ⟨[], 0, false⟩ ∧ t.mli.queue = [] ∧ t.mli.silenceRunning = false ∧ t.mli.suppression = none ∧
          t.mli.latest = s.mli.latest ∧ t.be = { s.be with tickTimer := none } ∧
          (s.sss.phase = .settle → s.sss.contactor = .opening ∨ s.sss.contactor = .closing →
            t.sss.phase = .idle ∧ t.sss.contactor = if s.sss.contactor = .opening then .opened else .closed) ∧
          (s.sss.phase ≠ .settle → t.sss = { s.sss with verified := .unknown }) ∧ t.sss.reasons = s.sss.reasons ∧
          t.ll = { s.ll with watch := .off, blanking := 0, overload := 0, window := none } ∧
          t.tm = { s.tm with filters := ⟨.samples 0, .samples 0, .samples 0⟩ } ∧
          t.hlc.rx = none ∧ t.hlc.sending = none ∧ t.hlc.waiting = none ∧ t.hlc.queue = s.hlc.queue ∧
          (s.ps.write = none → t.ps.valid = false ∧
            ∃ w, t.ps.write = some w ∧ w.img.occasion = .holdupEntry ∧ w.img.contents = t.snapshot ∧
              t.ps.nextWrites = s.ps.nextWrites ++ (if vback then [] else [.dormantEntry])) ∧
          (s.ps.write ≠ none → t.ps.write = s.ps.write ∧
            t.ps.nextWrites = s.ps.nextWrites ++ (if vback then [.holdupEntry] else [.holdupEntry, .dormantEntry])) ∧
          t.params = s.params ∧ t.tc = s.tc ∧ t.cl = s.cl ∧ t.ce = s.ce ∧ t.tl = s.tl ∧
          t.pins = { s.pins with vback := vback })) ∧
    (s.ps.power = .holdup → s.ps.returnHeld = false →
      ∃ t, exec .dormantEntry s = .next t ∧ t.ps.power = .dormant ∧ t.pins = { s.pins with vback := false } ∧
        t.ps.sampleTimer = none ∧ t.ps.vmainTimer = (if s.pins.vmain then some 500 else none) ∧
        (s.ps.write = none → ∃ w, t.ps.write = some w ∧ w.img.occasion = .dormantEntry ∧ w.img.contents = s.snapshot) ∧
        (s.ps.write ≠ none → t.ps.write = s.ps.write ∧ t.ps.nextWrites = s.ps.nextWrites ++ [.dormantEntry]) ∧
        t.params = s.params ∧ t.mli = s.mli ∧ t.be = s.be ∧ t.tc = s.tc ∧ t.cl = s.cl ∧ t.ce = s.ce ∧ t.sss = s.sss ∧
        t.ll = s.ll ∧ t.tm = s.tm ∧ t.tl = s.tl ∧ t.hlc = s.hlc) ∧
    (s.ps.power ≠ .holdup → exec .dormantEntry s = .next (s.setPins { s.pins with vback := false }))

/-- The return of mains (10 R165, R169, R170). RETURN_DECISION waits for a write under way, and DEFERRED_RETURN
follows it. With the valid flag up the return is warm: the state is kept, and MLI, BE's runs and ticks and the link
begin afresh. With it down, and at POWER_UP, the newest valid image is restored, or without one the part is in SHELF
with every record closed. In all of them the position is unknown and the clock of a restore is not valid. The tamper
conditions go on as 08 R149 says; a restore takes them from the image, the deemed hold at full length where it was
running, and brings them into line with the log (08 R150). The switch acts on the set as it stands (06 R120): where
REMOTE keeps it occupied the contactor's end is stated for the whole return, a FAULT DRIVER of an image being OPEN; the
switch's own part is stated for every set, with an OPEN found empty as 06 R109 says. -/
def Obligations.MainsReturnIsWarmColdOrShelf : Prop :=
  (∀ (s : State) (c : Instr),
    let opens := fun (t : State) =>
      t.sss.contactor = .opening ∧ t.sss.phase = .pulse ∧ t.sss.attempts = 1 ∧ t.sss.pulseLimit = 3
    let filtered := fun (conds : PerCond Cond) (t : State) => ∀ i, t.tm.filters.get i =
      if s.pins.sensor.get i = ((conds.get (sensorCond i)).state == .active) then .stopped
      else .timing (if i = .mag then 2000 else 500)
    (c = .returnDecision ∧ s.ps.power = .holdup ∧ s.ps.vmainTimer = some 0 ∧ s.pins.vmain = true) ∨
    (c = .deferredReturn ∧ s.ps.power = .holdup ∧ s.ps.returnHeld = true) ∨
    (c = .powerUp ∧ (s.ps.power = .off ∨ s.ps.power = .dormant) ∧ s.ps.vmainTimer = some 0 ∧ s.pins.vmain = true) →
    (c = .returnDecision → s.ps.write ≠ none →
      exec c s = .next (s.setPs { s.ps with vmainTimer := none, returnHeld := true })) ∧
    (s.ps.write = none → c ≠ .powerUp → s.ps.valid = true →
      ∃ t, exec c s = .next t ∧ t.ps.power = .active ∧ t.ps.periodic = some 3600000 ∧
        t.mli = ⟨⟨[], 0, false⟩, [], s.mli.expected, true, 0, true, some 5000, false, none⟩ ∧
        t.be.reg.billedWh = s.be.reg.billedWh ∧ t.be.bLast = s.be.bLast ∧ t.be.ticks = 0 ∧ t.be.runs = Runs.zero ∧
        t.be.tickTimer = (if (s.cond .linkloss).state = .active then some 250 else none) ∧
        t.clock = s.clock ∧ t.tc.clockValid = s.tc.clockValid ∧ t.acct.balance = s.acct.balance ∧
        t.acct.debt = s.acct.debt ∧ t.acct.state = creditStateOf s.params t.acct ∧ t.sss.verified = .unknown ∧
        t.sss.coilEnable = decide (s.sss.contactor ≠ .fault .driver) ∧
        t.hlc.slot = .empty ∧ t.hlc.sending = none ∧ t.hlc.waiting = none ∧ t.hlc.rx = none ∧
        (s.hlc.queue.length < 16 →
          s.hlc.queue ++ [⟨.restoredWarm (s.clock - s.ps.entryTime), s.clock⟩] <+: t.hlc.queue) ∧
        (∀ k, t.cond k = { s.cond k with state := stateAtEntry s.pins.sensor k (s.cond k).state }) ∧
        filtered s.tm.conds t ∧ t.tm.hold = s.tm.hold ∧ t.tm.probeSources = s.tm.probeSources ∧
        (s.sss.reasons.remote = true →
          (s.sss.contactor = .closed ∨ s.sss.contactor = .fault .welded ∨ s.sss.contactor = .fault .noClose →
            opens t) ∧
          (s.sss.contactor = .opened ∨ s.sss.contactor = .armed → t.sss.contactor = .opened) ∧
          (s.sss.contactor = .opening ∨ s.sss.contactor = .closing ∨ s.sss.contactor = .fault .driver →
            t.sss.contactor = s.sss.contactor ∧ t.sss.phase = s.sss.phase)) ∧
        t.params = s.params ∧ t.ce = s.ce ∧ t.tl = s.tl ∧ t.pins = s.pins) ∧
    (s.ps.write = none → c = .powerUp ∨ s.ps.valid = false →
      (∀ place img, s.ps.newest = some (place, img) →
        let x := img.contents
        ∃ t, exec c s = .next t ∧ t.ps.power = .active ∧ t.ps.meterId = x.meterId ∧ t.params = x.params ∧
          t.ce.keys = x.keys ∧ t.ce.group = none ∧
          (∀ src, t.ce.lockout.get src = if x.keys.attempts.get src = 0 then some 3600000 else none) ∧
          t.be.reg = x.reg ∧ t.be.bLast = 0 ∧ t.mli.baseline = true ∧ t.clock = x.sched.clock ∧
          t.tc.sched = x.sched ∧ t.tc.clockValid = false ∧ t.tc.band = 0 ∧ t.tc.friendly = false ∧
          t.acct.balance = x.acct.balance ∧ t.acct.debt = x.acct.debt ∧ t.acct.residue = x.acct.residue ∧
          t.acct.state = creditStateOf x.params t.acct ∧ t.sss.verified = .unknown ∧ t.sss.coilEnable = true ∧
          t.sss.reasons.remote = x.reasons.remote ∧ t.ll.tempLimit = 0 ∧
          t.ll.reclose = (if x.reasons.overload then .wait else .rest) ∧
          t.hlc.queue.head? = some ⟨.restoredCold img.occasion img.generation, x.sched.clock⟩ ∧
          t.ps.slotA = s.ps.slotA ∧ t.ps.slotB = s.ps.slotB ∧
          (∀ k, let y := x.conds.get k
            t.cond k = { y with
              state := stateAtEntry s.pins.sensor k y.state
              ongoing := match y.ongoing with
                | .serial n =>
                  if y.state = .active ∧ ∀ r ∈ s.tl.records, r.serial = n → r.stop ≠ none then .unrecorded else .serial n
                | .unrecorded => .unrecorded
                | .none => .none }) ∧
          filtered x.conds t ∧ t.tm.probeSources = x.probeSources ∧
          t.tm.hold = (if x.holdRunning then some (x.params.deemedHoldMin * 60000) else none) ∧
          t.tl.records.length = s.tl.records.length ∧
          (∀ (i : Nat) (r : TamperRecord), s.tl.records[i]? = some r →
            let held := ∃ k, (x.conds.get k).state = .active ∧ (x.conds.get k).ongoing = .serial r.serial
            (r.stop = none → ¬held → t.tl.records[i]? = some { r with stop := some x.sched.clock }) ∧
              (r.stop ≠ none ∨ held → t.tl.records[i]? = some r)) ∧
          t.tl.nextSerial = s.tl.nextSerial ∧ t.tl.unrecorded = s.tl.unrecorded ∧
          (x.reasons.remote = true →
            (x.contactor = .closed ∨ x.contactor = .fault .welded ∨ x.contactor = .fault .noClose → opens t) ∧
            (x.contactor = .opened ∨ x.contactor = .armed ∨ x.contactor = .fault .driver →
              t.sss.contactor = .opened)) ∧
          t.pins = s.pins) ∧
      (s.ps.newest = none → exec c s = .next { State.reset with
        tl := { s.tl with records := s.tl.records.map fun r => if r.stop = none then { r with stop := some 0 } else r }
        pins := s.pins, free := s.free, pending := s.pending
        ps := { State.reset.ps with slotA := s.ps.slotA, slotB := s.ps.slotB } }))) ∧
  ∀ s : State,
    let none? : Reasons := ⟨false, false, false, false, false⟩
    let entry := { s.sss with verified := .unknown }
    let pulse : Sss := { entry with
      attempts := 1, phase := .pulse, phaseTimer := some s.params.coilMs, cutoff := some 250, openNext := false }
    let told := fun (c : Contactor) (x : Sss) => (s.setSss x).setHlc
      (if s.hlc.queue.length < 16 then { s.hlc with queue := s.hlc.queue ++ [⟨.supply c true, s.clock⟩] }
       else { s.hlc with overflow := true })
    (s.sss.reasons ≠ none? →
      (s.sss.contactor = .closed ∨ s.sss.contactor = .fault .welded ∨ s.sss.contactor = .fault .noClose →
        enterActiveSss s = s.setSss { pulse with contactor := .opening, pulseLimit := 3, weldRetry := none }) ∧
      (s.sss.contactor = .armed → enterActiveSss s = told .opened { entry with contactor := .opened }) ∧
      (s.sss.contactor = .opened → enterActiveSss s = s.setSss entry)) ∧
    (s.sss.reasons = none? →
      (s.sss.contactor = .opened →
        s.sss.origin = .ordinary ∨ (s.sss.origin = .autoReclose ∧ s.params.autoRecloseKeyless ≠ 1) →
        enterActiveSss s = told .armed { entry with contactor := .armed, origin := .ordinary }) ∧
      (s.sss.contactor = .opened →
        s.sss.origin = .acceptingPress ∨ s.sss.origin = .restorePress ∨
          (s.sss.origin = .autoReclose ∧ s.params.autoRecloseKeyless = 1) →
        enterActiveSss s = s.setSss { pulse with contactor := .closing, origin := .ordinary }) ∧
      (s.sss.contactor = .closed ∨ s.sss.contactor = .armed ∨ s.sss.contactor = .fault .welded ∨
          s.sss.contactor = .fault .noClose →
        enterActiveSss s = s.setSss entry)) ∧
    (s.sss.contactor = .opening ∨ s.sss.contactor = .closing ∨ s.sss.contactor = .fault .driver →
      enterActiveSss s = s.setSss entry)

/-! ### The checkpoint (10 section 10.4) -/

/-- A checkpoint write goes to the slot that does not hold the newest valid image, with the generation after it (10
R167): every step keeps this of the write under way, and of the one it begins. Its end stores it: a good image is then
the newest valid one, a bad one leaves the newest valid image as it was (log 24). The DORMANT_ENTRY write drops COIL_EN
and ends a pulse still running (log 27). The hold-up reserve's end is that of a bad image. A request's write makes its
reply and frees the slot. The hourly write (R168) takes an empty slot with the state as it stands; while the slot is
occupied it waits. An entry to HOLDUP held back by a write (R163) is made at the write's end, whatever VMAIN has done
since: the model's choice (log 22, DEDUCED). So is the moment at which a write restarts the periodic timer (R168): at
its end (log 47, DEDUCED). -/
def Obligations.WriteNeverLosesTheNewestImage : Prop :=
  (∀ s t : State, WriteSound s → step s = .next t → WriteSound t) ∧
  (∀ (s : State) (c : Instr) (w : Write) (good : Bool),
      c = .checkpointWriteDone good ∨
        (c = .holdUpReserveExhaustion ∧ good = false ∧ (s.ps.power ≠ .active ∨ s.pins.vmain = false)) →
      s.ps.write = some w → w.target = s.ps.target → w.img.generation = s.ps.generation →
      ∃ t, exec c s = .next t ∧
        t.ps.newest = (if good then some (w.target, w.img) else s.ps.newest) ∧
        (∀ occ rest, s.ps.nextWrites = occ :: rest → ∃ v, t.ps.write = some v ∧ v.img.occasion = occ) ∧
        (s.ps.nextWrites = [] → s.ps.holdupHeld = false →
          t.ps.write = none ∧
          (s.ps.power = .active → t.ps.periodic = some 3600000) ∧
          (w.img.occasion = .periodic → s.hlc.slot = .periodicWrite →
            t.hlc = { s.hlc with slot := .empty } ∧ t.sss = s.sss) ∧
          (w.img.occasion = .code ∨ w.img.occasion = .commission →
            (∀ r, s.hlc.slot = .awaitingWrite (some r) → s.hlc.sending = none →
              t.hlc = { s.hlc with slot := .empty, sending := some r }) ∧
            (∀ r x, s.hlc.slot = .awaitingWrite (some r) → s.hlc.sending = some x → s.hlc.waiting = none →
              t.hlc = { s.hlc with slot := .empty, waiting := some r }) ∧
            (∀ r x y, s.hlc.slot = .awaitingWrite (some r) → s.hlc.sending = some x → s.hlc.waiting = some y →
              t.hlc = { s.hlc with slot := .replyWaits r }) ∧
            (s.hlc.slot = .awaitingWrite none → t.hlc = { s.hlc with slot := .empty }) ∧ t.sss = s.sss) ∧
          (w.img.occasion = .holdupEntry → t.ps.valid = good ∧ t.hlc = s.hlc ∧ t.sss = s.sss) ∧
          (w.img.occasion = .dormantEntry → t.ps.valid = false ∧ t.sss.coilEnable = false ∧ t.sss.phase = .idle)) ∧
        (s.ps.holdupHeld = true → s.ps.power = .active → s.pins.vback = true → t.ps.power = .holdup) ∧
        t.params = s.params ∧ t.tc = s.tc ∧ t.cl = s.cl ∧ t.ce = s.ce ∧ t.tl = s.tl ∧ t.pins = s.pins) ∧
  ∀ s : State, s.ps.power = .active →
    let begun := fun (ps : Ps) => (s.setPs { ps with
      write := some ⟨⟨s.snapshot, s.ps.generation, .periodic⟩, s.ps.target⟩ }).setHlc
        { s.hlc with slot := .periodicWrite }
    (s.ps.periodic = some 0 → s.hlc.slot = .empty → s.ps.write = none →
      exec .periodicCheckpoint s = .next (begun { s.ps with periodic := none })) ∧
    (s.ps.periodic = some 0 → s.hlc.slot ≠ .empty →
      exec .periodicCheckpoint s = .next (s.setPs { s.ps with periodic := none, periodicWaits := true })) ∧
    (s.ps.periodicWaits = true → s.hlc.slot = .empty → s.ps.write = none →
      exec .deferredPeriodicWrite s = .next (begun { s.ps with periodicWaits := false }))

end
end

