-- ==== Sys2Proof/Laws/Bytes.lean ====
section
/-! SUPPORT. Numbers as bytes and back: what a field of a reply holds, walking the reply from its front. -/

namespace Sys2Proof.Machine

@[simp] theorem length_bytesOf (k x : Nat) : (bytesOf k x).length = k := by
  induction k with
  | zero => rfl
  | succ k ih => simp [bytesOf, ih]

theorem natOf_foldl (l : List Byte) (a : Nat) :
    l.foldl (fun acc b => acc * 256 + b.toNat) a = a * 256 ^ l.length + natOf l := by
  induction l generalizing a with
  | nil => simp [natOf]
  | cons b l ih =>
    have h : natOf (b :: l) = (0 * 256 + b.toNat) * 256 ^ l.length + natOf l := ih (0 * 256 + b.toNat)
    rw [List.foldl_cons, ih, h, List.length_cons, pow_succ]; ring

@[simp] theorem natOf_cons (b : Byte) (l : List Byte) : natOf (b :: l) = b.toNat * 256 ^ l.length + natOf l := by
  rw [natOf, List.foldl_cons, natOf_foldl, Nat.zero_mul, Nat.zero_add]

/-- The low `k` bytes of a number spell its remainder. -/
@[simp] theorem natOf_bytesOf (k x : Nat) : natOf (bytesOf k x) = x % 256 ^ k := by
  induction k with
  | zero => simp [bytesOf, natOf, Nat.mod_one]
  | succ k ih =>
    rw [bytesOf, natOf_cons, ih, length_bytesOf, BitVec.toNat_ofNat, show (2 : Nat) ^ 8 = 256 by norm_num, mul_comm,
      Nat.pow_succ, Nat.mod_mul, add_comm]

theorem fieldAt_here (k x : Nat) (rest : List Byte) : fieldAt (bytesOf k x ++ rest) 0 k = x % 256 ^ k := by
  have h := List.take_left (l₁ := bytesOf k x) (l₂ := rest)
  rw [length_bytesOf] at h
  simp [fieldAt, h]

theorem fieldAt_last (k x : Nat) : fieldAt (bytesOf k x) 0 k = x % 256 ^ k := by
  simpa using fieldAt_here k x []

theorem fieldAt_skip (k x off len : Nat) (rest : List Byte) (h : k ≤ off) :
    fieldAt (bytesOf k x ++ rest) off len = fieldAt rest (off - k) len := by
  simp [fieldAt, List.drop_append, List.drop_eq_nil_of_le, h]

theorem fieldAt_cons (b : Byte) (rest : List Byte) (off len : Nat) :
    fieldAt (b :: rest) (off + 1) len = fieldAt rest off len := rfl

theorem fieldAt_head (b : Byte) (rest : List Byte) : fieldAt (b :: rest) 0 1 = b.toNat := by
  simp [fieldAt, natOf]

/-- A number that fits is read back. -/
theorem signedOf_mod (x : Int) (h : -(2 ^ 31) ≤ x) (h' : x < 2 ^ 31) :
    signedOf 32 ((x % (256 ^ 4 : Nat)).toNat % 256 ^ 4) = x := by
  simp only [signedOf]; norm_num at *; split <;> omega

theorem signedOf_mod8 (x : Int) (h : -(2 ^ 7) ≤ x) (h' : x < 2 ^ 7) :
    signedOf 8 ((x % (256 ^ 1 : Nat)).toNat % 256 ^ 1) = x := by
  simp only [signedOf]; norm_num at *; split <;> omega

end Sys2Proof.Machine
end

