-- ==== Sys2Proof/Laws/Codes.lean ====
section
/-! SUPPORT. The back office's side of 05 section 5.1: the 21 digits of a number are read back as the number, and
every body of a code has digits that spell it as an authentic code, whatever the transform and the check are. -/

namespace Sys2Proof.Machine

/-- The lowest k decimal digits of a number as characters. -/
def digitChars : Nat → Nat → List Byte
  | 0, _ => []
  | k + 1, n => digitChars k (n / 10) ++ [BitVec.ofNat 8 (0x30 + n % 10)]

theorem length_digitChars (k n : Nat) : (digitChars k n).length = k := by
  induction k generalizing n with
  | zero => rfl
  | succ k ih => simp [digitChars, ih]

theorem digitsFrom_append (l m : List Byte) (acc : Nat) :
    digitsFrom acc (l ++ m) = (digitsFrom acc l).bind fun x => digitsFrom x m := by
  induction l generalizing acc with
  | nil => rfl
  | cons b l ih =>
    rw [List.cons_append, digitsFrom, digitsFrom]
    cases digitOf b with
    | none => rfl
    | some d => exact ih _

theorem digitOf_char (d : Nat) (h : d < 10) : digitOf (BitVec.ofNat 8 (0x30 + d)) = some d := by
  have e : (BitVec.ofNat 8 (0x30 + d)).toNat = 0x30 + d := by simp; omega
  rw [digitOf, e, if_pos (by omega)]; congr 1; omega

theorem digitsFrom_digitChars (k n acc : Nat) :
    digitsFrom acc (digitChars k n) = some (acc * 10 ^ k + n % 10 ^ k) := by
  induction k generalizing n acc with
  | zero => simp [digitChars, digitsFrom, Nat.mod_one]
  | succ k ih =>
    rw [digitChars, digitsFrom_append, ih, Option.bind_some, digitsFrom, digitOf_char _ (Nat.mod_lt _ (by norm_num))]
    simp only [digitsFrom]
    rw [Nat.pow_succ', Nat.mod_mul (a := 10) (b := 10 ^ k)]
    congr 1; ring

/-- A number below 2^69 is read back from its 21 digits (05 R77). -/
theorem codeNumber_digitChars (n : Nat) (h : n < 2 ^ 69) : codeNumber (digitChars 21 n) = some n := by
  have e : n % 10 ^ 21 = n := Nat.mod_eq_of_lt (lt_of_lt_of_le h (by norm_num))
  rw [codeNumber, if_pos (length_digitChars 21 n), digitsFrom_digitChars, e]
  simp only [Nat.zero_mul, Nat.zero_add, h, if_true]

/-- The code whose block has a body and a tag (05, block table). -/
def codeWith (body : BitVec 53) (tag : BitVec 16) : Code := codeOf (body ++ tag)

theorem codeWith_fields (body : BitVec 53) (tag : BitVec 16) :
    codeWith body tag = ⟨(body.extractLsb' 49 4).toNat, (body.extractLsb' 33 16).toNat,
      (body.extractLsb' 21 12).toNat, body.extractLsb' 0 21, tag, body⟩ := by
  have h : ∀ lo w : Nat, lo + w ≤ 53 → (body ++ tag).extractLsb' (lo + 16) w = body.extractLsb' lo w := by
    intro lo w hw
    apply BitVec.eq_of_getLsbD_eq
    intro i hi
    have a := BitVec.getLsbD_append (x := body) (y := tag) (i := lo + 16 + i)
    simp only [BitVec.getLsbD_extractLsb', hi, decide_true, Bool.true_and]
    rw [a, if_neg (by omega), Nat.add_right_comm, Nat.add_sub_cancel]
  have t : (body ++ tag).extractLsb' 0 16 = tag := by
    apply BitVec.eq_of_getLsbD_eq
    intro i hi
    have a := BitVec.getLsbD_append (x := body) (y := tag) (i := 0 + i)
    simp only [BitVec.getLsbD_extractLsb', hi, decide_true, Bool.true_and]
    rw [a, if_pos (by omega), Nat.zero_add]
  have b : body.extractLsb' 0 53 = body := by
    apply BitVec.eq_of_getLsbD_eq
    intro i hi
    simp [hi]
  simp only [codeWith, codeOf]
  rw [h 49 4 (by omega), h 33 16 (by omega), h 21 12 (by omega), h 0 21 (by omega), h 0 53 (by omega), t, b]

/-- Digits that spell a block under a key (05 R78). -/
def charsFor (key : BitVec 64) (body : BitVec 53) (tag : BitVec 16) : List Byte :=
  digitChars 21 ((Config.codeTransform key).symm (body ++ tag)).toNat

theorem charsFor_spell (key : BitVec 64) (body : BitVec 53) (tag : BitVec 16) :
    ∃ n, codeNumber (charsFor key body tag) = some n ∧ decodeCode key n = codeWith body tag :=
  ⟨_, codeNumber_digitChars _ (BitVec.isLt _), by
    rw [decodeCode, BitVec.ofNat_toNat, BitVec.setWidth_eq, Equiv.apply_symm_apply, codeWith]⟩

/-- The authentic code of a body. -/
def codeFor (key : BitVec 64) (body : BitVec 53) : Code := codeWith body (Config.codeCheck key body)

theorem codeFor_authentic (key : BitVec 64) (body : BitVec 53) : (codeFor key body).authentic key = true := by
  rw [codeFor, codeWith_fields, Code.authentic]; simp

/-- Every body can be presented as an authentic code. -/
theorem presents_codeFor (s : State) (src : Source) (body : BitVec 53) (hr : s.ready) (ha : s.ps.power = .active)
    (hw : s.ps.write = none) (hn : s.ce.keys.attempts.get src ≠ 0) :
    s.presents src (charsFor s.ce.keys.meterKey body (Config.codeCheck s.ce.keys.meterKey body))
      (codeFor s.ce.keys.meterKey body) :=
  ⟨hr, ha, hw, hn, charsFor_spell _ _ _, codeFor_authentic _ _⟩

end Sys2Proof.Machine
end

