-- ==== Sys2Proof/Laws/State.lean ====
section
/-! SUPPORT. What each setter of State gives each field, by rfl. -/

namespace Sys2Proof.Machine

@[simp] theorem State.setParams_params (s : State) (x : Params) : (s.setParams x).params = x := rfl
@[simp] theorem State.setParams_mli (s : State) (x : Params) : (s.setParams x).mli = s.mli := rfl
@[simp] theorem State.setParams_be (s : State) (x : Params) : (s.setParams x).be = s.be := rfl
@[simp] theorem State.setParams_tc (s : State) (x : Params) : (s.setParams x).tc = s.tc := rfl
@[simp] theorem State.setParams_cl (s : State) (x : Params) : (s.setParams x).cl = s.cl := rfl
@[simp] theorem State.setParams_ce (s : State) (x : Params) : (s.setParams x).ce = s.ce := rfl
@[simp] theorem State.setParams_sss (s : State) (x : Params) : (s.setParams x).sss = s.sss := rfl
@[simp] theorem State.setParams_ll (s : State) (x : Params) : (s.setParams x).ll = s.ll := rfl
@[simp] theorem State.setParams_tm (s : State) (x : Params) : (s.setParams x).tm = s.tm := rfl
@[simp] theorem State.setParams_tl (s : State) (x : Params) : (s.setParams x).tl = s.tl := rfl
@[simp] theorem State.setParams_ps (s : State) (x : Params) : (s.setParams x).ps = s.ps := rfl
@[simp] theorem State.setParams_hlc (s : State) (x : Params) : (s.setParams x).hlc = s.hlc := rfl
@[simp] theorem State.setParams_pins (s : State) (x : Params) : (s.setParams x).pins = s.pins := rfl
@[simp] theorem State.setParams_free (s : State) (x : Params) : (s.setParams x).free = s.free := rfl
@[simp] theorem State.setParams_pending (s : State) (x : Params) : (s.setParams x).pending = s.pending := rfl

@[simp] theorem State.setMli_params (s : State) (x : Mli) : (s.setMli x).params = s.params := rfl
@[simp] theorem State.setMli_mli (s : State) (x : Mli) : (s.setMli x).mli = x := rfl
@[simp] theorem State.setMli_be (s : State) (x : Mli) : (s.setMli x).be = s.be := rfl
@[simp] theorem State.setMli_tc (s : State) (x : Mli) : (s.setMli x).tc = s.tc := rfl
@[simp] theorem State.setMli_cl (s : State) (x : Mli) : (s.setMli x).cl = s.cl := rfl
@[simp] theorem State.setMli_ce (s : State) (x : Mli) : (s.setMli x).ce = s.ce := rfl
@[simp] theorem State.setMli_sss (s : State) (x : Mli) : (s.setMli x).sss = s.sss := rfl
@[simp] theorem State.setMli_ll (s : State) (x : Mli) : (s.setMli x).ll = s.ll := rfl
@[simp] theorem State.setMli_tm (s : State) (x : Mli) : (s.setMli x).tm = s.tm := rfl
@[simp] theorem State.setMli_tl (s : State) (x : Mli) : (s.setMli x).tl = s.tl := rfl
@[simp] theorem State.setMli_ps (s : State) (x : Mli) : (s.setMli x).ps = s.ps := rfl
@[simp] theorem State.setMli_hlc (s : State) (x : Mli) : (s.setMli x).hlc = s.hlc := rfl
@[simp] theorem State.setMli_pins (s : State) (x : Mli) : (s.setMli x).pins = s.pins := rfl
@[simp] theorem State.setMli_free (s : State) (x : Mli) : (s.setMli x).free = s.free := rfl
@[simp] theorem State.setMli_pending (s : State) (x : Mli) : (s.setMli x).pending = s.pending := rfl

@[simp] theorem State.setBe_params (s : State) (x : Be) : (s.setBe x).params = s.params := rfl
@[simp] theorem State.setBe_mli (s : State) (x : Be) : (s.setBe x).mli = s.mli := rfl
@[simp] theorem State.setBe_be (s : State) (x : Be) : (s.setBe x).be = x := rfl
@[simp] theorem State.setBe_tc (s : State) (x : Be) : (s.setBe x).tc = s.tc := rfl
@[simp] theorem State.setBe_cl (s : State) (x : Be) : (s.setBe x).cl = s.cl := rfl
@[simp] theorem State.setBe_ce (s : State) (x : Be) : (s.setBe x).ce = s.ce := rfl
@[simp] theorem State.setBe_sss (s : State) (x : Be) : (s.setBe x).sss = s.sss := rfl
@[simp] theorem State.setBe_ll (s : State) (x : Be) : (s.setBe x).ll = s.ll := rfl
@[simp] theorem State.setBe_tm (s : State) (x : Be) : (s.setBe x).tm = s.tm := rfl
@[simp] theorem State.setBe_tl (s : State) (x : Be) : (s.setBe x).tl = s.tl := rfl
@[simp] theorem State.setBe_ps (s : State) (x : Be) : (s.setBe x).ps = s.ps := rfl
@[simp] theorem State.setBe_hlc (s : State) (x : Be) : (s.setBe x).hlc = s.hlc := rfl
@[simp] theorem State.setBe_pins (s : State) (x : Be) : (s.setBe x).pins = s.pins := rfl
@[simp] theorem State.setBe_free (s : State) (x : Be) : (s.setBe x).free = s.free := rfl
@[simp] theorem State.setBe_pending (s : State) (x : Be) : (s.setBe x).pending = s.pending := rfl

@[simp] theorem State.setTc_params (s : State) (x : Tc) : (s.setTc x).params = s.params := rfl
@[simp] theorem State.setTc_mli (s : State) (x : Tc) : (s.setTc x).mli = s.mli := rfl
@[simp] theorem State.setTc_be (s : State) (x : Tc) : (s.setTc x).be = s.be := rfl
@[simp] theorem State.setTc_tc (s : State) (x : Tc) : (s.setTc x).tc = x := rfl
@[simp] theorem State.setTc_cl (s : State) (x : Tc) : (s.setTc x).cl = s.cl := rfl
@[simp] theorem State.setTc_ce (s : State) (x : Tc) : (s.setTc x).ce = s.ce := rfl
@[simp] theorem State.setTc_sss (s : State) (x : Tc) : (s.setTc x).sss = s.sss := rfl
@[simp] theorem State.setTc_ll (s : State) (x : Tc) : (s.setTc x).ll = s.ll := rfl
@[simp] theorem State.setTc_tm (s : State) (x : Tc) : (s.setTc x).tm = s.tm := rfl
@[simp] theorem State.setTc_tl (s : State) (x : Tc) : (s.setTc x).tl = s.tl := rfl
@[simp] theorem State.setTc_ps (s : State) (x : Tc) : (s.setTc x).ps = s.ps := rfl
@[simp] theorem State.setTc_hlc (s : State) (x : Tc) : (s.setTc x).hlc = s.hlc := rfl
@[simp] theorem State.setTc_pins (s : State) (x : Tc) : (s.setTc x).pins = s.pins := rfl
@[simp] theorem State.setTc_free (s : State) (x : Tc) : (s.setTc x).free = s.free := rfl
@[simp] theorem State.setTc_pending (s : State) (x : Tc) : (s.setTc x).pending = s.pending := rfl

@[simp] theorem State.setCl_params (s : State) (x : Cl) : (s.setCl x).params = s.params := rfl
@[simp] theorem State.setCl_mli (s : State) (x : Cl) : (s.setCl x).mli = s.mli := rfl
@[simp] theorem State.setCl_be (s : State) (x : Cl) : (s.setCl x).be = s.be := rfl
@[simp] theorem State.setCl_tc (s : State) (x : Cl) : (s.setCl x).tc = s.tc := rfl
@[simp] theorem State.setCl_cl (s : State) (x : Cl) : (s.setCl x).cl = x := rfl
@[simp] theorem State.setCl_ce (s : State) (x : Cl) : (s.setCl x).ce = s.ce := rfl
@[simp] theorem State.setCl_sss (s : State) (x : Cl) : (s.setCl x).sss = s.sss := rfl
@[simp] theorem State.setCl_ll (s : State) (x : Cl) : (s.setCl x).ll = s.ll := rfl
@[simp] theorem State.setCl_tm (s : State) (x : Cl) : (s.setCl x).tm = s.tm := rfl
@[simp] theorem State.setCl_tl (s : State) (x : Cl) : (s.setCl x).tl = s.tl := rfl
@[simp] theorem State.setCl_ps (s : State) (x : Cl) : (s.setCl x).ps = s.ps := rfl
@[simp] theorem State.setCl_hlc (s : State) (x : Cl) : (s.setCl x).hlc = s.hlc := rfl
@[simp] theorem State.setCl_pins (s : State) (x : Cl) : (s.setCl x).pins = s.pins := rfl
@[simp] theorem State.setCl_free (s : State) (x : Cl) : (s.setCl x).free = s.free := rfl
@[simp] theorem State.setCl_pending (s : State) (x : Cl) : (s.setCl x).pending = s.pending := rfl

@[simp] theorem State.setCe_params (s : State) (x : Ce) : (s.setCe x).params = s.params := rfl
@[simp] theorem State.setCe_mli (s : State) (x : Ce) : (s.setCe x).mli = s.mli := rfl
@[simp] theorem State.setCe_be (s : State) (x : Ce) : (s.setCe x).be = s.be := rfl
@[simp] theorem State.setCe_tc (s : State) (x : Ce) : (s.setCe x).tc = s.tc := rfl
@[simp] theorem State.setCe_cl (s : State) (x : Ce) : (s.setCe x).cl = s.cl := rfl
@[simp] theorem State.setCe_ce (s : State) (x : Ce) : (s.setCe x).ce = x := rfl
@[simp] theorem State.setCe_sss (s : State) (x : Ce) : (s.setCe x).sss = s.sss := rfl
@[simp] theorem State.setCe_ll (s : State) (x : Ce) : (s.setCe x).ll = s.ll := rfl
@[simp] theorem State.setCe_tm (s : State) (x : Ce) : (s.setCe x).tm = s.tm := rfl
@[simp] theorem State.setCe_tl (s : State) (x : Ce) : (s.setCe x).tl = s.tl := rfl
@[simp] theorem State.setCe_ps (s : State) (x : Ce) : (s.setCe x).ps = s.ps := rfl
@[simp] theorem State.setCe_hlc (s : State) (x : Ce) : (s.setCe x).hlc = s.hlc := rfl
@[simp] theorem State.setCe_pins (s : State) (x : Ce) : (s.setCe x).pins = s.pins := rfl
@[simp] theorem State.setCe_free (s : State) (x : Ce) : (s.setCe x).free = s.free := rfl
@[simp] theorem State.setCe_pending (s : State) (x : Ce) : (s.setCe x).pending = s.pending := rfl

@[simp] theorem State.setSss_params (s : State) (x : Sss) : (s.setSss x).params = s.params := rfl
@[simp] theorem State.setSss_mli (s : State) (x : Sss) : (s.setSss x).mli = s.mli := rfl
@[simp] theorem State.setSss_be (s : State) (x : Sss) : (s.setSss x).be = s.be := rfl
@[simp] theorem State.setSss_tc (s : State) (x : Sss) : (s.setSss x).tc = s.tc := rfl
@[simp] theorem State.setSss_cl (s : State) (x : Sss) : (s.setSss x).cl = s.cl := rfl
@[simp] theorem State.setSss_ce (s : State) (x : Sss) : (s.setSss x).ce = s.ce := rfl
@[simp] theorem State.setSss_sss (s : State) (x : Sss) : (s.setSss x).sss = x := rfl
@[simp] theorem State.setSss_ll (s : State) (x : Sss) : (s.setSss x).ll = s.ll := rfl
@[simp] theorem State.setSss_tm (s : State) (x : Sss) : (s.setSss x).tm = s.tm := rfl
@[simp] theorem State.setSss_tl (s : State) (x : Sss) : (s.setSss x).tl = s.tl := rfl
@[simp] theorem State.setSss_ps (s : State) (x : Sss) : (s.setSss x).ps = s.ps := rfl
@[simp] theorem State.setSss_hlc (s : State) (x : Sss) : (s.setSss x).hlc = s.hlc := rfl
@[simp] theorem State.setSss_pins (s : State) (x : Sss) : (s.setSss x).pins = s.pins := rfl
@[simp] theorem State.setSss_free (s : State) (x : Sss) : (s.setSss x).free = s.free := rfl
@[simp] theorem State.setSss_pending (s : State) (x : Sss) : (s.setSss x).pending = s.pending := rfl

@[simp] theorem State.setLl_params (s : State) (x : Ll) : (s.setLl x).params = s.params := rfl
@[simp] theorem State.setLl_mli (s : State) (x : Ll) : (s.setLl x).mli = s.mli := rfl
@[simp] theorem State.setLl_be (s : State) (x : Ll) : (s.setLl x).be = s.be := rfl
@[simp] theorem State.setLl_tc (s : State) (x : Ll) : (s.setLl x).tc = s.tc := rfl
@[simp] theorem State.setLl_cl (s : State) (x : Ll) : (s.setLl x).cl = s.cl := rfl
@[simp] theorem State.setLl_ce (s : State) (x : Ll) : (s.setLl x).ce = s.ce := rfl
@[simp] theorem State.setLl_sss (s : State) (x : Ll) : (s.setLl x).sss = s.sss := rfl
@[simp] theorem State.setLl_ll (s : State) (x : Ll) : (s.setLl x).ll = x := rfl
@[simp] theorem State.setLl_tm (s : State) (x : Ll) : (s.setLl x).tm = s.tm := rfl
@[simp] theorem State.setLl_tl (s : State) (x : Ll) : (s.setLl x).tl = s.tl := rfl
@[simp] theorem State.setLl_ps (s : State) (x : Ll) : (s.setLl x).ps = s.ps := rfl
@[simp] theorem State.setLl_hlc (s : State) (x : Ll) : (s.setLl x).hlc = s.hlc := rfl
@[simp] theorem State.setLl_pins (s : State) (x : Ll) : (s.setLl x).pins = s.pins := rfl
@[simp] theorem State.setLl_free (s : State) (x : Ll) : (s.setLl x).free = s.free := rfl
@[simp] theorem State.setLl_pending (s : State) (x : Ll) : (s.setLl x).pending = s.pending := rfl

@[simp] theorem State.setTm_params (s : State) (x : Tm) : (s.setTm x).params = s.params := rfl
@[simp] theorem State.setTm_mli (s : State) (x : Tm) : (s.setTm x).mli = s.mli := rfl
@[simp] theorem State.setTm_be (s : State) (x : Tm) : (s.setTm x).be = s.be := rfl
@[simp] theorem State.setTm_tc (s : State) (x : Tm) : (s.setTm x).tc = s.tc := rfl
@[simp] theorem State.setTm_cl (s : State) (x : Tm) : (s.setTm x).cl = s.cl := rfl
@[simp] theorem State.setTm_ce (s : State) (x : Tm) : (s.setTm x).ce = s.ce := rfl
@[simp] theorem State.setTm_sss (s : State) (x : Tm) : (s.setTm x).sss = s.sss := rfl
@[simp] theorem State.setTm_ll (s : State) (x : Tm) : (s.setTm x).ll = s.ll := rfl
@[simp] theorem State.setTm_tm (s : State) (x : Tm) : (s.setTm x).tm = x := rfl
@[simp] theorem State.setTm_tl (s : State) (x : Tm) : (s.setTm x).tl = s.tl := rfl
@[simp] theorem State.setTm_ps (s : State) (x : Tm) : (s.setTm x).ps = s.ps := rfl
@[simp] theorem State.setTm_hlc (s : State) (x : Tm) : (s.setTm x).hlc = s.hlc := rfl
@[simp] theorem State.setTm_pins (s : State) (x : Tm) : (s.setTm x).pins = s.pins := rfl
@[simp] theorem State.setTm_free (s : State) (x : Tm) : (s.setTm x).free = s.free := rfl
@[simp] theorem State.setTm_pending (s : State) (x : Tm) : (s.setTm x).pending = s.pending := rfl

@[simp] theorem State.setTl_params (s : State) (x : Tl) : (s.setTl x).params = s.params := rfl
@[simp] theorem State.setTl_mli (s : State) (x : Tl) : (s.setTl x).mli = s.mli := rfl
@[simp] theorem State.setTl_be (s : State) (x : Tl) : (s.setTl x).be = s.be := rfl
@[simp] theorem State.setTl_tc (s : State) (x : Tl) : (s.setTl x).tc = s.tc := rfl
@[simp] theorem State.setTl_cl (s : State) (x : Tl) : (s.setTl x).cl = s.cl := rfl
@[simp] theorem State.setTl_ce (s : State) (x : Tl) : (s.setTl x).ce = s.ce := rfl
@[simp] theorem State.setTl_sss (s : State) (x : Tl) : (s.setTl x).sss = s.sss := rfl
@[simp] theorem State.setTl_ll (s : State) (x : Tl) : (s.setTl x).ll = s.ll := rfl
@[simp] theorem State.setTl_tm (s : State) (x : Tl) : (s.setTl x).tm = s.tm := rfl
@[simp] theorem State.setTl_tl (s : State) (x : Tl) : (s.setTl x).tl = x := rfl
@[simp] theorem State.setTl_ps (s : State) (x : Tl) : (s.setTl x).ps = s.ps := rfl
@[simp] theorem State.setTl_hlc (s : State) (x : Tl) : (s.setTl x).hlc = s.hlc := rfl
@[simp] theorem State.setTl_pins (s : State) (x : Tl) : (s.setTl x).pins = s.pins := rfl
@[simp] theorem State.setTl_free (s : State) (x : Tl) : (s.setTl x).free = s.free := rfl
@[simp] theorem State.setTl_pending (s : State) (x : Tl) : (s.setTl x).pending = s.pending := rfl

@[simp] theorem State.setPs_params (s : State) (x : Ps) : (s.setPs x).params = s.params := rfl
@[simp] theorem State.setPs_mli (s : State) (x : Ps) : (s.setPs x).mli = s.mli := rfl
@[simp] theorem State.setPs_be (s : State) (x : Ps) : (s.setPs x).be = s.be := rfl
@[simp] theorem State.setPs_tc (s : State) (x : Ps) : (s.setPs x).tc = s.tc := rfl
@[simp] theorem State.setPs_cl (s : State) (x : Ps) : (s.setPs x).cl = s.cl := rfl
@[simp] theorem State.setPs_ce (s : State) (x : Ps) : (s.setPs x).ce = s.ce := rfl
@[simp] theorem State.setPs_sss (s : State) (x : Ps) : (s.setPs x).sss = s.sss := rfl
@[simp] theorem State.setPs_ll (s : State) (x : Ps) : (s.setPs x).ll = s.ll := rfl
@[simp] theorem State.setPs_tm (s : State) (x : Ps) : (s.setPs x).tm = s.tm := rfl
@[simp] theorem State.setPs_tl (s : State) (x : Ps) : (s.setPs x).tl = s.tl := rfl
@[simp] theorem State.setPs_ps (s : State) (x : Ps) : (s.setPs x).ps = x := rfl
@[simp] theorem State.setPs_hlc (s : State) (x : Ps) : (s.setPs x).hlc = s.hlc := rfl
@[simp] theorem State.setPs_pins (s : State) (x : Ps) : (s.setPs x).pins = s.pins := rfl
@[simp] theorem State.setPs_free (s : State) (x : Ps) : (s.setPs x).free = s.free := rfl
@[simp] theorem State.setPs_pending (s : State) (x : Ps) : (s.setPs x).pending = s.pending := rfl

@[simp] theorem State.setHlc_params (s : State) (x : Hlc) : (s.setHlc x).params = s.params := rfl
@[simp] theorem State.setHlc_mli (s : State) (x : Hlc) : (s.setHlc x).mli = s.mli := rfl
@[simp] theorem State.setHlc_be (s : State) (x : Hlc) : (s.setHlc x).be = s.be := rfl
@[simp] theorem State.setHlc_tc (s : State) (x : Hlc) : (s.setHlc x).tc = s.tc := rfl
@[simp] theorem State.setHlc_cl (s : State) (x : Hlc) : (s.setHlc x).cl = s.cl := rfl
@[simp] theorem State.setHlc_ce (s : State) (x : Hlc) : (s.setHlc x).ce = s.ce := rfl
@[simp] theorem State.setHlc_sss (s : State) (x : Hlc) : (s.setHlc x).sss = s.sss := rfl
@[simp] theorem State.setHlc_ll (s : State) (x : Hlc) : (s.setHlc x).ll = s.ll := rfl
@[simp] theorem State.setHlc_tm (s : State) (x : Hlc) : (s.setHlc x).tm = s.tm := rfl
@[simp] theorem State.setHlc_tl (s : State) (x : Hlc) : (s.setHlc x).tl = s.tl := rfl
@[simp] theorem State.setHlc_ps (s : State) (x : Hlc) : (s.setHlc x).ps = s.ps := rfl
@[simp] theorem State.setHlc_hlc (s : State) (x : Hlc) : (s.setHlc x).hlc = x := rfl
@[simp] theorem State.setHlc_pins (s : State) (x : Hlc) : (s.setHlc x).pins = s.pins := rfl
@[simp] theorem State.setHlc_free (s : State) (x : Hlc) : (s.setHlc x).free = s.free := rfl
@[simp] theorem State.setHlc_pending (s : State) (x : Hlc) : (s.setHlc x).pending = s.pending := rfl

@[simp] theorem State.setPins_params (s : State) (x : Pins) : (s.setPins x).params = s.params := rfl
@[simp] theorem State.setPins_mli (s : State) (x : Pins) : (s.setPins x).mli = s.mli := rfl
@[simp] theorem State.setPins_be (s : State) (x : Pins) : (s.setPins x).be = s.be := rfl
@[simp] theorem State.setPins_tc (s : State) (x : Pins) : (s.setPins x).tc = s.tc := rfl
@[simp] theorem State.setPins_cl (s : State) (x : Pins) : (s.setPins x).cl = s.cl := rfl
@[simp] theorem State.setPins_ce (s : State) (x : Pins) : (s.setPins x).ce = s.ce := rfl
@[simp] theorem State.setPins_sss (s : State) (x : Pins) : (s.setPins x).sss = s.sss := rfl
@[simp] theorem State.setPins_ll (s : State) (x : Pins) : (s.setPins x).ll = s.ll := rfl
@[simp] theorem State.setPins_tm (s : State) (x : Pins) : (s.setPins x).tm = s.tm := rfl
@[simp] theorem State.setPins_tl (s : State) (x : Pins) : (s.setPins x).tl = s.tl := rfl
@[simp] theorem State.setPins_ps (s : State) (x : Pins) : (s.setPins x).ps = s.ps := rfl
@[simp] theorem State.setPins_hlc (s : State) (x : Pins) : (s.setPins x).hlc = s.hlc := rfl
@[simp] theorem State.setPins_pins (s : State) (x : Pins) : (s.setPins x).pins = x := rfl
@[simp] theorem State.setPins_free (s : State) (x : Pins) : (s.setPins x).free = s.free := rfl
@[simp] theorem State.setPins_pending (s : State) (x : Pins) : (s.setPins x).pending = s.pending := rfl

@[simp] theorem State.setFree_params (s : State) (x : Nat) : (s.setFree x).params = s.params := rfl
@[simp] theorem State.setFree_mli (s : State) (x : Nat) : (s.setFree x).mli = s.mli := rfl
@[simp] theorem State.setFree_be (s : State) (x : Nat) : (s.setFree x).be = s.be := rfl
@[simp] theorem State.setFree_tc (s : State) (x : Nat) : (s.setFree x).tc = s.tc := rfl
@[simp] theorem State.setFree_cl (s : State) (x : Nat) : (s.setFree x).cl = s.cl := rfl
@[simp] theorem State.setFree_ce (s : State) (x : Nat) : (s.setFree x).ce = s.ce := rfl
@[simp] theorem State.setFree_sss (s : State) (x : Nat) : (s.setFree x).sss = s.sss := rfl
@[simp] theorem State.setFree_ll (s : State) (x : Nat) : (s.setFree x).ll = s.ll := rfl
@[simp] theorem State.setFree_tm (s : State) (x : Nat) : (s.setFree x).tm = s.tm := rfl
@[simp] theorem State.setFree_tl (s : State) (x : Nat) : (s.setFree x).tl = s.tl := rfl
@[simp] theorem State.setFree_ps (s : State) (x : Nat) : (s.setFree x).ps = s.ps := rfl
@[simp] theorem State.setFree_hlc (s : State) (x : Nat) : (s.setFree x).hlc = s.hlc := rfl
@[simp] theorem State.setFree_pins (s : State) (x : Nat) : (s.setFree x).pins = s.pins := rfl
@[simp] theorem State.setFree_free (s : State) (x : Nat) : (s.setFree x).free = x := rfl
@[simp] theorem State.setFree_pending (s : State) (x : Nat) : (s.setFree x).pending = s.pending := rfl

@[simp] theorem State.setPending_params (s : State) (x : (List Instr)) : (s.setPending x).params = s.params := rfl
@[simp] theorem State.setPending_mli (s : State) (x : (List Instr)) : (s.setPending x).mli = s.mli := rfl
@[simp] theorem State.setPending_be (s : State) (x : (List Instr)) : (s.setPending x).be = s.be := rfl
@[simp] theorem State.setPending_tc (s : State) (x : (List Instr)) : (s.setPending x).tc = s.tc := rfl
@[simp] theorem State.setPending_cl (s : State) (x : (List Instr)) : (s.setPending x).cl = s.cl := rfl
@[simp] theorem State.setPending_ce (s : State) (x : (List Instr)) : (s.setPending x).ce = s.ce := rfl
@[simp] theorem State.setPending_sss (s : State) (x : (List Instr)) : (s.setPending x).sss = s.sss := rfl
@[simp] theorem State.setPending_ll (s : State) (x : (List Instr)) : (s.setPending x).ll = s.ll := rfl
@[simp] theorem State.setPending_tm (s : State) (x : (List Instr)) : (s.setPending x).tm = s.tm := rfl
@[simp] theorem State.setPending_tl (s : State) (x : (List Instr)) : (s.setPending x).tl = s.tl := rfl
@[simp] theorem State.setPending_ps (s : State) (x : (List Instr)) : (s.setPending x).ps = s.ps := rfl
@[simp] theorem State.setPending_hlc (s : State) (x : (List Instr)) : (s.setPending x).hlc = s.hlc := rfl
@[simp] theorem State.setPending_pins (s : State) (x : (List Instr)) : (s.setPending x).pins = s.pins := rfl
@[simp] theorem State.setPending_free (s : State) (x : (List Instr)) : (s.setPending x).free = s.free := rfl
@[simp] theorem State.setPending_pending (s : State) (x : (List Instr)) : (s.setPending x).pending = x := rfl

end Sys2Proof.Machine
end

