-- ==== Sys2Proof/Laws/Frames.lean ====
section
/-! SUPPORT. Frames: for every shared operation, the fields it leaves as they are. -/

namespace Sys2Proof.Machine

/-- A fold of an operation that keeps a view keeps it. -/
theorem foldl_keeps {α β : Type} (f : State → α) (g : State → β → State) (h : ∀ t x, f (g t x) = f t)
    (l : List β) (s : State) : f (l.foldl g s) = f s := by
  induction l generalizing s with
  | nil => rfl
  | cons x l ih => rw [List.foldl_cons, ih, h]

@[simp] theorem raiseAt_frame (body : NoticeBody) (seconds : Nat) (s : State) :
    (raiseAt body seconds s).params = s.params ∧ (raiseAt body seconds s).mli = s.mli ∧
    (raiseAt body seconds s).be = s.be ∧ (raiseAt body seconds s).tc = s.tc ∧
    (raiseAt body seconds s).cl = s.cl ∧ (raiseAt body seconds s).ce = s.ce ∧
    (raiseAt body seconds s).sss = s.sss ∧ (raiseAt body seconds s).ll = s.ll ∧
    (raiseAt body seconds s).tm = s.tm ∧ (raiseAt body seconds s).tl = s.tl ∧
    (raiseAt body seconds s).ps = s.ps ∧ (raiseAt body seconds s).pins = s.pins ∧
    (raiseAt body seconds s).free = s.free ∧ (raiseAt body seconds s).pending = s.pending := by simp [raiseAt]

@[simp] theorem raise_frame (body : NoticeBody) (s : State) :
    (raise body s).params = s.params ∧ (raise body s).mli = s.mli ∧ (raise body s).be = s.be ∧
    (raise body s).tc = s.tc ∧ (raise body s).cl = s.cl ∧ (raise body s).ce = s.ce ∧
    (raise body s).sss = s.sss ∧ (raise body s).ll = s.ll ∧ (raise body s).tm = s.tm ∧
    (raise body s).tl = s.tl ∧ (raise body s).ps = s.ps ∧ (raise body s).pins = s.pins ∧
    (raise body s).free = s.free ∧ (raise body s).pending = s.pending := by simp [raise]

@[simp] theorem State_countDraw_frame (s : State) :
    (State.countDraw s).params = s.params ∧ (State.countDraw s).mli = s.mli ∧ (State.countDraw s).be = s.be ∧
    (State.countDraw s).tc = s.tc ∧ (State.countDraw s).cl = s.cl ∧ (State.countDraw s).ce = s.ce ∧
    (State.countDraw s).sss = s.sss ∧ (State.countDraw s).ll = s.ll ∧ (State.countDraw s).tm = s.tm ∧
    (State.countDraw s).tl = s.tl ∧ (State.countDraw s).ps = s.ps ∧ (State.countDraw s).hlc = s.hlc ∧
    (State.countDraw s).pins = s.pins ∧ (State.countDraw s).pending = s.pending := by simp [State.countDraw]

@[simp] theorem verifiedClose_frame (s : State) :
    (verifiedClose s).params = s.params ∧ (verifiedClose s).mli = s.mli ∧ (verifiedClose s).be = s.be ∧
    (verifiedClose s).tc = s.tc ∧ (verifiedClose s).cl = s.cl ∧ (verifiedClose s).ce = s.ce ∧
    (verifiedClose s).sss = s.sss ∧ (verifiedClose s).tm = s.tm ∧ (verifiedClose s).tl = s.tl ∧
    (verifiedClose s).ps = s.ps ∧ (verifiedClose s).hlc = s.hlc ∧ (verifiedClose s).pins = s.pins ∧
    (verifiedClose s).free = s.free ∧ (verifiedClose s).pending = s.pending := by
  simp only [verifiedClose]
  (repeat' split) <;> simp

@[simp] theorem raiseSupply_frame (s : State) :
    (raiseSupply s).params = s.params ∧ (raiseSupply s).mli = s.mli ∧ (raiseSupply s).be = s.be ∧
    (raiseSupply s).tc = s.tc ∧ (raiseSupply s).cl = s.cl ∧ (raiseSupply s).ce = s.ce ∧
    (raiseSupply s).sss = s.sss ∧ (raiseSupply s).ll = s.ll ∧ (raiseSupply s).tm = s.tm ∧
    (raiseSupply s).tl = s.tl ∧ (raiseSupply s).ps = s.ps ∧ (raiseSupply s).pins = s.pins ∧
    (raiseSupply s).free = s.free ∧ (raiseSupply s).pending = s.pending := by simp [raiseSupply]

@[simp] theorem startPulse_frame (s : State) :
    (startPulse s).params = s.params ∧ (startPulse s).mli = s.mli ∧ (startPulse s).be = s.be ∧
    (startPulse s).tc = s.tc ∧ (startPulse s).cl = s.cl ∧ (startPulse s).ce = s.ce ∧ (startPulse s).ll = s.ll ∧
    (startPulse s).tm = s.tm ∧ (startPulse s).tl = s.tl ∧ (startPulse s).ps = s.ps ∧
    (startPulse s).hlc = s.hlc ∧ (startPulse s).pins = s.pins ∧ (startPulse s).free = s.free ∧
    (startPulse s).pending = s.pending := by simp [startPulse]

@[simp] theorem startOpening_frame (limit : Nat) (s : State) :
    (startOpening limit s).params = s.params ∧ (startOpening limit s).mli = s.mli ∧
    (startOpening limit s).be = s.be ∧ (startOpening limit s).tc = s.tc ∧ (startOpening limit s).cl = s.cl ∧
    (startOpening limit s).ce = s.ce ∧ (startOpening limit s).ll = s.ll ∧ (startOpening limit s).tm = s.tm ∧
    (startOpening limit s).tl = s.tl ∧ (startOpening limit s).ps = s.ps ∧ (startOpening limit s).hlc = s.hlc ∧
    (startOpening limit s).pins = s.pins ∧ (startOpening limit s).free = s.free ∧
    (startOpening limit s).pending = s.pending := by simp [startOpening]

@[simp] theorem closeAttempt_frame (s : State) :
    (closeAttempt s).params = s.params ∧ (closeAttempt s).mli = s.mli ∧ (closeAttempt s).be = s.be ∧
    (closeAttempt s).tc = s.tc ∧ (closeAttempt s).cl = s.cl ∧ (closeAttempt s).ce = s.ce ∧
    (closeAttempt s).ll = s.ll ∧ (closeAttempt s).tm = s.tm ∧ (closeAttempt s).tl = s.tl ∧
    (closeAttempt s).ps = s.ps ∧ (closeAttempt s).hlc = s.hlc ∧ (closeAttempt s).pins = s.pins ∧
    (closeAttempt s).free = s.free ∧ (closeAttempt s).pending = s.pending := by
  simp only [closeAttempt]
  (repeat' split) <;> simp

@[simp] theorem startClosing_frame (s : State) :
    (startClosing s).params = s.params ∧ (startClosing s).mli = s.mli ∧ (startClosing s).be = s.be ∧
    (startClosing s).tc = s.tc ∧ (startClosing s).cl = s.cl ∧ (startClosing s).ce = s.ce ∧
    (startClosing s).ll = s.ll ∧ (startClosing s).tm = s.tm ∧ (startClosing s).tl = s.tl ∧
    (startClosing s).ps = s.ps ∧ (startClosing s).hlc = s.hlc ∧ (startClosing s).pins = s.pins ∧
    (startClosing s).free = s.free ∧ (startClosing s).pending = s.pending := by simp [startClosing]

@[simp] theorem becomeArmed_frame (s : State) :
    (becomeArmed s).params = s.params ∧ (becomeArmed s).mli = s.mli ∧ (becomeArmed s).be = s.be ∧
    (becomeArmed s).tc = s.tc ∧ (becomeArmed s).cl = s.cl ∧ (becomeArmed s).ce = s.ce ∧
    (becomeArmed s).ll = s.ll ∧ (becomeArmed s).tm = s.tm ∧ (becomeArmed s).tl = s.tl ∧
    (becomeArmed s).ps = s.ps ∧ (becomeArmed s).pins = s.pins ∧ (becomeArmed s).free = s.free ∧
    (becomeArmed s).pending = s.pending := by
  simp only [becomeArmed]
  (repeat' split) <;> simp

@[simp] theorem actOnAddition_frame (s : State) :
    (actOnAddition s).params = s.params ∧ (actOnAddition s).mli = s.mli ∧ (actOnAddition s).be = s.be ∧
    (actOnAddition s).tc = s.tc ∧ (actOnAddition s).cl = s.cl ∧ (actOnAddition s).ce = s.ce ∧
    (actOnAddition s).ll = s.ll ∧ (actOnAddition s).tm = s.tm ∧ (actOnAddition s).tl = s.tl ∧
    (actOnAddition s).ps = s.ps ∧ (actOnAddition s).pins = s.pins ∧ (actOnAddition s).free = s.free ∧
    (actOnAddition s).pending = s.pending := by
  simp only [actOnAddition]
  (repeat' split) <;> simp

@[simp] theorem actOnEmptied_frame (s : State) :
    (actOnEmptied s).params = s.params ∧ (actOnEmptied s).mli = s.mli ∧ (actOnEmptied s).be = s.be ∧
    (actOnEmptied s).tc = s.tc ∧ (actOnEmptied s).cl = s.cl ∧ (actOnEmptied s).ce = s.ce ∧
    (actOnEmptied s).ll = s.ll ∧ (actOnEmptied s).tm = s.tm ∧ (actOnEmptied s).tl = s.tl ∧
    (actOnEmptied s).ps = s.ps ∧ (actOnEmptied s).pins = s.pins ∧ (actOnEmptied s).free = s.free ∧
    (actOnEmptied s).pending = s.pending := by
  simp only [actOnEmptied]
  (repeat' split) <;> simp

@[simp] theorem addReason_frame (r : Reason) (s : State) :
    (addReason r s).params = s.params ∧ (addReason r s).mli = s.mli ∧ (addReason r s).be = s.be ∧
    (addReason r s).tc = s.tc ∧ (addReason r s).cl = s.cl ∧ (addReason r s).ce = s.ce ∧
    (addReason r s).ll = s.ll ∧ (addReason r s).tm = s.tm ∧ (addReason r s).tl = s.tl ∧
    (addReason r s).ps = s.ps ∧ (addReason r s).pins = s.pins ∧ (addReason r s).free = s.free ∧
    (addReason r s).pending = s.pending := by
  simp only [addReason]
  (repeat' split) <;> simp

@[simp] theorem removeReason_frame (r : Reason) (origin : Origin) (s : State) :
    (removeReason r origin s).params = s.params ∧ (removeReason r origin s).mli = s.mli ∧
    (removeReason r origin s).be = s.be ∧ (removeReason r origin s).tc = s.tc ∧
    (removeReason r origin s).cl = s.cl ∧ (removeReason r origin s).ce = s.ce ∧
    (removeReason r origin s).ll = s.ll ∧ (removeReason r origin s).tm = s.tm ∧
    (removeReason r origin s).tl = s.tl ∧ (removeReason r origin s).ps = s.ps ∧
    (removeReason r origin s).pins = s.pins ∧ (removeReason r origin s).free = s.free ∧
    (removeReason r origin s).pending = s.pending := by
  simp only [removeReason]
  (repeat' split) <;> simp

@[simp] theorem acceptedPress_frame (s : State) :
    (acceptedPress s).params = s.params ∧ (acceptedPress s).mli = s.mli ∧ (acceptedPress s).be = s.be ∧
    (acceptedPress s).tc = s.tc ∧ (acceptedPress s).cl = s.cl ∧ (acceptedPress s).ce = s.ce ∧
    (acceptedPress s).ll = s.ll ∧ (acceptedPress s).tm = s.tm ∧ (acceptedPress s).tl = s.tl ∧
    (acceptedPress s).ps = s.ps ∧ (acceptedPress s).hlc = s.hlc ∧ (acceptedPress s).pins = s.pins ∧
    (acceptedPress s).free = s.free ∧ (acceptedPress s).pending = s.pending := by
  simp only [acceptedPress]
  (repeat' split) <;> simp

@[simp] theorem openingDone_frame (s : State) :
    (openingDone s).params = s.params ∧ (openingDone s).mli = s.mli ∧ (openingDone s).be = s.be ∧
    (openingDone s).tc = s.tc ∧ (openingDone s).cl = s.cl ∧ (openingDone s).ce = s.ce ∧
    (openingDone s).ll = s.ll ∧ (openingDone s).tm = s.tm ∧ (openingDone s).tl = s.tl ∧
    (openingDone s).ps = s.ps ∧ (openingDone s).pins = s.pins ∧ (openingDone s).free = s.free ∧
    (openingDone s).pending = s.pending := by
  simp only [openingDone]
  (repeat' split) <;> simp

@[simp] theorem faultWelded_frame (s : State) :
    (faultWelded s).params = s.params ∧ (faultWelded s).mli = s.mli ∧ (faultWelded s).be = s.be ∧
    (faultWelded s).tc = s.tc ∧ (faultWelded s).cl = s.cl ∧ (faultWelded s).ce = s.ce ∧
    (faultWelded s).ll = s.ll ∧ (faultWelded s).tm = s.tm ∧ (faultWelded s).tl = s.tl ∧
    (faultWelded s).ps = s.ps ∧ (faultWelded s).pins = s.pins ∧ (faultWelded s).free = s.free ∧
    (faultWelded s).pending = s.pending := by simp [faultWelded]

@[simp] theorem faultNoClose_frame (s : State) :
    (faultNoClose s).params = s.params ∧ (faultNoClose s).mli = s.mli ∧ (faultNoClose s).be = s.be ∧
    (faultNoClose s).tc = s.tc ∧ (faultNoClose s).cl = s.cl ∧ (faultNoClose s).ce = s.ce ∧
    (faultNoClose s).ll = s.ll ∧ (faultNoClose s).tm = s.tm ∧ (faultNoClose s).tl = s.tl ∧
    (faultNoClose s).ps = s.ps ∧ (faultNoClose s).pins = s.pins ∧ (faultNoClose s).free = s.free ∧
    (faultNoClose s).pending = s.pending := by simp [faultNoClose]

@[simp] theorem verifyOpening_frame (s : State) :
    (verifyOpening s).params = s.params ∧ (verifyOpening s).mli = s.mli ∧ (verifyOpening s).be = s.be ∧
    (verifyOpening s).tc = s.tc ∧ (verifyOpening s).cl = s.cl ∧ (verifyOpening s).ce = s.ce ∧
    (verifyOpening s).ll = s.ll ∧ (verifyOpening s).tm = s.tm ∧ (verifyOpening s).tl = s.tl ∧
    (verifyOpening s).ps = s.ps ∧ (verifyOpening s).pins = s.pins ∧ (verifyOpening s).free = s.free ∧
    (verifyOpening s).pending = s.pending := by
  simp only [verifyOpening]
  (repeat' split) <;> simp

@[simp] theorem closingDone_frame (position : Position) (s : State) :
    (closingDone position s).params = s.params ∧ (closingDone position s).mli = s.mli ∧
    (closingDone position s).be = s.be ∧ (closingDone position s).tc = s.tc ∧
    (closingDone position s).cl = s.cl ∧ (closingDone position s).ce = s.ce ∧
    (closingDone position s).ll = s.ll ∧ (closingDone position s).tm = s.tm ∧
    (closingDone position s).tl = s.tl ∧ (closingDone position s).ps = s.ps ∧
    (closingDone position s).pins = s.pins ∧ (closingDone position s).free = s.free ∧
    (closingDone position s).pending = s.pending := by simp [closingDone]

@[simp] theorem verifyClosing_frame (s : State) :
    (verifyClosing s).params = s.params ∧ (verifyClosing s).mli = s.mli ∧ (verifyClosing s).be = s.be ∧
    (verifyClosing s).tc = s.tc ∧ (verifyClosing s).cl = s.cl ∧ (verifyClosing s).ce = s.ce ∧
    (verifyClosing s).tm = s.tm ∧ (verifyClosing s).tl = s.tl ∧ (verifyClosing s).ps = s.ps ∧
    (verifyClosing s).pins = s.pins ∧ (verifyClosing s).free = s.free ∧
    (verifyClosing s).pending = s.pending := by
  simp only [verifyClosing]
  (repeat' split) <;> simp

@[simp] theorem positionCheck_frame (r : IntervalRecord) (s : State) :
    (positionCheck r s).params = s.params ∧ (positionCheck r s).mli = s.mli ∧ (positionCheck r s).be = s.be ∧
    (positionCheck r s).tc = s.tc ∧ (positionCheck r s).cl = s.cl ∧ (positionCheck r s).ce = s.ce ∧
    (positionCheck r s).tm = s.tm ∧ (positionCheck r s).tl = s.tl ∧ (positionCheck r s).ps = s.ps ∧
    (positionCheck r s).pins = s.pins ∧ (positionCheck r s).free = s.free ∧
    (positionCheck r s).pending = s.pending := by
  simp only [positionCheck]
  (repeat' split) <;> simp

@[simp] theorem actOnEntry_frame (s : State) :
    (actOnEntry s).params = s.params ∧ (actOnEntry s).mli = s.mli ∧ (actOnEntry s).be = s.be ∧
    (actOnEntry s).tc = s.tc ∧ (actOnEntry s).cl = s.cl ∧ (actOnEntry s).ce = s.ce ∧ (actOnEntry s).ll = s.ll ∧
    (actOnEntry s).tm = s.tm ∧ (actOnEntry s).tl = s.tl ∧ (actOnEntry s).ps = s.ps ∧
    (actOnEntry s).pins = s.pins ∧ (actOnEntry s).free = s.free ∧ (actOnEntry s).pending = s.pending := by
  simp only [actOnEntry]
  (repeat' split) <;> simp

@[simp] theorem enterActiveSss_frame (s : State) :
    (enterActiveSss s).params = s.params ∧ (enterActiveSss s).mli = s.mli ∧ (enterActiveSss s).be = s.be ∧
    (enterActiveSss s).tc = s.tc ∧ (enterActiveSss s).cl = s.cl ∧ (enterActiveSss s).ce = s.ce ∧
    (enterActiveSss s).ll = s.ll ∧ (enterActiveSss s).tm = s.tm ∧ (enterActiveSss s).tl = s.tl ∧
    (enterActiveSss s).ps = s.ps ∧ (enterActiveSss s).pins = s.pins ∧ (enterActiveSss s).free = s.free ∧
    (enterActiveSss s).pending = s.pending := by simp [enterActiveSss]

@[simp] theorem coilPulseEnd_frame (s : State) :
    (coilPulseEnd s).params = s.params ∧ (coilPulseEnd s).mli = s.mli ∧ (coilPulseEnd s).be = s.be ∧
    (coilPulseEnd s).tc = s.tc ∧ (coilPulseEnd s).cl = s.cl ∧ (coilPulseEnd s).ce = s.ce ∧
    (coilPulseEnd s).ll = s.ll ∧ (coilPulseEnd s).tm = s.tm ∧ (coilPulseEnd s).tl = s.tl ∧
    (coilPulseEnd s).ps = s.ps ∧ (coilPulseEnd s).hlc = s.hlc ∧ (coilPulseEnd s).pins = s.pins ∧
    (coilPulseEnd s).free = s.free ∧ (coilPulseEnd s).pending = s.pending := by
  simp only [coilPulseEnd]
  (repeat' split) <;> simp

@[simp] theorem pulseCleared_frame (s : State) :
    (pulseCleared s).params = s.params ∧ (pulseCleared s).mli = s.mli ∧ (pulseCleared s).be = s.be ∧
    (pulseCleared s).tc = s.tc ∧ (pulseCleared s).cl = s.cl ∧ (pulseCleared s).ce = s.ce ∧
    (pulseCleared s).ll = s.ll ∧ (pulseCleared s).tm = s.tm ∧ (pulseCleared s).tl = s.tl ∧
    (pulseCleared s).ps = s.ps ∧ (pulseCleared s).hlc = s.hlc ∧ (pulseCleared s).free = s.free ∧
    (pulseCleared s).pending = s.pending := by
  simp only [pulseCleared]
  (repeat' split) <;> simp

@[simp] theorem coilCutoff_frame (s : State) :
    (coilCutoff s).params = s.params ∧ (coilCutoff s).mli = s.mli ∧ (coilCutoff s).be = s.be ∧
    (coilCutoff s).tc = s.tc ∧ (coilCutoff s).cl = s.cl ∧ (coilCutoff s).ce = s.ce ∧ (coilCutoff s).ll = s.ll ∧
    (coilCutoff s).tm = s.tm ∧ (coilCutoff s).tl = s.tl ∧ (coilCutoff s).ps = s.ps ∧
    (coilCutoff s).pending = s.pending := by
  simp only [coilCutoff]
  (repeat' split) <;> simp

@[simp] theorem settleEnd_frame (loadv : PerPhase Bool) (s : State) :
    (settleEnd loadv s).params = s.params ∧ (settleEnd loadv s).mli = s.mli ∧ (settleEnd loadv s).be = s.be ∧
    (settleEnd loadv s).tc = s.tc ∧ (settleEnd loadv s).cl = s.cl ∧ (settleEnd loadv s).ce = s.ce ∧
    (settleEnd loadv s).tm = s.tm ∧ (settleEnd loadv s).tl = s.tl ∧ (settleEnd loadv s).ps = s.ps ∧
    (settleEnd loadv s).free = s.free ∧ (settleEnd loadv s).pending = s.pending := by
  simp only [settleEnd]
  (repeat' split) <;> simp

@[simp] theorem weldRetryExpiry_frame (s : State) :
    (weldRetryExpiry s).params = s.params ∧ (weldRetryExpiry s).mli = s.mli ∧ (weldRetryExpiry s).be = s.be ∧
    (weldRetryExpiry s).tc = s.tc ∧ (weldRetryExpiry s).cl = s.cl ∧ (weldRetryExpiry s).ce = s.ce ∧
    (weldRetryExpiry s).ll = s.ll ∧ (weldRetryExpiry s).tm = s.tm ∧ (weldRetryExpiry s).tl = s.tl ∧
    (weldRetryExpiry s).ps = s.ps ∧ (weldRetryExpiry s).hlc = s.hlc ∧ (weldRetryExpiry s).pins = s.pins ∧
    (weldRetryExpiry s).free = s.free ∧ (weldRetryExpiry s).pending = s.pending := by
  simp only [weldRetryExpiry]
  (repeat' split) <;> simp

@[simp] theorem State_setAcct_frame (s : State) (a : Account) :
    (State.setAcct s a).params = s.params ∧ (State.setAcct s a).mli = s.mli ∧ (State.setAcct s a).be = s.be ∧
    (State.setAcct s a).tc = s.tc ∧ (State.setAcct s a).ce = s.ce ∧ (State.setAcct s a).sss = s.sss ∧
    (State.setAcct s a).ll = s.ll ∧ (State.setAcct s a).tm = s.tm ∧ (State.setAcct s a).tl = s.tl ∧
    (State.setAcct s a).ps = s.ps ∧ (State.setAcct s a).hlc = s.hlc ∧ (State.setAcct s a).pins = s.pins ∧
    (State.setAcct s a).free = s.free ∧ (State.setAcct s a).pending = s.pending := by simp [State.setAcct]

@[simp] theorem State_holdCredit_frame (s : State) (x : Bool) :
    (State.holdCredit s x).params = s.params ∧ (State.holdCredit s x).mli = s.mli ∧
    (State.holdCredit s x).be = s.be ∧ (State.holdCredit s x).tc = s.tc ∧ (State.holdCredit s x).ce = s.ce ∧
    (State.holdCredit s x).sss = s.sss ∧ (State.holdCredit s x).ll = s.ll ∧ (State.holdCredit s x).tm = s.tm ∧
    (State.holdCredit s x).tl = s.tl ∧ (State.holdCredit s x).ps = s.ps ∧ (State.holdCredit s x).hlc = s.hlc ∧
    (State.holdCredit s x).pins = s.pins ∧ (State.holdCredit s x).free = s.free ∧
    (State.holdCredit s x).pending = s.pending := by simp [State.holdCredit]

@[simp] theorem decideCredit_frame (origin : Origin) (s : State) :
    (decideCredit origin s).params = s.params ∧ (decideCredit origin s).mli = s.mli ∧
    (decideCredit origin s).be = s.be ∧ (decideCredit origin s).tc = s.tc ∧ (decideCredit origin s).ce = s.ce ∧
    (decideCredit origin s).ll = s.ll ∧ (decideCredit origin s).tm = s.tm ∧ (decideCredit origin s).tl = s.tl ∧
    (decideCredit origin s).ps = s.ps ∧ (decideCredit origin s).pins = s.pins ∧
    (decideCredit origin s).free = s.free ∧ (decideCredit origin s).pending = s.pending := by
  simp only [decideCredit]
  (repeat' split) <;> simp

@[simp] theorem holdCreditState_frame (s : State) :
    (holdCreditState s).params = s.params ∧ (holdCreditState s).mli = s.mli ∧ (holdCreditState s).be = s.be ∧
    (holdCreditState s).tc = s.tc ∧ (holdCreditState s).ce = s.ce ∧ (holdCreditState s).sss = s.sss ∧
    (holdCreditState s).ll = s.ll ∧ (holdCreditState s).tm = s.tm ∧ (holdCreditState s).tl = s.tl ∧
    (holdCreditState s).ps = s.ps ∧ (holdCreditState s).pins = s.pins ∧ (holdCreditState s).free = s.free ∧
    (holdCreditState s).pending = s.pending := by
  simp only [holdCreditState]
  (repeat' split) <;> simp

@[simp] theorem recompute_frame (origin : Origin) (s : State) :
    (recompute origin s).params = s.params ∧ (recompute origin s).mli = s.mli ∧ (recompute origin s).be = s.be ∧
    (recompute origin s).tc = s.tc ∧ (recompute origin s).ce = s.ce ∧ (recompute origin s).ll = s.ll ∧
    (recompute origin s).tm = s.tm ∧ (recompute origin s).tl = s.tl ∧ (recompute origin s).ps = s.ps ∧
    (recompute origin s).pins = s.pins ∧ (recompute origin s).free = s.free ∧
    (recompute origin s).pending = s.pending := by simp [recompute]

@[simp] theorem addDebt_frame (cause : DebtCause) (x : Nat) (s : State) :
    (addDebt cause x s).params = s.params ∧ (addDebt cause x s).mli = s.mli ∧ (addDebt cause x s).be = s.be ∧
    (addDebt cause x s).tc = s.tc ∧ (addDebt cause x s).ce = s.ce ∧ (addDebt cause x s).sss = s.sss ∧
    (addDebt cause x s).ll = s.ll ∧ (addDebt cause x s).tm = s.tm ∧ (addDebt cause x s).tl = s.tl ∧
    (addDebt cause x s).ps = s.ps ∧ (addDebt cause x s).pins = s.pins ∧ (addDebt cause x s).free = s.free ∧
    (addDebt cause x s).pending = s.pending := by
  simp only [addDebt]
  (repeat' split) <;> simp

@[simp] theorem debit_frame (c : Nat) (s : State) :
    (debit c s).params = s.params ∧ (debit c s).mli = s.mli ∧ (debit c s).be = s.be ∧ (debit c s).tc = s.tc ∧
    (debit c s).ce = s.ce ∧ (debit c s).ll = s.ll ∧ (debit c s).tm = s.tm ∧ (debit c s).tl = s.tl ∧
    (debit c s).ps = s.ps ∧ (debit c s).pins = s.pins ∧ (debit c s).free = s.free ∧
    (debit c s).pending = s.pending := by simp [debit]

@[simp] theorem charge_frame (cost : Nat) (s : State) :
    (charge cost s).params = s.params ∧ (charge cost s).mli = s.mli ∧ (charge cost s).be = s.be ∧
    (charge cost s).tc = s.tc ∧ (charge cost s).ce = s.ce ∧ (charge cost s).ll = s.ll ∧
    (charge cost s).tm = s.tm ∧ (charge cost s).tl = s.tl ∧ (charge cost s).ps = s.ps ∧
    (charge cost s).pins = s.pins ∧ (charge cost s).free = s.free ∧ (charge cost s).pending = s.pending := by
  simp only [charge]
  (repeat' split) <;> simp

@[simp] theorem topUp_frame (cents : Nat) (s : State) :
    (topUp cents s).params = s.params ∧ (topUp cents s).mli = s.mli ∧ (topUp cents s).be = s.be ∧
    (topUp cents s).tc = s.tc ∧ (topUp cents s).ce = s.ce ∧ (topUp cents s).ll = s.ll ∧
    (topUp cents s).tm = s.tm ∧ (topUp cents s).tl = s.tl ∧ (topUp cents s).ps = s.ps ∧
    (topUp cents s).pins = s.pins ∧ (topUp cents s).free = s.free ∧ (topUp cents s).pending = s.pending := by simp [topUp]

@[simp] theorem raiseToFloor_frame (s : State) :
    (raiseToFloor s).params = s.params ∧ (raiseToFloor s).mli = s.mli ∧ (raiseToFloor s).be = s.be ∧
    (raiseToFloor s).tc = s.tc ∧ (raiseToFloor s).ce = s.ce ∧ (raiseToFloor s).sss = s.sss ∧
    (raiseToFloor s).ll = s.ll ∧ (raiseToFloor s).tm = s.tm ∧ (raiseToFloor s).tl = s.tl ∧
    (raiseToFloor s).ps = s.ps ∧ (raiseToFloor s).pins = s.pins ∧ (raiseToFloor s).free = s.free ∧
    (raiseToFloor s).pending = s.pending := by
  simp only [raiseToFloor]
  (repeat' split) <;> simp

@[simp] theorem offerOnRaise_frame (before : Nat) (s : State) :
    (offerOnRaise before s).params = s.params ∧ (offerOnRaise before s).mli = s.mli ∧
    (offerOnRaise before s).be = s.be ∧ (offerOnRaise before s).tc = s.tc ∧ (offerOnRaise before s).ce = s.ce ∧
    (offerOnRaise before s).sss = s.sss ∧ (offerOnRaise before s).ll = s.ll ∧
    (offerOnRaise before s).tm = s.tm ∧ (offerOnRaise before s).tl = s.tl ∧ (offerOnRaise before s).ps = s.ps ∧
    (offerOnRaise before s).hlc = s.hlc ∧ (offerOnRaise before s).pins = s.pins ∧
    (offerOnRaise before s).free = s.free ∧ (offerOnRaise before s).pending = s.pending := by
  simp only [offerOnRaise]
  (repeat' split) <;> simp

@[simp] theorem changeAllowance_frame (params : Params) (s : State) :
    (changeAllowance params s).mli = s.mli ∧ (changeAllowance params s).be = s.be ∧
    (changeAllowance params s).tc = s.tc ∧ (changeAllowance params s).ce = s.ce ∧
    (changeAllowance params s).ll = s.ll ∧ (changeAllowance params s).tm = s.tm ∧
    (changeAllowance params s).tl = s.tl ∧ (changeAllowance params s).ps = s.ps ∧
    (changeAllowance params s).pins = s.pins ∧ (changeAllowance params s).free = s.free ∧
    (changeAllowance params s).pending = s.pending := by simp [changeAllowance]

@[simp] theorem takeEmergency_frame (s : State) :
    (takeEmergency s).params = s.params ∧ (takeEmergency s).mli = s.mli ∧ (takeEmergency s).be = s.be ∧
    (takeEmergency s).tc = s.tc ∧ (takeEmergency s).ce = s.ce ∧ (takeEmergency s).ll = s.ll ∧
    (takeEmergency s).tm = s.tm ∧ (takeEmergency s).tl = s.tl ∧ (takeEmergency s).ps = s.ps ∧
    (takeEmergency s).pins = s.pins ∧ (takeEmergency s).free = s.free ∧
    (takeEmergency s).pending = s.pending := by
  simp only [takeEmergency]
  (repeat' split) <;> simp

@[simp] theorem friendlyEdge_frame (s : State) :
    (friendlyEdge s).params = s.params ∧ (friendlyEdge s).mli = s.mli ∧ (friendlyEdge s).be = s.be ∧
    (friendlyEdge s).ce = s.ce ∧ (friendlyEdge s).ll = s.ll ∧ (friendlyEdge s).tm = s.tm ∧
    (friendlyEdge s).tl = s.tl ∧ (friendlyEdge s).ps = s.ps ∧ (friendlyEdge s).pins = s.pins ∧
    (friendlyEdge s).free = s.free ∧ (friendlyEdge s).pending = s.pending := by
  simp only [friendlyEdge]
  (repeat' split) <;> simp

@[simp] theorem rollCycle_frame (s : State) :
    (rollCycle s).params = s.params ∧ (rollCycle s).mli = s.mli ∧ (rollCycle s).cl = s.cl ∧
    (rollCycle s).ce = s.ce ∧ (rollCycle s).sss = s.sss ∧ (rollCycle s).ll = s.ll ∧ (rollCycle s).tm = s.tm ∧
    (rollCycle s).tl = s.tl ∧ (rollCycle s).ps = s.ps ∧ (rollCycle s).hlc = s.hlc ∧
    (rollCycle s).pins = s.pins ∧ (rollCycle s).free = s.free ∧ (rollCycle s).pending = s.pending := by
  simp only [rollCycle]
  (repeat' split) <;> simp

@[simp] theorem compareAndBand_frame (s : State) :
    (compareAndBand s).params = s.params ∧ (compareAndBand s).mli = s.mli ∧ (compareAndBand s).be = s.be ∧
    (compareAndBand s).cl = s.cl ∧ (compareAndBand s).ce = s.ce ∧ (compareAndBand s).sss = s.sss ∧
    (compareAndBand s).ll = s.ll ∧ (compareAndBand s).tm = s.tm ∧ (compareAndBand s).tl = s.tl ∧
    (compareAndBand s).ps = s.ps ∧ (compareAndBand s).hlc = s.hlc ∧ (compareAndBand s).pins = s.pins ∧
    (compareAndBand s).free = s.free ∧ (compareAndBand s).pending = s.pending := by simp [compareAndBand]

@[simp] theorem evaluateCalendar_frame (s : State) :
    (evaluateCalendar s).params = s.params ∧ (evaluateCalendar s).mli = s.mli ∧ (evaluateCalendar s).ce = s.ce ∧
    (evaluateCalendar s).ll = s.ll ∧ (evaluateCalendar s).tm = s.tm ∧ (evaluateCalendar s).tl = s.tl ∧
    (evaluateCalendar s).ps = s.ps ∧ (evaluateCalendar s).pins = s.pins ∧ (evaluateCalendar s).free = s.free ∧
    (evaluateCalendar s).pending = s.pending := by simp [evaluateCalendar]

@[simp] theorem trimClock_frame (d : Int) (s : State) :
    (trimClock d s).params = s.params ∧ (trimClock d s).mli = s.mli ∧ (trimClock d s).ce = s.ce ∧
    (trimClock d s).ll = s.ll ∧ (trimClock d s).tm = s.tm ∧ (trimClock d s).tl = s.tl ∧
    (trimClock d s).ps = s.ps ∧ (trimClock d s).pins = s.pins ∧ (trimClock d s).free = s.free ∧
    (trimClock d s).pending = s.pending := by simp [trimClock]

@[simp] theorem setClock_frame (day minute second : Nat) (s : State) :
    (setClock day minute second s).params = s.params ∧ (setClock day minute second s).mli = s.mli ∧
    (setClock day minute second s).ce = s.ce ∧ (setClock day minute second s).ll = s.ll ∧
    (setClock day minute second s).tm = s.tm ∧ (setClock day minute second s).tl = s.tl ∧
    (setClock day minute second s).ps = s.ps ∧ (setClock day minute second s).pins = s.pins ∧
    (setClock day minute second s).free = s.free ∧ (setClock day minute second s).pending = s.pending := by simp [setClock]

@[simp] theorem rebaseCycle_frame (before : Nat) (s : State) :
    (rebaseCycle before s).params = s.params ∧ (rebaseCycle before s).mli = s.mli ∧
    (rebaseCycle before s).be = s.be ∧ (rebaseCycle before s).cl = s.cl ∧ (rebaseCycle before s).ce = s.ce ∧
    (rebaseCycle before s).sss = s.sss ∧ (rebaseCycle before s).ll = s.ll ∧ (rebaseCycle before s).tm = s.tm ∧
    (rebaseCycle before s).tl = s.tl ∧ (rebaseCycle before s).ps = s.ps ∧ (rebaseCycle before s).hlc = s.hlc ∧
    (rebaseCycle before s).pins = s.pins ∧ (rebaseCycle before s).free = s.free ∧
    (rebaseCycle before s).pending = s.pending := by
  simp only [rebaseCycle]
  (repeat' split) <;> simp

@[simp] theorem clockAdvance_frame (s : State) :
    (clockAdvance s).params = s.params ∧ (clockAdvance s).mli = s.mli ∧ (clockAdvance s).be = s.be ∧
    (clockAdvance s).cl = s.cl ∧ (clockAdvance s).ce = s.ce ∧ (clockAdvance s).sss = s.sss ∧
    (clockAdvance s).ll = s.ll ∧ (clockAdvance s).tm = s.tm ∧ (clockAdvance s).tl = s.tl ∧
    (clockAdvance s).ps = s.ps ∧ (clockAdvance s).hlc = s.hlc ∧ (clockAdvance s).pins = s.pins ∧
    (clockAdvance s).free = s.free ∧ (clockAdvance s).pending = s.pending := by
  simp only [clockAdvance]
  (repeat' split) <;> simp

@[simp] theorem tcEdgeEvaluation_frame (s : State) :
    (tcEdgeEvaluation s).params = s.params ∧ (tcEdgeEvaluation s).mli = s.mli ∧ (tcEdgeEvaluation s).ce = s.ce ∧
    (tcEdgeEvaluation s).ll = s.ll ∧ (tcEdgeEvaluation s).tm = s.tm ∧ (tcEdgeEvaluation s).tl = s.tl ∧
    (tcEdgeEvaluation s).ps = s.ps ∧ (tcEdgeEvaluation s).pins = s.pins ∧ (tcEdgeEvaluation s).free = s.free ∧
    (tcEdgeEvaluation s).pending = s.pending := by
  simp only [tcEdgeEvaluation]
  (repeat' split) <;> simp

@[simp] theorem lapseTest_frame (s : State) :
    (lapseTest s).params = s.params ∧ (lapseTest s).mli = s.mli ∧ (lapseTest s).be = s.be ∧
    (lapseTest s).tc = s.tc ∧ (lapseTest s).cl = s.cl ∧ (lapseTest s).ce = s.ce ∧ (lapseTest s).sss = s.sss ∧
    (lapseTest s).tm = s.tm ∧ (lapseTest s).tl = s.tl ∧ (lapseTest s).ps = s.ps ∧ (lapseTest s).hlc = s.hlc ∧
    (lapseTest s).pins = s.pins ∧ (lapseTest s).free = s.free ∧ (lapseTest s).pending = s.pending := by
  simp only [lapseTest]
  (repeat' split) <;> simp

@[simp] theorem applyTempLimit_frame (limit hours : Nat) (s : State) :
    (applyTempLimit limit hours s).params = s.params ∧ (applyTempLimit limit hours s).mli = s.mli ∧
    (applyTempLimit limit hours s).be = s.be ∧ (applyTempLimit limit hours s).tc = s.tc ∧
    (applyTempLimit limit hours s).cl = s.cl ∧ (applyTempLimit limit hours s).ce = s.ce ∧
    (applyTempLimit limit hours s).sss = s.sss ∧ (applyTempLimit limit hours s).tm = s.tm ∧
    (applyTempLimit limit hours s).tl = s.tl ∧ (applyTempLimit limit hours s).ps = s.ps ∧
    (applyTempLimit limit hours s).hlc = s.hlc ∧ (applyTempLimit limit hours s).pins = s.pins ∧
    (applyTempLimit limit hours s).free = s.free ∧ (applyTempLimit limit hours s).pending = s.pending := by
  simp only [applyTempLimit]
  (repeat' split) <;> simp

@[simp] theorem trip_frame (s : State) :
    (trip s).params = s.params ∧ (trip s).mli = s.mli ∧ (trip s).be = s.be ∧ (trip s).tc = s.tc ∧
    (trip s).cl = s.cl ∧ (trip s).ce = s.ce ∧ (trip s).tm = s.tm ∧ (trip s).tl = s.tl ∧ (trip s).ps = s.ps ∧
    (trip s).pins = s.pins ∧ (trip s).free = s.free ∧ (trip s).pending = s.pending := by simp [trip]

@[simp] theorem compareLoad_frame (power : Nat) (s : State) :
    (compareLoad power s).params = s.params ∧ (compareLoad power s).mli = s.mli ∧
    (compareLoad power s).be = s.be ∧ (compareLoad power s).tc = s.tc ∧ (compareLoad power s).cl = s.cl ∧
    (compareLoad power s).ce = s.ce ∧ (compareLoad power s).tm = s.tm ∧ (compareLoad power s).tl = s.tl ∧
    (compareLoad power s).ps = s.ps ∧ (compareLoad power s).pins = s.pins ∧
    (compareLoad power s).free = s.free ∧ (compareLoad power s).pending = s.pending := by
  simp only [compareLoad]
  (repeat' split) <;> simp

@[simp] theorem watchLoad_frame (power : Nat) (s : State) :
    (watchLoad power s).params = s.params ∧ (watchLoad power s).mli = s.mli ∧ (watchLoad power s).be = s.be ∧
    (watchLoad power s).tc = s.tc ∧ (watchLoad power s).cl = s.cl ∧ (watchLoad power s).ce = s.ce ∧
    (watchLoad power s).tm = s.tm ∧ (watchLoad power s).tl = s.tl ∧ (watchLoad power s).ps = s.ps ∧
    (watchLoad power s).pins = s.pins ∧ (watchLoad power s).free = s.free ∧
    (watchLoad power s).pending = s.pending := by
  simp only [watchLoad]
  (repeat' split) <;> simp

@[simp] theorem offerLoad_frame (power : Nat) (s : State) :
    (offerLoad power s).params = s.params ∧ (offerLoad power s).mli = s.mli ∧ (offerLoad power s).be = s.be ∧
    (offerLoad power s).tc = s.tc ∧ (offerLoad power s).cl = s.cl ∧ (offerLoad power s).ce = s.ce ∧
    (offerLoad power s).tm = s.tm ∧ (offerLoad power s).tl = s.tl ∧ (offerLoad power s).ps = s.ps ∧
    (offerLoad power s).pins = s.pins ∧ (offerLoad power s).free = s.free ∧
    (offerLoad power s).pending = s.pending := by
  simp only [offerLoad]
  (repeat' split) <;> simp

@[simp] theorem clearLockout_frame (s : State) :
    (clearLockout s).params = s.params ∧ (clearLockout s).mli = s.mli ∧ (clearLockout s).be = s.be ∧
    (clearLockout s).tc = s.tc ∧ (clearLockout s).cl = s.cl ∧ (clearLockout s).ce = s.ce ∧
    (clearLockout s).tm = s.tm ∧ (clearLockout s).tl = s.tl ∧ (clearLockout s).ps = s.ps ∧
    (clearLockout s).pins = s.pins ∧ (clearLockout s).free = s.free ∧ (clearLockout s).pending = s.pending := by simp [clearLockout]

@[simp] theorem recloseTimerExpiry_frame (s : State) :
    (recloseTimerExpiry s).params = s.params ∧ (recloseTimerExpiry s).mli = s.mli ∧
    (recloseTimerExpiry s).be = s.be ∧ (recloseTimerExpiry s).tc = s.tc ∧ (recloseTimerExpiry s).cl = s.cl ∧
    (recloseTimerExpiry s).ce = s.ce ∧ (recloseTimerExpiry s).tm = s.tm ∧ (recloseTimerExpiry s).tl = s.tl ∧
    (recloseTimerExpiry s).ps = s.ps ∧ (recloseTimerExpiry s).pins = s.pins ∧
    (recloseTimerExpiry s).free = s.free ∧ (recloseTimerExpiry s).pending = s.pending := by
  simp only [recloseTimerExpiry]
  (repeat' split) <;> simp

@[simp] theorem recloseWindowExpiry_frame (s : State) :
    (recloseWindowExpiry s).params = s.params ∧ (recloseWindowExpiry s).mli = s.mli ∧
    (recloseWindowExpiry s).be = s.be ∧ (recloseWindowExpiry s).tc = s.tc ∧ (recloseWindowExpiry s).cl = s.cl ∧
    (recloseWindowExpiry s).ce = s.ce ∧ (recloseWindowExpiry s).sss = s.sss ∧
    (recloseWindowExpiry s).tm = s.tm ∧ (recloseWindowExpiry s).tl = s.tl ∧ (recloseWindowExpiry s).ps = s.ps ∧
    (recloseWindowExpiry s).hlc = s.hlc ∧ (recloseWindowExpiry s).pins = s.pins ∧
    (recloseWindowExpiry s).free = s.free ∧ (recloseWindowExpiry s).pending = s.pending := by
  simp only [recloseWindowExpiry]
  (repeat' split) <;> simp

@[simp] theorem logOpen_frame (cond : CondId) (inHoldup : Bool) (actions : Actions) (measure : Option Int) (s : State) :
    (logOpen cond inHoldup actions measure s).1.params = s.params ∧
    (logOpen cond inHoldup actions measure s).1.mli = s.mli ∧
    (logOpen cond inHoldup actions measure s).1.be = s.be ∧
    (logOpen cond inHoldup actions measure s).1.tc = s.tc ∧
    (logOpen cond inHoldup actions measure s).1.cl = s.cl ∧
    (logOpen cond inHoldup actions measure s).1.ce = s.ce ∧
    (logOpen cond inHoldup actions measure s).1.sss = s.sss ∧
    (logOpen cond inHoldup actions measure s).1.ll = s.ll ∧
    (logOpen cond inHoldup actions measure s).1.tm = s.tm ∧
    (logOpen cond inHoldup actions measure s).1.ps = s.ps ∧
    (logOpen cond inHoldup actions measure s).1.pins = s.pins ∧
    (logOpen cond inHoldup actions measure s).1.free = s.free ∧
    (logOpen cond inHoldup actions measure s).1.pending = s.pending := by
  simp only [logOpen]
  (repeat' split) <;> simp

@[simp] theorem setFlags_frame (s : State) :
    (setFlags s).params = s.params ∧ (setFlags s).mli = s.mli ∧ (setFlags s).be = s.be ∧
    (setFlags s).tc = s.tc ∧ (setFlags s).cl = s.cl ∧ (setFlags s).ce = s.ce ∧ (setFlags s).sss = s.sss ∧
    (setFlags s).ll = s.ll ∧ (setFlags s).tl = s.tl ∧ (setFlags s).ps = s.ps ∧ (setFlags s).hlc = s.hlc ∧
    (setFlags s).pins = s.pins ∧ (setFlags s).free = s.free ∧ (setFlags s).pending = s.pending := by simp [setFlags]

@[simp] theorem holdTamper_frame (s : State) :
    (holdTamper s).params = s.params ∧ (holdTamper s).mli = s.mli ∧ (holdTamper s).be = s.be ∧
    (holdTamper s).tc = s.tc ∧ (holdTamper s).cl = s.cl ∧ (holdTamper s).ce = s.ce ∧ (holdTamper s).ll = s.ll ∧
    (holdTamper s).tl = s.tl ∧ (holdTamper s).ps = s.ps ∧ (holdTamper s).pins = s.pins ∧
    (holdTamper s).free = s.free ∧ (holdTamper s).pending = s.pending := by
  simp only [holdTamper]
  (repeat' split) <;> simp

@[simp] theorem evaluateTamper_frame (s : State) :
    (evaluateTamper s).params = s.params ∧ (evaluateTamper s).mli = s.mli ∧ (evaluateTamper s).be = s.be ∧
    (evaluateTamper s).tc = s.tc ∧ (evaluateTamper s).cl = s.cl ∧ (evaluateTamper s).ce = s.ce ∧
    (evaluateTamper s).ll = s.ll ∧ (evaluateTamper s).tl = s.tl ∧ (evaluateTamper s).ps = s.ps ∧
    (evaluateTamper s).pins = s.pins ∧ (evaluateTamper s).free = s.free ∧
    (evaluateTamper s).pending = s.pending := by simp [evaluateTamper]

@[simp] theorem State_setCond_frame (s : State) (c : CondId) (x : Cond) :
    (State.setCond s c x).params = s.params ∧ (State.setCond s c x).mli = s.mli ∧
    (State.setCond s c x).be = s.be ∧ (State.setCond s c x).tc = s.tc ∧ (State.setCond s c x).cl = s.cl ∧
    (State.setCond s c x).ce = s.ce ∧ (State.setCond s c x).sss = s.sss ∧ (State.setCond s c x).ll = s.ll ∧
    (State.setCond s c x).tl = s.tl ∧ (State.setCond s c x).ps = s.ps ∧ (State.setCond s c x).hlc = s.hlc ∧
    (State.setCond s c x).pins = s.pins ∧ (State.setCond s c x).free = s.free ∧
    (State.setCond s c x).pending = s.pending := by simp [State.setCond]

@[simp] theorem startEffect_frame (c : CondId) (s : State) :
    (startEffect c s).params = s.params ∧ (startEffect c s).mli = s.mli ∧ (startEffect c s).tc = s.tc ∧
    (startEffect c s).cl = s.cl ∧ (startEffect c s).ce = s.ce ∧ (startEffect c s).sss = s.sss ∧
    (startEffect c s).ll = s.ll ∧ (startEffect c s).tl = s.tl ∧ (startEffect c s).ps = s.ps ∧
    (startEffect c s).hlc = s.hlc ∧ (startEffect c s).pins = s.pins ∧ (startEffect c s).free = s.free ∧
    (startEffect c s).pending = s.pending := by
  simp only [startEffect]
  (repeat' split) <;> simp

@[simp] theorem endEffect_frame (c : CondId) (s : State) :
    (endEffect c s).params = s.params ∧ (endEffect c s).mli = s.mli ∧ (endEffect c s).tc = s.tc ∧
    (endEffect c s).cl = s.cl ∧ (endEffect c s).ce = s.ce ∧ (endEffect c s).sss = s.sss ∧
    (endEffect c s).ll = s.ll ∧ (endEffect c s).tl = s.tl ∧ (endEffect c s).ps = s.ps ∧
    (endEffect c s).hlc = s.hlc ∧ (endEffect c s).pins = s.pins ∧ (endEffect c s).free = s.free ∧
    (endEffect c s).pending = s.pending := by
  simp only [endEffect]
  (repeat' split) <;> simp

@[simp] theorem startCond_frame (c : CondId) (measure : Option Int) (s : State) :
    (startCond c measure s).params = s.params ∧ (startCond c measure s).mli = s.mli ∧
    (startCond c measure s).tc = s.tc ∧ (startCond c measure s).cl = s.cl ∧ (startCond c measure s).ce = s.ce ∧
    (startCond c measure s).ll = s.ll ∧ (startCond c measure s).ps = s.ps ∧
    (startCond c measure s).pins = s.pins ∧ (startCond c measure s).free = s.free ∧
    (startCond c measure s).pending = s.pending := by simp [startCond]

@[simp] theorem endCond_frame (c : CondId) (s : State) :
    (endCond c s).params = s.params ∧ (endCond c s).mli = s.mli ∧ (endCond c s).tc = s.tc ∧
    (endCond c s).cl = s.cl ∧ (endCond c s).ce = s.ce ∧ (endCond c s).ll = s.ll ∧ (endCond c s).ps = s.ps ∧
    (endCond c s).pins = s.pins ∧ (endCond c s).free = s.free ∧ (endCond c s).pending = s.pending := by simp [endCond]

@[simp] theorem handMeasure_frame (c : CondId) (m : Int) (s : State) :
    (handMeasure c m s).params = s.params ∧ (handMeasure c m s).mli = s.mli ∧ (handMeasure c m s).be = s.be ∧
    (handMeasure c m s).tc = s.tc ∧ (handMeasure c m s).cl = s.cl ∧ (handMeasure c m s).ce = s.ce ∧
    (handMeasure c m s).sss = s.sss ∧ (handMeasure c m s).ll = s.ll ∧ (handMeasure c m s).tm = s.tm ∧
    (handMeasure c m s).ps = s.ps ∧ (handMeasure c m s).hlc = s.hlc ∧ (handMeasure c m s).pins = s.pins ∧
    (handMeasure c m s).free = s.free ∧ (handMeasure c m s).pending = s.pending := by simp [handMeasure]

@[simp] theorem State_setRun_frame (s : State) (c : RecordCond) (n : Nat) :
    (State.setRun s c n).params = s.params ∧ (State.setRun s c n).mli = s.mli ∧ (State.setRun s c n).tc = s.tc ∧
    (State.setRun s c n).cl = s.cl ∧ (State.setRun s c n).ce = s.ce ∧ (State.setRun s c n).sss = s.sss ∧
    (State.setRun s c n).ll = s.ll ∧ (State.setRun s c n).tm = s.tm ∧ (State.setRun s c n).tl = s.tl ∧
    (State.setRun s c n).ps = s.ps ∧ (State.setRun s c n).hlc = s.hlc ∧ (State.setRun s c n).pins = s.pins ∧
    (State.setRun s c n).free = s.free ∧ (State.setRun s c n).pending = s.pending := by simp [State.setRun]

@[simp] theorem State_setCondState_frame (s : State) (c : CondId) (x : CondState) :
    (State.setCondState s c x).params = s.params ∧ (State.setCondState s c x).mli = s.mli ∧
    (State.setCondState s c x).be = s.be ∧ (State.setCondState s c x).tc = s.tc ∧
    (State.setCondState s c x).cl = s.cl ∧ (State.setCondState s c x).ce = s.ce ∧
    (State.setCondState s c x).sss = s.sss ∧ (State.setCondState s c x).ll = s.ll ∧
    (State.setCondState s c x).tl = s.tl ∧ (State.setCondState s c x).ps = s.ps ∧
    (State.setCondState s c x).hlc = s.hlc ∧ (State.setCondState s c x).pins = s.pins ∧
    (State.setCondState s c x).free = s.free ∧ (State.setCondState s c x).pending = s.pending := by simp [State.setCondState]

@[simp] theorem handObserved_frame (o : Observation) (s : State) :
    (handObserved o s).params = s.params ∧ (handObserved o s).mli = s.mli ∧ (handObserved o s).be = s.be ∧
    (handObserved o s).tc = s.tc ∧ (handObserved o s).cl = s.cl ∧ (handObserved o s).ce = s.ce ∧
    (handObserved o s).sss = s.sss ∧ (handObserved o s).ll = s.ll ∧ (handObserved o s).tm = s.tm ∧
    (handObserved o s).ps = s.ps ∧ (handObserved o s).hlc = s.hlc ∧ (handObserved o s).pins = s.pins ∧
    (handObserved o s).free = s.free ∧ (handObserved o s).pending = s.pending := by
  simp only [handObserved]
  (repeat' split) <;> simp

@[simp] theorem observe_frame (o : Observation) (s : State) :
    (observe o s).params = s.params ∧ (observe o s).mli = s.mli ∧ (observe o s).tc = s.tc ∧
    (observe o s).cl = s.cl ∧ (observe o s).ce = s.ce ∧ (observe o s).ll = s.ll ∧ (observe o s).ps = s.ps ∧
    (observe o s).pins = s.pins ∧ (observe o s).free = s.free ∧ (observe o s).pending = s.pending := by
  simp only [observe]
  (repeat' split) <;> simp

@[simp] theorem silenceToTm_frame (s : State) :
    (silenceToTm s).params = s.params ∧ (silenceToTm s).mli = s.mli ∧ (silenceToTm s).tc = s.tc ∧
    (silenceToTm s).cl = s.cl ∧ (silenceToTm s).ce = s.ce ∧ (silenceToTm s).ll = s.ll ∧
    (silenceToTm s).ps = s.ps ∧ (silenceToTm s).pins = s.pins ∧ (silenceToTm s).free = s.free ∧
    (silenceToTm s).pending = s.pending := by
  simp only [silenceToTm]
  (repeat' split) <;> simp

@[simp] theorem linkGoodToTm_frame (s : State) :
    (linkGoodToTm s).params = s.params ∧ (linkGoodToTm s).mli = s.mli ∧ (linkGoodToTm s).tc = s.tc ∧
    (linkGoodToTm s).cl = s.cl ∧ (linkGoodToTm s).ce = s.ce ∧ (linkGoodToTm s).ll = s.ll ∧
    (linkGoodToTm s).ps = s.ps ∧ (linkGoodToTm s).pins = s.pins ∧ (linkGoodToTm s).free = s.free ∧
    (linkGoodToTm s).pending = s.pending := by
  simp only [linkGoodToTm]
  (repeat' split) <;> simp

@[simp] theorem lockoutStartToTm_frame (src : Source) (s : State) :
    (lockoutStartToTm src s).params = s.params ∧ (lockoutStartToTm src s).mli = s.mli ∧
    (lockoutStartToTm src s).tc = s.tc ∧ (lockoutStartToTm src s).cl = s.cl ∧
    (lockoutStartToTm src s).ce = s.ce ∧ (lockoutStartToTm src s).ll = s.ll ∧
    (lockoutStartToTm src s).ps = s.ps ∧ (lockoutStartToTm src s).pins = s.pins ∧
    (lockoutStartToTm src s).free = s.free ∧ (lockoutStartToTm src s).pending = s.pending := by
  simp only [lockoutStartToTm]
  (repeat' split) <;> simp

@[simp] theorem lockoutEndToTm_frame (src : Source) (s : State) :
    (lockoutEndToTm src s).params = s.params ∧ (lockoutEndToTm src s).mli = s.mli ∧
    (lockoutEndToTm src s).tc = s.tc ∧ (lockoutEndToTm src s).cl = s.cl ∧ (lockoutEndToTm src s).ce = s.ce ∧
    (lockoutEndToTm src s).ll = s.ll ∧ (lockoutEndToTm src s).ps = s.ps ∧ (lockoutEndToTm src s).pins = s.pins ∧
    (lockoutEndToTm src s).free = s.free ∧ (lockoutEndToTm src s).pending = s.pending := by
  simp only [lockoutEndToTm]
  (repeat' split) <;> simp

@[simp] theorem clearLatches_frame (mask : PerKind Bool) (cutoff : Int) (s : State) :
    (clearLatches mask cutoff s).1.params = s.params ∧ (clearLatches mask cutoff s).1.mli = s.mli ∧
    (clearLatches mask cutoff s).1.be = s.be ∧ (clearLatches mask cutoff s).1.tc = s.tc ∧
    (clearLatches mask cutoff s).1.cl = s.cl ∧ (clearLatches mask cutoff s).1.ce = s.ce ∧
    (clearLatches mask cutoff s).1.ll = s.ll ∧ (clearLatches mask cutoff s).1.tl = s.tl ∧
    (clearLatches mask cutoff s).1.ps = s.ps ∧ (clearLatches mask cutoff s).1.pins = s.pins ∧
    (clearLatches mask cutoff s).1.free = s.free ∧ (clearLatches mask cutoff s).1.pending = s.pending := by
  refine ⟨?_, ?_, ?_, ?_, ?_, ?_, ?_, ?_, ?_, ?_, ?_, ?_⟩
  · simp only [clearLatches, evaluateTamper_frame]; exact foldl_keeps State.params _ (fun t x => by simp) _ _
  · simp only [clearLatches, evaluateTamper_frame]; exact foldl_keeps State.mli _ (fun t x => by simp) _ _
  · simp only [clearLatches, evaluateTamper_frame]; exact foldl_keeps State.be _ (fun t x => by simp) _ _
  · simp only [clearLatches, evaluateTamper_frame]; exact foldl_keeps State.tc _ (fun t x => by simp) _ _
  · simp only [clearLatches, evaluateTamper_frame]; exact foldl_keeps State.cl _ (fun t x => by simp) _ _
  · simp only [clearLatches, evaluateTamper_frame]; exact foldl_keeps State.ce _ (fun t x => by simp) _ _
  · simp only [clearLatches, evaluateTamper_frame]; exact foldl_keeps State.ll _ (fun t x => by simp) _ _
  · simp only [clearLatches, evaluateTamper_frame]; exact foldl_keeps State.tl _ (fun t x => by simp) _ _
  · simp only [clearLatches, evaluateTamper_frame]; exact foldl_keeps State.ps _ (fun t x => by simp) _ _
  · simp only [clearLatches, evaluateTamper_frame]; exact foldl_keeps State.pins _ (fun t x => by simp) _ _
  · simp only [clearLatches, evaluateTamper_frame]; exact foldl_keeps State.free _ (fun t x => by simp) _ _
  · simp only [clearLatches, evaluateTamper_frame]; exact foldl_keeps State.pending _ (fun t x => by simp) _ _

@[simp] theorem State_setFilter_frame (s : State) (i : Sensor) (f : Filter) :
    (State.setFilter s i f).params = s.params ∧ (State.setFilter s i f).mli = s.mli ∧
    (State.setFilter s i f).be = s.be ∧ (State.setFilter s i f).tc = s.tc ∧ (State.setFilter s i f).cl = s.cl ∧
    (State.setFilter s i f).ce = s.ce ∧ (State.setFilter s i f).sss = s.sss ∧
    (State.setFilter s i f).ll = s.ll ∧ (State.setFilter s i f).tl = s.tl ∧ (State.setFilter s i f).ps = s.ps ∧
    (State.setFilter s i f).hlc = s.hlc ∧ (State.setFilter s i f).pins = s.pins ∧
    (State.setFilter s i f).free = s.free ∧ (State.setFilter s i f).pending = s.pending := by simp [State.setFilter]

@[simp] theorem followInput_frame (i : Sensor) (shows : Bool) (s : State) :
    (followInput i shows s).params = s.params ∧ (followInput i shows s).mli = s.mli ∧
    (followInput i shows s).be = s.be ∧ (followInput i shows s).tc = s.tc ∧ (followInput i shows s).cl = s.cl ∧
    (followInput i shows s).ce = s.ce ∧ (followInput i shows s).sss = s.sss ∧
    (followInput i shows s).ll = s.ll ∧ (followInput i shows s).tl = s.tl ∧ (followInput i shows s).ps = s.ps ∧
    (followInput i shows s).hlc = s.hlc ∧ (followInput i shows s).pins = s.pins ∧
    (followInput i shows s).free = s.free ∧ (followInput i shows s).pending = s.pending := by
  simp only [followInput]
  (repeat' split) <;> simp

@[simp] theorem sampleInput_frame (i : Sensor) (s : State) :
    (sampleInput i s).params = s.params ∧ (sampleInput i s).mli = s.mli ∧ (sampleInput i s).tc = s.tc ∧
    (sampleInput i s).cl = s.cl ∧ (sampleInput i s).ce = s.ce ∧ (sampleInput i s).ll = s.ll ∧
    (sampleInput i s).ps = s.ps ∧ (sampleInput i s).pins = s.pins ∧ (sampleInput i s).free = s.free ∧
    (sampleInput i s).pending = s.pending := by
  simp only [sampleInput]
  (repeat' split) <;> simp

@[simp] theorem resumeInput_frame (i : Sensor) (s : State) :
    (resumeInput i s).params = s.params ∧ (resumeInput i s).mli = s.mli ∧ (resumeInput i s).be = s.be ∧
    (resumeInput i s).tc = s.tc ∧ (resumeInput i s).cl = s.cl ∧ (resumeInput i s).ce = s.ce ∧
    (resumeInput i s).sss = s.sss ∧ (resumeInput i s).ll = s.ll ∧ (resumeInput i s).tl = s.tl ∧
    (resumeInput i s).ps = s.ps ∧ (resumeInput i s).hlc = s.hlc ∧ (resumeInput i s).pins = s.pins ∧
    (resumeInput i s).free = s.free ∧ (resumeInput i s).pending = s.pending := by
  simp only [resumeInput]
  (repeat' split) <;> simp

@[simp] theorem enterActiveTm_frame (s : State) :
    (enterActiveTm s).params = s.params ∧ (enterActiveTm s).mli = s.mli ∧ (enterActiveTm s).be = s.be ∧
    (enterActiveTm s).tc = s.tc ∧ (enterActiveTm s).cl = s.cl ∧ (enterActiveTm s).ce = s.ce ∧
    (enterActiveTm s).ll = s.ll ∧ (enterActiveTm s).tl = s.tl ∧ (enterActiveTm s).ps = s.ps ∧
    (enterActiveTm s).pins = s.pins ∧ (enterActiveTm s).free = s.free ∧
    (enterActiveTm s).pending = s.pending := by simp [enterActiveTm]

@[simp] theorem sensorInputChange_frame (i : Sensor) (shows : Bool) (s : State) :
    (sensorInputChange i shows s).params = s.params ∧ (sensorInputChange i shows s).mli = s.mli ∧
    (sensorInputChange i shows s).be = s.be ∧ (sensorInputChange i shows s).tc = s.tc ∧
    (sensorInputChange i shows s).cl = s.cl ∧ (sensorInputChange i shows s).ce = s.ce ∧
    (sensorInputChange i shows s).sss = s.sss ∧ (sensorInputChange i shows s).ll = s.ll ∧
    (sensorInputChange i shows s).tl = s.tl ∧ (sensorInputChange i shows s).ps = s.ps ∧
    (sensorInputChange i shows s).hlc = s.hlc ∧ (sensorInputChange i shows s).free = s.free ∧
    (sensorInputChange i shows s).pending = s.pending := by
  simp only [sensorInputChange]
  (repeat' split) <;> simp

@[simp] theorem sensorFilterExpiry_frame (i : Sensor) (s : State) :
    (sensorFilterExpiry i s).params = s.params ∧ (sensorFilterExpiry i s).mli = s.mli ∧
    (sensorFilterExpiry i s).tc = s.tc ∧ (sensorFilterExpiry i s).cl = s.cl ∧
    (sensorFilterExpiry i s).ce = s.ce ∧ (sensorFilterExpiry i s).ll = s.ll ∧
    (sensorFilterExpiry i s).ps = s.ps ∧ (sensorFilterExpiry i s).pins = s.pins ∧
    (sensorFilterExpiry i s).free = s.free ∧ (sensorFilterExpiry i s).pending = s.pending := by
  simp only [sensorFilterExpiry]
  (repeat' split) <;> simp

@[simp] theorem deemedHoldExpiry_frame (s : State) :
    (deemedHoldExpiry s).params = s.params ∧ (deemedHoldExpiry s).mli = s.mli ∧ (deemedHoldExpiry s).be = s.be ∧
    (deemedHoldExpiry s).tc = s.tc ∧ (deemedHoldExpiry s).cl = s.cl ∧ (deemedHoldExpiry s).ce = s.ce ∧
    (deemedHoldExpiry s).ll = s.ll ∧ (deemedHoldExpiry s).tl = s.tl ∧ (deemedHoldExpiry s).ps = s.ps ∧
    (deemedHoldExpiry s).pins = s.pins ∧ (deemedHoldExpiry s).free = s.free ∧
    (deemedHoldExpiry s).pending = s.pending := by
  simp only [deemedHoldExpiry]
  (repeat' split) <;> simp

@[simp] theorem linklossMeasure_frame (s : State) :
    (linklossMeasure s).params = s.params ∧ (linklossMeasure s).mli = s.mli ∧ (linklossMeasure s).be = s.be ∧
    (linklossMeasure s).tc = s.tc ∧ (linklossMeasure s).cl = s.cl ∧ (linklossMeasure s).ce = s.ce ∧
    (linklossMeasure s).sss = s.sss ∧ (linklossMeasure s).ll = s.ll ∧ (linklossMeasure s).tm = s.tm ∧
    (linklossMeasure s).ps = s.ps ∧ (linklossMeasure s).hlc = s.hlc ∧ (linklossMeasure s).pins = s.pins ∧
    (linklossMeasure s).free = s.free ∧ (linklossMeasure s).pending = s.pending := by
  simp only [linklossMeasure]
  (repeat' split) <;> simp

@[simp] theorem holdupSample_frame (s : State) :
    (holdupSample s).params = s.params ∧ (holdupSample s).mli = s.mli ∧ (holdupSample s).tc = s.tc ∧
    (holdupSample s).cl = s.cl ∧ (holdupSample s).ce = s.ce ∧ (holdupSample s).ll = s.ll ∧
    (holdupSample s).pins = s.pins ∧ (holdupSample s).free = s.free ∧ (holdupSample s).pending = s.pending := by
  simp only [holdupSample]
  (repeat' split) <;> simp

@[simp] theorem billEnergy_frame (e : Nat) (s : State) :
    (billEnergy e s).params = s.params ∧ (billEnergy e s).mli = s.mli ∧ (billEnergy e s).tc = s.tc ∧
    (billEnergy e s).ce = s.ce ∧ (billEnergy e s).ll = s.ll ∧ (billEnergy e s).tm = s.tm ∧
    (billEnergy e s).tl = s.tl ∧ (billEnergy e s).ps = s.ps ∧ (billEnergy e s).pins = s.pins ∧
    (billEnergy e s).free = s.free ∧ (billEnergy e s).pending = s.pending := by
  simp only [billEnergy]
  (repeat' split) <;> simp

@[simp] theorem billGap_frame (m : Nat) (s : State) :
    (billGap m s).params = s.params ∧ (billGap m s).mli = s.mli ∧ (billGap m s).tc = s.tc ∧
    (billGap m s).ce = s.ce ∧ (billGap m s).ll = s.ll ∧ (billGap m s).tm = s.tm ∧ (billGap m s).tl = s.tl ∧
    (billGap m s).ps = s.ps ∧ (billGap m s).pins = s.pins ∧ (billGap m s).free = s.free ∧
    (billGap m s).pending = s.pending := by
  simp only [billGap]
  (repeat' split) <;> simp

@[simp] theorem billRecord_frame (power : Nat) (r : IntervalRecord) (s : State) :
    (billRecord power r s).params = s.params ∧ (billRecord power r s).mli = s.mli ∧
    (billRecord power r s).tc = s.tc ∧ (billRecord power r s).ce = s.ce ∧ (billRecord power r s).ll = s.ll ∧
    (billRecord power r s).tm = s.tm ∧ (billRecord power r s).tl = s.tl ∧ (billRecord power r s).ps = s.ps ∧
    (billRecord power r s).pins = s.pins ∧ (billRecord power r s).free = s.free ∧
    (billRecord power r s).pending = s.pending := by simp [billRecord]

@[simp] theorem checkAt_frame (place here : Nat) (r : IntervalRecord) (s : State) :
    (checkAt place here r s).params = s.params ∧ (checkAt place here r s).mli = s.mli ∧
    (checkAt place here r s).be = s.be ∧ (checkAt place here r s).tc = s.tc ∧
    (checkAt place here r s).cl = s.cl ∧ (checkAt place here r s).ce = s.ce ∧
    (checkAt place here r s).tm = s.tm ∧ (checkAt place here r s).tl = s.tl ∧
    (checkAt place here r s).ps = s.ps ∧ (checkAt place here r s).pins = s.pins ∧
    (checkAt place here r s).free = s.free ∧ (checkAt place here r s).pending = s.pending := by
  simp only [checkAt]
  (repeat' split) <;> simp

@[simp] theorem takeItem_frame (place : Nat) (missing : Option Nat) (r : IntervalRecord) (s : State) :
    (takeItem place missing r s).params = s.params ∧ (takeItem place missing r s).mli = s.mli ∧
    (takeItem place missing r s).tc = s.tc ∧ (takeItem place missing r s).ce = s.ce ∧
    (takeItem place missing r s).ps = s.ps ∧ (takeItem place missing r s).pins = s.pins ∧
    (takeItem place missing r s).free = s.free ∧ (takeItem place missing r s).pending = s.pending := by
  refine ⟨?_, ?_, ?_, ?_, ?_, ?_, ?_, ?_⟩
  · simp only [takeItem, checkAt_frame]; exact (foldl_keeps State.params _ (fun t x => by simp) _ _).trans (by simp)
  · simp only [takeItem, checkAt_frame]; exact (foldl_keeps State.mli _ (fun t x => by simp) _ _).trans (by simp)
  · simp only [takeItem, checkAt_frame]; exact (foldl_keeps State.tc _ (fun t x => by simp) _ _).trans (by simp)
  · simp only [takeItem, checkAt_frame]; exact (foldl_keeps State.ce _ (fun t x => by simp) _ _).trans (by simp)
  · simp only [takeItem, checkAt_frame]; exact (foldl_keeps State.ps _ (fun t x => by simp) _ _).trans (by simp)
  · simp only [takeItem, checkAt_frame]; exact (foldl_keeps State.pins _ (fun t x => by simp) _ _).trans (by simp)
  · simp only [takeItem, checkAt_frame]; exact (foldl_keeps State.free _ (fun t x => by simp) _ _).trans (by simp)
  · simp only [takeItem, checkAt_frame]; exact (foldl_keeps State.pending _ (fun t x => by simp) _ _).trans (by simp)

@[simp] theorem recordTake_frame (loadv : PerPhase Bool) (s : State) :
    (recordTake loadv s).params = s.params ∧ (recordTake loadv s).tc = s.tc ∧ (recordTake loadv s).ce = s.ce ∧
    (recordTake loadv s).ps = s.ps ∧ (recordTake loadv s).pending = s.pending := by
  simp only [recordTake]
  (repeat' split) <;> simp

@[simp] theorem silenceTick_frame (s : State) :
    (silenceTick s).params = s.params ∧ (silenceTick s).mli = s.mli ∧ (silenceTick s).tc = s.tc ∧
    (silenceTick s).ce = s.ce ∧ (silenceTick s).ll = s.ll ∧ (silenceTick s).tm = s.tm ∧
    (silenceTick s).tl = s.tl ∧ (silenceTick s).ps = s.ps ∧ (silenceTick s).pins = s.pins ∧
    (silenceTick s).free = s.free ∧ (silenceTick s).pending = s.pending := by
  simp only [silenceTick]
  (repeat' split) <;> simp

@[simp] theorem beginWrite_frame (occ : Occasion) (s : State) :
    (beginWrite occ s).params = s.params ∧ (beginWrite occ s).mli = s.mli ∧ (beginWrite occ s).be = s.be ∧
    (beginWrite occ s).tc = s.tc ∧ (beginWrite occ s).cl = s.cl ∧ (beginWrite occ s).ce = s.ce ∧
    (beginWrite occ s).sss = s.sss ∧ (beginWrite occ s).ll = s.ll ∧ (beginWrite occ s).tm = s.tm ∧
    (beginWrite occ s).tl = s.tl ∧ (beginWrite occ s).hlc = s.hlc ∧ (beginWrite occ s).pins = s.pins ∧
    (beginWrite occ s).free = s.free ∧ (beginWrite occ s).pending = s.pending := by
  simp only [beginWrite]
  (repeat' split) <;> simp

@[simp] theorem startWrite_frame (occ : Occasion) (s : State) :
    (startWrite occ s).params = s.params ∧ (startWrite occ s).mli = s.mli ∧ (startWrite occ s).be = s.be ∧
    (startWrite occ s).tc = s.tc ∧ (startWrite occ s).cl = s.cl ∧ (startWrite occ s).ce = s.ce ∧
    (startWrite occ s).sss = s.sss ∧ (startWrite occ s).ll = s.ll ∧ (startWrite occ s).tm = s.tm ∧
    (startWrite occ s).tl = s.tl ∧ (startWrite occ s).hlc = s.hlc ∧ (startWrite occ s).pins = s.pins ∧
    (startWrite occ s).free = s.free ∧ (startWrite occ s).pending = s.pending := by
  simp only [startWrite]
  (repeat' split) <;> simp

@[simp] theorem refuse_frame (o : CodeOutcome) (cls : Option Nat) (detail : List Byte) (s : State) :
    (refuse o cls detail s).state.params = s.params ∧ (refuse o cls detail s).state.mli = s.mli ∧
    (refuse o cls detail s).state.be = s.be ∧ (refuse o cls detail s).state.tc = s.tc ∧
    (refuse o cls detail s).state.cl = s.cl ∧ (refuse o cls detail s).state.ce = s.ce ∧
    (refuse o cls detail s).state.sss = s.sss ∧ (refuse o cls detail s).state.ll = s.ll ∧
    (refuse o cls detail s).state.tm = s.tm ∧ (refuse o cls detail s).state.tl = s.tl ∧
    (refuse o cls detail s).state.ps = s.ps ∧ (refuse o cls detail s).state.hlc = s.hlc ∧
    (refuse o cls detail s).state.pins = s.pins ∧ (refuse o cls detail s).state.free = s.free ∧
    (refuse o cls detail s).state.pending = s.pending := by simp [refuse]

@[simp] theorem State_setKeys_frame (s : State) (k : Keys) :
    (State.setKeys s k).params = s.params ∧ (State.setKeys s k).mli = s.mli ∧ (State.setKeys s k).be = s.be ∧
    (State.setKeys s k).tc = s.tc ∧ (State.setKeys s k).cl = s.cl ∧ (State.setKeys s k).sss = s.sss ∧
    (State.setKeys s k).ll = s.ll ∧ (State.setKeys s k).tm = s.tm ∧ (State.setKeys s k).tl = s.tl ∧
    (State.setKeys s k).ps = s.ps ∧ (State.setKeys s k).hlc = s.hlc ∧ (State.setKeys s k).pins = s.pins ∧
    (State.setKeys s k).free = s.free ∧ (State.setKeys s k).pending = s.pending := by simp [State.setKeys]

@[simp] theorem State_setAttempts_frame (s : State) (src : Source) (n : Nat) :
    (State.setAttempts s src n).params = s.params ∧ (State.setAttempts s src n).mli = s.mli ∧
    (State.setAttempts s src n).be = s.be ∧ (State.setAttempts s src n).tc = s.tc ∧
    (State.setAttempts s src n).cl = s.cl ∧ (State.setAttempts s src n).sss = s.sss ∧
    (State.setAttempts s src n).ll = s.ll ∧ (State.setAttempts s src n).tm = s.tm ∧
    (State.setAttempts s src n).tl = s.tl ∧ (State.setAttempts s src n).ps = s.ps ∧
    (State.setAttempts s src n).hlc = s.hlc ∧ (State.setAttempts s src n).pins = s.pins ∧
    (State.setAttempts s src n).free = s.free ∧ (State.setAttempts s src n).pending = s.pending := by simp [State.setAttempts]

@[simp] theorem State_setLockout_frame (s : State) (src : Source) (t : Timer) :
    (State.setLockout s src t).params = s.params ∧ (State.setLockout s src t).mli = s.mli ∧
    (State.setLockout s src t).be = s.be ∧ (State.setLockout s src t).tc = s.tc ∧
    (State.setLockout s src t).cl = s.cl ∧ (State.setLockout s src t).sss = s.sss ∧
    (State.setLockout s src t).ll = s.ll ∧ (State.setLockout s src t).tm = s.tm ∧
    (State.setLockout s src t).tl = s.tl ∧ (State.setLockout s src t).ps = s.ps ∧
    (State.setLockout s src t).hlc = s.hlc ∧ (State.setLockout s src t).pins = s.pins ∧
    (State.setLockout s src t).free = s.free ∧ (State.setLockout s src t).pending = s.pending := by simp [State.setLockout]

@[simp] theorem startLockout_frame (src : Source) (s : State) :
    (startLockout src s).params = s.params ∧ (startLockout src s).mli = s.mli ∧ (startLockout src s).tc = s.tc ∧
    (startLockout src s).cl = s.cl ∧ (startLockout src s).ll = s.ll ∧ (startLockout src s).ps = s.ps ∧
    (startLockout src s).pins = s.pins ∧ (startLockout src s).free = s.free ∧
    (startLockout src s).pending = s.pending := by simp [startLockout]

@[simp] theorem failAttempt_frame (src : Source) (s : State) :
    (failAttempt src s).params = s.params ∧ (failAttempt src s).mli = s.mli ∧ (failAttempt src s).tc = s.tc ∧
    (failAttempt src s).cl = s.cl ∧ (failAttempt src s).ll = s.ll ∧ (failAttempt src s).ps = s.ps ∧
    (failAttempt src s).pins = s.pins ∧ (failAttempt src s).free = s.free ∧
    (failAttempt src s).pending = s.pending := by
  simp only [failAttempt]
  (repeat' split) <;> simp

@[simp] theorem reportLockoutEnd_frame (src : Source) (s : State) :
    (reportLockoutEnd src s).params = s.params ∧ (reportLockoutEnd src s).mli = s.mli ∧
    (reportLockoutEnd src s).tc = s.tc ∧ (reportLockoutEnd src s).cl = s.cl ∧
    (reportLockoutEnd src s).ce = s.ce ∧ (reportLockoutEnd src s).ll = s.ll ∧
    (reportLockoutEnd src s).ps = s.ps ∧ (reportLockoutEnd src s).pins = s.pins ∧
    (reportLockoutEnd src s).free = s.free ∧ (reportLockoutEnd src s).pending = s.pending := by simp [reportLockoutEnd]

@[simp] theorem endLockout_frame (src : Source) (s : State) :
    (endLockout src s).params = s.params ∧ (endLockout src s).mli = s.mli ∧ (endLockout src s).tc = s.tc ∧
    (endLockout src s).cl = s.cl ∧ (endLockout src s).ll = s.ll ∧ (endLockout src s).ps = s.ps ∧
    (endLockout src s).pins = s.pins ∧ (endLockout src s).free = s.free ∧
    (endLockout src s).pending = s.pending := by simp [endLockout]

@[simp] theorem consumeCode_frame (n : Nat) (s : State) :
    (consumeCode n s).params = s.params ∧ (consumeCode n s).mli = s.mli ∧ (consumeCode n s).be = s.be ∧
    (consumeCode n s).tc = s.tc ∧ (consumeCode n s).cl = s.cl ∧ (consumeCode n s).sss = s.sss ∧
    (consumeCode n s).ll = s.ll ∧ (consumeCode n s).tm = s.tm ∧ (consumeCode n s).tl = s.tl ∧
    (consumeCode n s).ps = s.ps ∧ (consumeCode n s).hlc = s.hlc ∧ (consumeCode n s).pins = s.pins ∧
    (consumeCode n s).free = s.free ∧ (consumeCode n s).pending = s.pending := by simp [consumeCode]

@[simp] theorem apply_frame (o : CodeOutcome) (c : Code) (detail : List Byte) (s : State) :
    (apply o c detail s).state.params = s.params ∧ (apply o c detail s).state.mli = s.mli ∧
    (apply o c detail s).state.be = s.be ∧ (apply o c detail s).state.tc = s.tc ∧
    (apply o c detail s).state.cl = s.cl ∧ (apply o c detail s).state.sss = s.sss ∧
    (apply o c detail s).state.ll = s.ll ∧ (apply o c detail s).state.tm = s.tm ∧
    (apply o c detail s).state.tl = s.tl ∧ (apply o c detail s).state.ps = s.ps ∧
    (apply o c detail s).state.hlc = s.hlc ∧ (apply o c detail s).state.pins = s.pins ∧
    (apply o c detail s).state.free = s.free ∧ (apply o c detail s).state.pending = s.pending := by simp [apply]

@[simp] theorem applyCredit_frame (c : Code) (s : State) :
    (applyCredit c s).state.params = s.params ∧ (applyCredit c s).state.mli = s.mli ∧
    (applyCredit c s).state.be = s.be ∧ (applyCredit c s).state.tc = s.tc ∧ (applyCredit c s).state.ll = s.ll ∧
    (applyCredit c s).state.tm = s.tm ∧ (applyCredit c s).state.tl = s.tl ∧ (applyCredit c s).state.ps = s.ps ∧
    (applyCredit c s).state.pins = s.pins ∧ (applyCredit c s).state.free = s.free ∧
    (applyCredit c s).state.pending = s.pending := by
  simp only [applyCredit]
  (repeat' split) <;> simp

@[simp] theorem applyDebtAdd_frame (c : Code) (s : State) :
    (applyDebtAdd c s).state.params = s.params ∧ (applyDebtAdd c s).state.mli = s.mli ∧
    (applyDebtAdd c s).state.be = s.be ∧ (applyDebtAdd c s).state.tc = s.tc ∧
    (applyDebtAdd c s).state.sss = s.sss ∧ (applyDebtAdd c s).state.ll = s.ll ∧
    (applyDebtAdd c s).state.tm = s.tm ∧ (applyDebtAdd c s).state.tl = s.tl ∧
    (applyDebtAdd c s).state.ps = s.ps ∧ (applyDebtAdd c s).state.pins = s.pins ∧
    (applyDebtAdd c s).state.free = s.free ∧ (applyDebtAdd c s).state.pending = s.pending := by simp [applyDebtAdd]

@[simp] theorem applyRemoteSwitch_frame (c : Code) (s : State) :
    (applyRemoteSwitch c s).state.params = s.params ∧ (applyRemoteSwitch c s).state.mli = s.mli ∧
    (applyRemoteSwitch c s).state.be = s.be ∧ (applyRemoteSwitch c s).state.tc = s.tc ∧
    (applyRemoteSwitch c s).state.cl = s.cl ∧ (applyRemoteSwitch c s).state.ll = s.ll ∧
    (applyRemoteSwitch c s).state.tm = s.tm ∧ (applyRemoteSwitch c s).state.tl = s.tl ∧
    (applyRemoteSwitch c s).state.ps = s.ps ∧ (applyRemoteSwitch c s).state.pins = s.pins ∧
    (applyRemoteSwitch c s).state.free = s.free ∧ (applyRemoteSwitch c s).state.pending = s.pending := by
  simp only [applyRemoteSwitch]
  (repeat' split) <;> simp

@[simp] theorem applyClearTamper_frame (c : Code) (day : Int) (s : State) :
    (applyClearTamper c day s).state.params = s.params ∧ (applyClearTamper c day s).state.mli = s.mli ∧
    (applyClearTamper c day s).state.be = s.be ∧ (applyClearTamper c day s).state.tc = s.tc ∧
    (applyClearTamper c day s).state.cl = s.cl ∧ (applyClearTamper c day s).state.ll = s.ll ∧
    (applyClearTamper c day s).state.ps = s.ps ∧ (applyClearTamper c day s).state.pins = s.pins ∧
    (applyClearTamper c day s).state.free = s.free ∧ (applyClearTamper c day s).state.pending = s.pending := by simp [applyClearTamper]

@[simp] theorem configEffect_frame (index v : Nat) (s : State) :
    (configEffect index v s).mli = s.mli ∧ (configEffect index v s).ce = s.ce ∧
    (configEffect index v s).ll = s.ll ∧ (configEffect index v s).tl = s.tl ∧
    (configEffect index v s).ps = s.ps ∧ (configEffect index v s).pins = s.pins ∧
    (configEffect index v s).free = s.free ∧ (configEffect index v s).pending = s.pending := by
  simp only [configEffect]
  (repeat' split) <;> simp

@[simp] theorem applySetConfig_frame (c : Code) (s : State) :
    (applySetConfig c s).state.mli = s.mli ∧ (applySetConfig c s).state.ll = s.ll ∧
    (applySetConfig c s).state.tl = s.tl ∧ (applySetConfig c s).state.ps = s.ps ∧
    (applySetConfig c s).state.pins = s.pins ∧ (applySetConfig c s).state.free = s.free ∧
    (applySetConfig c s).state.pending = s.pending := by
  simp only [applySetConfig]
  (repeat' split) <;> simp

@[simp] theorem applyTempLimitCode_frame (c : Code) (s : State) :
    (applyTempLimitCode c s).state.params = s.params ∧ (applyTempLimitCode c s).state.mli = s.mli ∧
    (applyTempLimitCode c s).state.be = s.be ∧ (applyTempLimitCode c s).state.tc = s.tc ∧
    (applyTempLimitCode c s).state.cl = s.cl ∧ (applyTempLimitCode c s).state.sss = s.sss ∧
    (applyTempLimitCode c s).state.tm = s.tm ∧ (applyTempLimitCode c s).state.tl = s.tl ∧
    (applyTempLimitCode c s).state.ps = s.ps ∧ (applyTempLimitCode c s).state.hlc = s.hlc ∧
    (applyTempLimitCode c s).state.pins = s.pins ∧ (applyTempLimitCode c s).state.free = s.free ∧
    (applyTempLimitCode c s).state.pending = s.pending := by simp [applyTempLimitCode]

@[simp] theorem applySetClock_frame (c : Code) (day : Int) (s : State) :
    (applySetClock c day s).state.params = s.params ∧ (applySetClock c day s).state.mli = s.mli ∧
    (applySetClock c day s).state.ll = s.ll ∧ (applySetClock c day s).state.tm = s.tm ∧
    (applySetClock c day s).state.tl = s.tl ∧ (applySetClock c day s).state.ps = s.ps ∧
    (applySetClock c day s).state.pins = s.pins ∧ (applySetClock c day s).state.free = s.free ∧
    (applySetClock c day s).state.pending = s.pending := by simp [applySetClock]

@[simp] theorem applySetWeekmap_frame (c : Code) (s : State) :
    (applySetWeekmap c s).state.params = s.params ∧ (applySetWeekmap c s).state.mli = s.mli ∧
    (applySetWeekmap c s).state.ll = s.ll ∧ (applySetWeekmap c s).state.tm = s.tm ∧
    (applySetWeekmap c s).state.tl = s.tl ∧ (applySetWeekmap c s).state.ps = s.ps ∧
    (applySetWeekmap c s).state.pins = s.pins ∧ (applySetWeekmap c s).state.free = s.free ∧
    (applySetWeekmap c s).state.pending = s.pending := by simp [applySetWeekmap]

@[simp] theorem State_setGroup_frame (s : State) (g : Option PendingGroup) :
    (State.setGroup s g).params = s.params ∧ (State.setGroup s g).mli = s.mli ∧ (State.setGroup s g).be = s.be ∧
    (State.setGroup s g).tc = s.tc ∧ (State.setGroup s g).cl = s.cl ∧ (State.setGroup s g).sss = s.sss ∧
    (State.setGroup s g).ll = s.ll ∧ (State.setGroup s g).tm = s.tm ∧ (State.setGroup s g).tl = s.tl ∧
    (State.setGroup s g).ps = s.ps ∧ (State.setGroup s g).hlc = s.hlc ∧ (State.setGroup s g).pins = s.pins ∧
    (State.setGroup s g).free = s.free ∧ (State.setGroup s g).pending = s.pending := by simp [State.setGroup]

@[simp] theorem dropGroup_frame (timeout : Bool) (g : PendingGroup) (s : State) :
    (dropGroup timeout g s).params = s.params ∧ (dropGroup timeout g s).mli = s.mli ∧
    (dropGroup timeout g s).be = s.be ∧ (dropGroup timeout g s).tc = s.tc ∧ (dropGroup timeout g s).cl = s.cl ∧
    (dropGroup timeout g s).sss = s.sss ∧ (dropGroup timeout g s).ll = s.ll ∧
    (dropGroup timeout g s).tm = s.tm ∧ (dropGroup timeout g s).tl = s.tl ∧ (dropGroup timeout g s).ps = s.ps ∧
    (dropGroup timeout g s).pins = s.pins ∧ (dropGroup timeout g s).free = s.free ∧
    (dropGroup timeout g s).pending = s.pending := by simp [dropGroup]

@[simp] theorem compareGroup_frame (c : Code) (s : State) :
    (compareGroup c s).params = s.params ∧ (compareGroup c s).mli = s.mli ∧ (compareGroup c s).be = s.be ∧
    (compareGroup c s).tc = s.tc ∧ (compareGroup c s).cl = s.cl ∧ (compareGroup c s).sss = s.sss ∧
    (compareGroup c s).ll = s.ll ∧ (compareGroup c s).tm = s.tm ∧ (compareGroup c s).tl = s.tl ∧
    (compareGroup c s).ps = s.ps ∧ (compareGroup c s).pins = s.pins ∧ (compareGroup c s).free = s.free ∧
    (compareGroup c s).pending = s.pending := by
  simp only [compareGroup]
  (repeat' split) <;> simp

@[simp] theorem setRate_frame (band : Band) (block : Block) (rate : Nat) (s : State) :
    (setRate band block rate s).params = s.params ∧ (setRate band block rate s).mli = s.mli ∧
    (setRate band block rate s).ce = s.ce ∧ (setRate band block rate s).ll = s.ll ∧
    (setRate band block rate s).tm = s.tm ∧ (setRate band block rate s).tl = s.tl ∧
    (setRate band block rate s).ps = s.ps ∧ (setRate band block rate s).pins = s.pins ∧
    (setRate band block rate s).free = s.free ∧ (setRate band block rate s).pending = s.pending := by simp [setRate]

@[simp] theorem applyRateGroup_frame (content : Nat) (c : Code) (s : State) :
    (applyRateGroup content c s).state.params = s.params ∧ (applyRateGroup content c s).state.mli = s.mli ∧
    (applyRateGroup content c s).state.ll = s.ll ∧ (applyRateGroup content c s).state.tm = s.tm ∧
    (applyRateGroup content c s).state.tl = s.tl ∧ (applyRateGroup content c s).state.ps = s.ps ∧
    (applyRateGroup content c s).state.pins = s.pins ∧ (applyRateGroup content c s).state.free = s.free ∧
    (applyRateGroup content c s).state.pending = s.pending := by
  simp only [applyRateGroup]
  (repeat' split) <;> simp

@[simp] theorem setProfile_frame (which : ProfileId) (points : List SwitchPoint) (s : State) :
    (setProfile which points s).params = s.params ∧ (setProfile which points s).mli = s.mli ∧
    (setProfile which points s).ce = s.ce ∧ (setProfile which points s).ll = s.ll ∧
    (setProfile which points s).tm = s.tm ∧ (setProfile which points s).tl = s.tl ∧
    (setProfile which points s).ps = s.ps ∧ (setProfile which points s).pins = s.pins ∧
    (setProfile which points s).free = s.free ∧ (setProfile which points s).pending = s.pending := by
  simp only [setProfile]
  (repeat' split) <;> simp

@[simp] theorem applyProfileGroup_frame (content : Nat) (c : Code) (s : State) :
    (applyProfileGroup content c s).state.params = s.params ∧
    (applyProfileGroup content c s).state.mli = s.mli ∧ (applyProfileGroup content c s).state.ll = s.ll ∧
    (applyProfileGroup content c s).state.tm = s.tm ∧ (applyProfileGroup content c s).state.tl = s.tl ∧
    (applyProfileGroup content c s).state.ps = s.ps ∧ (applyProfileGroup content c s).state.pins = s.pins ∧
    (applyProfileGroup content c s).state.free = s.free ∧
    (applyProfileGroup content c s).state.pending = s.pending := by
  simp only [applyProfileGroup]
  (repeat' split) <;> simp

@[simp] theorem endIfLocked_frame (before : PerSource Nat) (src : Source) (s : State) :
    (endIfLocked before src s).params = s.params ∧ (endIfLocked before src s).mli = s.mli ∧
    (endIfLocked before src s).tc = s.tc ∧ (endIfLocked before src s).cl = s.cl ∧
    (endIfLocked before src s).ce = s.ce ∧ (endIfLocked before src s).ll = s.ll ∧
    (endIfLocked before src s).ps = s.ps ∧ (endIfLocked before src s).pins = s.pins ∧
    (endIfLocked before src s).free = s.free ∧ (endIfLocked before src s).pending = s.pending := by
  simp only [endIfLocked]
  (repeat' split) <;> simp

@[simp] theorem changeKeys_frame (content : Nat) (s : State) :
    (changeKeys content s).params = s.params ∧ (changeKeys content s).mli = s.mli ∧
    (changeKeys content s).tc = s.tc ∧ (changeKeys content s).cl = s.cl ∧ (changeKeys content s).ll = s.ll ∧
    (changeKeys content s).ps = s.ps ∧ (changeKeys content s).pins = s.pins ∧
    (changeKeys content s).free = s.free ∧ (changeKeys content s).pending = s.pending := by simp [changeKeys]

@[simp] theorem applyKeyGroup_frame (content : Nat) (c : Code) (s : State) :
    (applyKeyGroup content c s).state.params = s.params ∧ (applyKeyGroup content c s).state.mli = s.mli ∧
    (applyKeyGroup content c s).state.tc = s.tc ∧ (applyKeyGroup content c s).state.cl = s.cl ∧
    (applyKeyGroup content c s).state.ll = s.ll ∧ (applyKeyGroup content c s).state.ps = s.ps ∧
    (applyKeyGroup content c s).state.pins = s.pins ∧ (applyKeyGroup content c s).state.free = s.free ∧
    (applyKeyGroup content c s).state.pending = s.pending := by
  simp only [applyKeyGroup]
  (repeat' split) <;> simp

@[simp] theorem completeGroup_frame (g : PendingGroup) (c : Code) (s : State) :
    (completeGroup g c s).state.params = s.params ∧ (completeGroup g c s).state.mli = s.mli ∧
    (completeGroup g c s).state.ll = s.ll ∧ (completeGroup g c s).state.ps = s.ps ∧
    (completeGroup g c s).state.pins = s.pins ∧ (completeGroup g c s).state.free = s.free ∧
    (completeGroup g c s).state.pending = s.pending := by
  simp only [completeGroup]
  (repeat' split) <;> simp

@[simp] theorem applyPart_frame (cls : GroupClass) (src : Source) (c : Code) (s : State) :
    (applyPart cls src c s).state.params = s.params ∧ (applyPart cls src c s).state.mli = s.mli ∧
    (applyPart cls src c s).state.ll = s.ll ∧ (applyPart cls src c s).state.ps = s.ps ∧
    (applyPart cls src c s).state.pins = s.pins ∧ (applyPart cls src c s).state.free = s.free ∧
    (applyPart cls src c s).state.pending = s.pending := by
  simp only [applyPart]
  (repeat' split) <;> simp

@[simp] theorem applyCode_frame (src : Source) (c : Code) (day : Int) (s : State) :
    (applyCode src c day s).state.mli = s.mli ∧ (applyCode src c day s).state.ps = s.ps ∧
    (applyCode src c day s).state.pins = s.pins ∧ (applyCode src c day s).state.free = s.free ∧
    (applyCode src c day s).state.pending = s.pending := by
  simp only [applyCode]
  (repeat' split) <;> simp

@[simp] theorem judgeAuthentic_frame (src : Source) (c : Code) (s : State) :
    (judgeAuthentic src c s).state.mli = s.mli ∧ (judgeAuthentic src c s).state.ps = s.ps ∧
    (judgeAuthentic src c s).state.pins = s.pins ∧ (judgeAuthentic src c s).state.free = s.free ∧
    (judgeAuthentic src c s).state.pending = s.pending := by
  simp only [judgeAuthentic]
  (repeat' split) <;> simp

@[simp] theorem passAuthentic_frame (src : Source) (c : Code) (s : State) :
    (passAuthentic src c s).params = s.params ∧ (passAuthentic src c s).mli = s.mli ∧
    (passAuthentic src c s).be = s.be ∧ (passAuthentic src c s).tc = s.tc ∧ (passAuthentic src c s).cl = s.cl ∧
    (passAuthentic src c s).sss = s.sss ∧ (passAuthentic src c s).ll = s.ll ∧
    (passAuthentic src c s).tm = s.tm ∧ (passAuthentic src c s).tl = s.tl ∧ (passAuthentic src c s).ps = s.ps ∧
    (passAuthentic src c s).pins = s.pins ∧ (passAuthentic src c s).free = s.free ∧
    (passAuthentic src c s).pending = s.pending := by simp [passAuthentic]

@[simp] theorem judgeCode_frame (src : Source) (chars : List Byte) (s : State) :
    (judgeCode src chars s).state.mli = s.mli ∧ (judgeCode src chars s).state.ps = s.ps ∧
    (judgeCode src chars s).state.pins = s.pins ∧ (judgeCode src chars s).state.free = s.free ∧
    (judgeCode src chars s).state.pending = s.pending := by
  simp only [judgeCode]
  (repeat' split) <;> simp

@[simp] theorem lockoutEnd_frame (src : Source) (s : State) :
    (lockoutEnd src s).params = s.params ∧ (lockoutEnd src s).mli = s.mli ∧ (lockoutEnd src s).tc = s.tc ∧
    (lockoutEnd src s).cl = s.cl ∧ (lockoutEnd src s).ll = s.ll ∧ (lockoutEnd src s).ps = s.ps ∧
    (lockoutEnd src s).pins = s.pins ∧ (lockoutEnd src s).free = s.free ∧
    (lockoutEnd src s).pending = s.pending := by
  simp only [lockoutEnd]
  (repeat' split) <;> simp

@[simp] theorem groupTimeout_frame (s : State) :
    (groupTimeout s).params = s.params ∧ (groupTimeout s).mli = s.mli ∧ (groupTimeout s).be = s.be ∧
    (groupTimeout s).tc = s.tc ∧ (groupTimeout s).cl = s.cl ∧ (groupTimeout s).sss = s.sss ∧
    (groupTimeout s).ll = s.ll ∧ (groupTimeout s).tm = s.tm ∧ (groupTimeout s).tl = s.tl ∧
    (groupTimeout s).ps = s.ps ∧ (groupTimeout s).pins = s.pins ∧ (groupTimeout s).free = s.free ∧
    (groupTimeout s).pending = s.pending := by
  simp only [groupTimeout]
  (repeat' split) <;> simp

@[simp] theorem handReply_frame (r : Reply) (s : State) :
    (handReply r s).params = s.params ∧ (handReply r s).mli = s.mli ∧ (handReply r s).be = s.be ∧
    (handReply r s).tc = s.tc ∧ (handReply r s).cl = s.cl ∧ (handReply r s).ce = s.ce ∧
    (handReply r s).sss = s.sss ∧ (handReply r s).ll = s.ll ∧ (handReply r s).tm = s.tm ∧
    (handReply r s).tl = s.tl ∧ (handReply r s).ps = s.ps ∧ (handReply r s).pins = s.pins ∧
    (handReply r s).free = s.free ∧ (handReply r s).pending = s.pending := by simp [handReply]

@[simp] theorem EntryAction_run_frame (a : EntryAction) (s : State) :
    (EntryAction.run a s).params = s.params ∧ (EntryAction.run a s).mli = s.mli ∧
    (EntryAction.run a s).ce = s.ce ∧ (EntryAction.run a s).tl = s.tl ∧ (EntryAction.run a s).ps = s.ps ∧
    (EntryAction.run a s).pins = s.pins ∧ (EntryAction.run a s).free = s.free ∧
    (EntryAction.run a s).pending = s.pending := by
  simp only [EntryAction.run]
  (repeat' split) <;> simp

@[simp] theorem startActive_frame (s : State) :
    (startActive s).params = s.params ∧ (startActive s).tc = s.tc ∧ (startActive s).cl = s.cl ∧
    (startActive s).ce = s.ce ∧ (startActive s).ll = s.ll ∧ (startActive s).tm = s.tm ∧
    (startActive s).tl = s.tl ∧ (startActive s).ps = s.ps ∧ (startActive s).hlc = s.hlc ∧
    (startActive s).pins = s.pins ∧ (startActive s).free = s.free ∧ (startActive s).pending = s.pending := by simp [startActive]

@[simp] theorem enterActive_frame (s : State) :
    (enterActive s).params = s.params ∧ (enterActive s).ce = s.ce ∧ (enterActive s).tl = s.tl ∧
    (enterActive s).ps = s.ps ∧ (enterActive s).pins = s.pins ∧ (enterActive s).pending = s.pending := by
  refine ⟨?_, ?_, ?_, ?_, ?_, ?_⟩
  · simp only [enterActive, State_countDraw_frame]; exact (foldl_keeps State.params _ (fun t x => by simp) _ _).trans (by simp)
  · simp only [enterActive, State_countDraw_frame]; exact (foldl_keeps State.ce _ (fun t x => by simp) _ _).trans (by simp)
  · simp only [enterActive, State_countDraw_frame]; exact (foldl_keeps State.tl _ (fun t x => by simp) _ _).trans (by simp)
  · simp only [enterActive, State_countDraw_frame]; exact (foldl_keeps State.ps _ (fun t x => by simp) _ _).trans (by simp)
  · simp only [enterActive, State_countDraw_frame]; exact (foldl_keeps State.pins _ (fun t x => by simp) _ _).trans (by simp)
  · simp only [enterActive, State_countDraw_frame]; exact (foldl_keeps State.pending _ (fun t x => by simp) _ _).trans (by simp)

@[simp] theorem warmReturn_frame (s : State) :
    (warmReturn s).params = s.params ∧ (warmReturn s).ce = s.ce ∧ (warmReturn s).tl = s.tl ∧
    (warmReturn s).pins = s.pins ∧ (warmReturn s).pending = s.pending := by simp [warmReturn]

@[simp] theorem reconcile_frame (s : State) :
    (reconcile s).params = s.params ∧ (reconcile s).mli = s.mli ∧ (reconcile s).be = s.be ∧
    (reconcile s).tc = s.tc ∧ (reconcile s).cl = s.cl ∧ (reconcile s).ce = s.ce ∧ (reconcile s).sss = s.sss ∧
    (reconcile s).ll = s.ll ∧ (reconcile s).ps = s.ps ∧ (reconcile s).hlc = s.hlc ∧
    (reconcile s).pins = s.pins ∧ (reconcile s).free = s.free ∧ (reconcile s).pending = s.pending := by simp [reconcile]

@[simp] theorem restoreFrom_frame (img : Image) (s : State) :
    (restoreFrom img s).pins = s.pins ∧ (restoreFrom img s).pending = s.pending := by simp [restoreFrom, restoredState]

@[simp] theorem enterShelf_frame (s : State) :
    (enterShelf s).pins = s.pins ∧ (enterShelf s).pending = s.pending := by simp [enterShelf, manufactured]

@[simp] theorem startCore_frame (s : State) :
    (startCore s).pins = s.pins ∧ (startCore s).pending = s.pending := by
  simp only [startCore]
  (repeat' split) <;> simp

@[simp] theorem enterDormant_frame (s : State) :
    (enterDormant s).params = s.params ∧ (enterDormant s).mli = s.mli ∧ (enterDormant s).be = s.be ∧
    (enterDormant s).tc = s.tc ∧ (enterDormant s).cl = s.cl ∧ (enterDormant s).ce = s.ce ∧
    (enterDormant s).sss = s.sss ∧ (enterDormant s).ll = s.ll ∧ (enterDormant s).tm = s.tm ∧
    (enterDormant s).tl = s.tl ∧ (enterDormant s).hlc = s.hlc ∧ (enterDormant s).pins = s.pins ∧
    (enterDormant s).free = s.free ∧ (enterDormant s).pending = s.pending := by simp [enterDormant]

@[simp] theorem departBlocks_frame (s : State) :
    (departBlocks s).params = s.params ∧ (departBlocks s).tc = s.tc ∧ (departBlocks s).cl = s.cl ∧
    (departBlocks s).ce = s.ce ∧ (departBlocks s).tl = s.tl ∧ (departBlocks s).pins = s.pins ∧
    (departBlocks s).free = s.free ∧ (departBlocks s).pending = s.pending := by simp [departBlocks]

@[simp] theorem enterHoldup_frame (s : State) :
    (enterHoldup s).params = s.params ∧ (enterHoldup s).tc = s.tc ∧ (enterHoldup s).cl = s.cl ∧
    (enterHoldup s).ce = s.ce ∧ (enterHoldup s).tl = s.tl ∧ (enterHoldup s).pins = s.pins ∧
    (enterHoldup s).free = s.free ∧ (enterHoldup s).pending = s.pending := by
  simp only [enterHoldup]
  (repeat' split) <;> simp

@[simp] theorem restartPeriodic_frame (s : State) :
    (restartPeriodic s).params = s.params ∧ (restartPeriodic s).mli = s.mli ∧ (restartPeriodic s).be = s.be ∧
    (restartPeriodic s).tc = s.tc ∧ (restartPeriodic s).cl = s.cl ∧ (restartPeriodic s).ce = s.ce ∧
    (restartPeriodic s).sss = s.sss ∧ (restartPeriodic s).ll = s.ll ∧ (restartPeriodic s).tm = s.tm ∧
    (restartPeriodic s).tl = s.tl ∧ (restartPeriodic s).hlc = s.hlc ∧ (restartPeriodic s).pins = s.pins ∧
    (restartPeriodic s).free = s.free ∧ (restartPeriodic s).pending = s.pending := by
  simp only [restartPeriodic]
  (repeat' split) <;> simp

@[simp] theorem writeFollows_frame (occ : Occasion) (good : Bool) (s : State) :
    (writeFollows occ good s).params = s.params ∧ (writeFollows occ good s).mli = s.mli ∧
    (writeFollows occ good s).be = s.be ∧ (writeFollows occ good s).tc = s.tc ∧
    (writeFollows occ good s).cl = s.cl ∧ (writeFollows occ good s).ce = s.ce ∧
    (writeFollows occ good s).ll = s.ll ∧ (writeFollows occ good s).tm = s.tm ∧
    (writeFollows occ good s).tl = s.tl ∧ (writeFollows occ good s).pins = s.pins ∧
    (writeFollows occ good s).free = s.free ∧ (writeFollows occ good s).pending = s.pending := by
  simp only [writeFollows]
  (repeat' split) <;> simp

@[simp] theorem beginNext_frame (s : State) :
    (beginNext s).params = s.params ∧ (beginNext s).mli = s.mli ∧ (beginNext s).be = s.be ∧
    (beginNext s).tc = s.tc ∧ (beginNext s).cl = s.cl ∧ (beginNext s).ce = s.ce ∧ (beginNext s).sss = s.sss ∧
    (beginNext s).ll = s.ll ∧ (beginNext s).tm = s.tm ∧ (beginNext s).tl = s.tl ∧ (beginNext s).hlc = s.hlc ∧
    (beginNext s).pins = s.pins ∧ (beginNext s).free = s.free ∧ (beginNext s).pending = s.pending := by
  simp only [beginNext]
  (repeat' split) <;> simp

@[simp] theorem releaseHoldup_frame (s : State) :
    (releaseHoldup s).params = s.params ∧ (releaseHoldup s).tc = s.tc ∧ (releaseHoldup s).cl = s.cl ∧
    (releaseHoldup s).ce = s.ce ∧ (releaseHoldup s).tl = s.tl ∧ (releaseHoldup s).pins = s.pins ∧
    (releaseHoldup s).free = s.free ∧ (releaseHoldup s).pending = s.pending := by
  simp only [releaseHoldup]
  (repeat' split) <;> simp

@[simp] theorem writeDone_frame (good : Bool) (s : State) :
    (writeDone good s).params = s.params ∧ (writeDone good s).tc = s.tc ∧ (writeDone good s).cl = s.cl ∧
    (writeDone good s).ce = s.ce ∧ (writeDone good s).tl = s.tl ∧ (writeDone good s).pins = s.pins ∧
    (writeDone good s).free = s.free ∧ (writeDone good s).pending = s.pending := by
  simp only [writeDone]
  (repeat' split) <;> simp

@[simp] theorem vmainFall_frame (s : State) :
    (vmainFall s).params = s.params ∧ (vmainFall s).mli = s.mli ∧ (vmainFall s).be = s.be ∧
    (vmainFall s).tc = s.tc ∧ (vmainFall s).cl = s.cl ∧ (vmainFall s).ce = s.ce ∧ (vmainFall s).sss = s.sss ∧
    (vmainFall s).ll = s.ll ∧ (vmainFall s).tm = s.tm ∧ (vmainFall s).tl = s.tl ∧ (vmainFall s).hlc = s.hlc ∧
    (vmainFall s).free = s.free ∧ (vmainFall s).pending = s.pending := by
  simp only [vmainFall]
  (repeat' split) <;> simp

@[simp] theorem vmainRise_frame (s : State) :
    (vmainRise s).params = s.params ∧ (vmainRise s).mli = s.mli ∧ (vmainRise s).be = s.be ∧
    (vmainRise s).tc = s.tc ∧ (vmainRise s).cl = s.cl ∧ (vmainRise s).ce = s.ce ∧ (vmainRise s).sss = s.sss ∧
    (vmainRise s).ll = s.ll ∧ (vmainRise s).tm = s.tm ∧ (vmainRise s).tl = s.tl ∧ (vmainRise s).hlc = s.hlc ∧
    (vmainRise s).free = s.free ∧ (vmainRise s).pending = s.pending := by
  simp only [vmainRise]
  (repeat' split) <;> simp

@[simp] theorem holdupEntry_frame (vbackGood : Bool) (s : State) :
    (holdupEntry vbackGood s).params = s.params ∧ (holdupEntry vbackGood s).tc = s.tc ∧
    (holdupEntry vbackGood s).cl = s.cl ∧ (holdupEntry vbackGood s).ce = s.ce ∧
    (holdupEntry vbackGood s).tl = s.tl ∧ (holdupEntry vbackGood s).free = s.free ∧
    (holdupEntry vbackGood s).pending = s.pending := by
  simp only [holdupEntry]
  (repeat' split) <;> simp

@[simp] theorem shelfPowerLoss_frame (s : State) :
    (shelfPowerLoss s).pins = s.pins ∧ (shelfPowerLoss s).pending = s.pending := by
  simp only [shelfPowerLoss]
  split <;> simp [manufactured]

@[simp] theorem doReturn_frame (s : State) :
    (doReturn s).pins = s.pins ∧ (doReturn s).pending = s.pending := by
  simp only [doReturn]
  (repeat' split) <;> simp

@[simp] theorem returnDecision_frame (s : State) :
    (returnDecision s).pins = s.pins ∧ (returnDecision s).pending = s.pending := by
  simp only [returnDecision]
  (repeat' split) <;> simp

@[simp] theorem deferredReturn_frame (s : State) :
    (deferredReturn s).pins = s.pins ∧ (deferredReturn s).pending = s.pending := by
  simp only [deferredReturn]
  (repeat' split) <;> simp

@[simp] theorem dormantEntry_frame (s : State) :
    (dormantEntry s).params = s.params ∧ (dormantEntry s).mli = s.mli ∧ (dormantEntry s).be = s.be ∧
    (dormantEntry s).tc = s.tc ∧ (dormantEntry s).cl = s.cl ∧ (dormantEntry s).ce = s.ce ∧
    (dormantEntry s).sss = s.sss ∧ (dormantEntry s).ll = s.ll ∧ (dormantEntry s).tm = s.tm ∧
    (dormantEntry s).tl = s.tl ∧ (dormantEntry s).hlc = s.hlc ∧ (dormantEntry s).free = s.free ∧
    (dormantEntry s).pending = s.pending := by
  simp only [dormantEntry]
  (repeat' split) <;> simp

@[simp] theorem powerUp_frame (s : State) :
    (powerUp s).pins = s.pins ∧ (powerUp s).pending = s.pending := by
  simp only [powerUp]
  (repeat' split) <;> simp

@[simp] theorem startPeriodic_frame (s : State) :
    (startPeriodic s).params = s.params ∧ (startPeriodic s).mli = s.mli ∧ (startPeriodic s).be = s.be ∧
    (startPeriodic s).tc = s.tc ∧ (startPeriodic s).cl = s.cl ∧ (startPeriodic s).ce = s.ce ∧
    (startPeriodic s).sss = s.sss ∧ (startPeriodic s).ll = s.ll ∧ (startPeriodic s).tm = s.tm ∧
    (startPeriodic s).tl = s.tl ∧ (startPeriodic s).pins = s.pins ∧ (startPeriodic s).free = s.free ∧
    (startPeriodic s).pending = s.pending := by simp [startPeriodic]

@[simp] theorem periodicCheckpoint_frame (s : State) :
    (periodicCheckpoint s).params = s.params ∧ (periodicCheckpoint s).mli = s.mli ∧
    (periodicCheckpoint s).be = s.be ∧ (periodicCheckpoint s).tc = s.tc ∧ (periodicCheckpoint s).cl = s.cl ∧
    (periodicCheckpoint s).ce = s.ce ∧ (periodicCheckpoint s).sss = s.sss ∧ (periodicCheckpoint s).ll = s.ll ∧
    (periodicCheckpoint s).tm = s.tm ∧ (periodicCheckpoint s).tl = s.tl ∧ (periodicCheckpoint s).pins = s.pins ∧
    (periodicCheckpoint s).free = s.free ∧ (periodicCheckpoint s).pending = s.pending := by
  simp only [periodicCheckpoint]
  (repeat' split) <;> simp

@[simp] theorem deferredPeriodicWrite_frame (s : State) :
    (deferredPeriodicWrite s).params = s.params ∧ (deferredPeriodicWrite s).mli = s.mli ∧
    (deferredPeriodicWrite s).be = s.be ∧ (deferredPeriodicWrite s).tc = s.tc ∧
    (deferredPeriodicWrite s).cl = s.cl ∧ (deferredPeriodicWrite s).ce = s.ce ∧
    (deferredPeriodicWrite s).sss = s.sss ∧ (deferredPeriodicWrite s).ll = s.ll ∧
    (deferredPeriodicWrite s).tm = s.tm ∧ (deferredPeriodicWrite s).tl = s.tl ∧
    (deferredPeriodicWrite s).pins = s.pins ∧ (deferredPeriodicWrite s).free = s.free ∧
    (deferredPeriodicWrite s).pending = s.pending := by
  simp only [deferredPeriodicWrite]
  (repeat' split) <;> simp

@[simp] theorem reserveExhausted_frame (s : State) :
    (reserveExhausted s).params = s.params ∧ (reserveExhausted s).tc = s.tc ∧ (reserveExhausted s).cl = s.cl ∧
    (reserveExhausted s).ce = s.ce ∧ (reserveExhausted s).tl = s.tl ∧ (reserveExhausted s).pins = s.pins ∧
    (reserveExhausted s).free = s.free ∧ (reserveExhausted s).pending = s.pending := by
  simp only [reserveExhausted]
  (repeat' split) <;> simp

@[simp] theorem commissionCalendar_frame (r : CommissionRequest) (s : State) :
    (commissionCalendar r s).mli = s.mli ∧ (commissionCalendar r s).ce = s.ce ∧
    (commissionCalendar r s).ll = s.ll ∧ (commissionCalendar r s).tm = s.tm ∧
    (commissionCalendar r s).tl = s.tl ∧ (commissionCalendar r s).ps = s.ps ∧
    (commissionCalendar r s).pins = s.pins ∧ (commissionCalendar r s).free = s.free ∧
    (commissionCalendar r s).pending = s.pending := by simp [commissionCalendar]

@[simp] theorem commissionBlocks_frame (r : CommissionRequest) (s : State) :
    (commissionBlocks r s).params = s.params ∧ (commissionBlocks r s).tc = s.tc ∧
    (commissionBlocks r s).cl = s.cl ∧ (commissionBlocks r s).tm = s.tm ∧ (commissionBlocks r s).tl = s.tl ∧
    (commissionBlocks r s).ps = s.ps ∧ (commissionBlocks r s).hlc = s.hlc ∧
    (commissionBlocks r s).pins = s.pins ∧ (commissionBlocks r s).free = s.free ∧
    (commissionBlocks r s).pending = s.pending := by simp [commissionBlocks]

@[simp] theorem commissionLedger_frame (r : CommissionRequest) (s : State) :
    (commissionLedger r s).params = s.params ∧ (commissionLedger r s).mli = s.mli ∧
    (commissionLedger r s).be = s.be ∧ (commissionLedger r s).tc = s.tc ∧ (commissionLedger r s).ce = s.ce ∧
    (commissionLedger r s).ll = s.ll ∧ (commissionLedger r s).tm = s.tm ∧ (commissionLedger r s).tl = s.tl ∧
    (commissionLedger r s).ps = s.ps ∧ (commissionLedger r s).pins = s.pins ∧
    (commissionLedger r s).free = s.free ∧ (commissionLedger r s).pending = s.pending := by simp [commissionLedger]

@[simp] theorem commissionTamper_frame (s : State) :
    (commissionTamper s).params = s.params ∧ (commissionTamper s).mli = s.mli ∧ (commissionTamper s).be = s.be ∧
    (commissionTamper s).tc = s.tc ∧ (commissionTamper s).cl = s.cl ∧ (commissionTamper s).ce = s.ce ∧
    (commissionTamper s).ll = s.ll ∧ (commissionTamper s).ps = s.ps ∧ (commissionTamper s).pins = s.pins ∧
    (commissionTamper s).free = s.free ∧ (commissionTamper s).pending = s.pending := by simp [commissionTamper]

@[simp] theorem commissionEntry_frame (r : CommissionRequest) (s : State) :
    (commissionEntry r s).params = s.params ∧ (commissionEntry r s).ce = s.ce ∧
    (commissionEntry r s).tl = s.tl ∧ (commissionEntry r s).pins = s.pins ∧
    (commissionEntry r s).free = s.free ∧ (commissionEntry r s).pending = s.pending := by simp [commissionEntry]

@[simp] theorem commission_frame (r : CommissionRequest) (reply : Reply) (s : State) :
    (commission r reply s).pins = s.pins ∧ (commission r reply s).free = s.free ∧
    (commission r reply s).pending = s.pending := by simp [commission]

@[simp] theorem replyOk_frame (kind : Byte) (result : List Byte) (s : State) :
    (replyOk kind result s).params = s.params ∧ (replyOk kind result s).mli = s.mli ∧
    (replyOk kind result s).be = s.be ∧ (replyOk kind result s).tc = s.tc ∧ (replyOk kind result s).cl = s.cl ∧
    (replyOk kind result s).ce = s.ce ∧ (replyOk kind result s).sss = s.sss ∧
    (replyOk kind result s).ll = s.ll ∧ (replyOk kind result s).tm = s.tm ∧ (replyOk kind result s).tl = s.tl ∧
    (replyOk kind result s).ps = s.ps ∧ (replyOk kind result s).pins = s.pins ∧
    (replyOk kind result s).free = s.free ∧ (replyOk kind result s).pending = s.pending := by simp [replyOk]

@[simp] theorem doIdentify_frame (s : State) :
    (doIdentify s).params = s.params ∧ (doIdentify s).mli = s.mli ∧ (doIdentify s).be = s.be ∧
    (doIdentify s).tc = s.tc ∧ (doIdentify s).cl = s.cl ∧ (doIdentify s).ce = s.ce ∧
    (doIdentify s).sss = s.sss ∧ (doIdentify s).ll = s.ll ∧ (doIdentify s).tm = s.tm ∧
    (doIdentify s).tl = s.tl ∧ (doIdentify s).ps = s.ps ∧ (doIdentify s).pins = s.pins ∧
    (doIdentify s).free = s.free ∧ (doIdentify s).pending = s.pending := by simp [doIdentify]

@[simp] theorem doGetStatus_frame (s : State) :
    (doGetStatus s).params = s.params ∧ (doGetStatus s).mli = s.mli ∧ (doGetStatus s).be = s.be ∧
    (doGetStatus s).tc = s.tc ∧ (doGetStatus s).cl = s.cl ∧ (doGetStatus s).ce = s.ce ∧
    (doGetStatus s).sss = s.sss ∧ (doGetStatus s).ll = s.ll ∧ (doGetStatus s).tm = s.tm ∧
    (doGetStatus s).tl = s.tl ∧ (doGetStatus s).ps = s.ps ∧ (doGetStatus s).pins = s.pins ∧
    (doGetStatus s).free = s.free ∧ (doGetStatus s).pending = s.pending := by simp [doGetStatus]

@[simp] theorem doGetLedger_frame (s : State) :
    (doGetLedger s).params = s.params ∧ (doGetLedger s).mli = s.mli ∧ (doGetLedger s).be = s.be ∧
    (doGetLedger s).tc = s.tc ∧ (doGetLedger s).cl = s.cl ∧ (doGetLedger s).ce = s.ce ∧
    (doGetLedger s).sss = s.sss ∧ (doGetLedger s).ll = s.ll ∧ (doGetLedger s).tm = s.tm ∧
    (doGetLedger s).tl = s.tl ∧ (doGetLedger s).ps = s.ps ∧ (doGetLedger s).pins = s.pins ∧
    (doGetLedger s).free = s.free ∧ (doGetLedger s).pending = s.pending := by simp [doGetLedger]

@[simp] theorem doGetEnergy_frame (s : State) :
    (doGetEnergy s).params = s.params ∧ (doGetEnergy s).mli = s.mli ∧ (doGetEnergy s).be = s.be ∧
    (doGetEnergy s).tc = s.tc ∧ (doGetEnergy s).cl = s.cl ∧ (doGetEnergy s).ce = s.ce ∧
    (doGetEnergy s).sss = s.sss ∧ (doGetEnergy s).ll = s.ll ∧ (doGetEnergy s).tm = s.tm ∧
    (doGetEnergy s).tl = s.tl ∧ (doGetEnergy s).ps = s.ps ∧ (doGetEnergy s).pins = s.pins ∧
    (doGetEnergy s).free = s.free ∧ (doGetEnergy s).pending = s.pending := by simp [doGetEnergy]

@[simp] theorem doGetTariff_frame (s : State) :
    (doGetTariff s).params = s.params ∧ (doGetTariff s).mli = s.mli ∧ (doGetTariff s).be = s.be ∧
    (doGetTariff s).tc = s.tc ∧ (doGetTariff s).cl = s.cl ∧ (doGetTariff s).ce = s.ce ∧
    (doGetTariff s).sss = s.sss ∧ (doGetTariff s).ll = s.ll ∧ (doGetTariff s).tm = s.tm ∧
    (doGetTariff s).tl = s.tl ∧ (doGetTariff s).ps = s.ps ∧ (doGetTariff s).pins = s.pins ∧
    (doGetTariff s).free = s.free ∧ (doGetTariff s).pending = s.pending := by simp [doGetTariff]

@[simp] theorem doGetTime_frame (s : State) :
    (doGetTime s).params = s.params ∧ (doGetTime s).mli = s.mli ∧ (doGetTime s).be = s.be ∧
    (doGetTime s).tc = s.tc ∧ (doGetTime s).cl = s.cl ∧ (doGetTime s).ce = s.ce ∧ (doGetTime s).sss = s.sss ∧
    (doGetTime s).ll = s.ll ∧ (doGetTime s).tm = s.tm ∧ (doGetTime s).tl = s.tl ∧ (doGetTime s).ps = s.ps ∧
    (doGetTime s).pins = s.pins ∧ (doGetTime s).free = s.free ∧ (doGetTime s).pending = s.pending := by simp [doGetTime]

@[simp] theorem doGetEvents_frame (s : State) :
    (doGetEvents s).params = s.params ∧ (doGetEvents s).mli = s.mli ∧ (doGetEvents s).be = s.be ∧
    (doGetEvents s).tc = s.tc ∧ (doGetEvents s).cl = s.cl ∧ (doGetEvents s).ce = s.ce ∧
    (doGetEvents s).sss = s.sss ∧ (doGetEvents s).ll = s.ll ∧ (doGetEvents s).tm = s.tm ∧
    (doGetEvents s).tl = s.tl ∧ (doGetEvents s).ps = s.ps ∧ (doGetEvents s).pins = s.pins ∧
    (doGetEvents s).free = s.free ∧ (doGetEvents s).pending = s.pending := by simp [doGetEvents]

@[simp] theorem doReadTamperLog_frame (payload : List Byte) (s : State) :
    (doReadTamperLog payload s).params = s.params ∧ (doReadTamperLog payload s).mli = s.mli ∧
    (doReadTamperLog payload s).be = s.be ∧ (doReadTamperLog payload s).tc = s.tc ∧
    (doReadTamperLog payload s).cl = s.cl ∧ (doReadTamperLog payload s).ce = s.ce ∧
    (doReadTamperLog payload s).sss = s.sss ∧ (doReadTamperLog payload s).ll = s.ll ∧
    (doReadTamperLog payload s).tm = s.tm ∧ (doReadTamperLog payload s).tl = s.tl ∧
    (doReadTamperLog payload s).ps = s.ps ∧ (doReadTamperLog payload s).pins = s.pins ∧
    (doReadTamperLog payload s).free = s.free ∧ (doReadTamperLog payload s).pending = s.pending := by simp [doReadTamperLog]

@[simp] theorem replyJudged_frame (j : Judged) :
    (replyJudged j).params = j.state.params ∧ (replyJudged j).mli = j.state.mli ∧
    (replyJudged j).be = j.state.be ∧ (replyJudged j).tc = j.state.tc ∧ (replyJudged j).cl = j.state.cl ∧
    (replyJudged j).ce = j.state.ce ∧ (replyJudged j).sss = j.state.sss ∧ (replyJudged j).ll = j.state.ll ∧
    (replyJudged j).tm = j.state.tm ∧ (replyJudged j).tl = j.state.tl ∧ (replyJudged j).pins = j.state.pins ∧
    (replyJudged j).free = j.state.free ∧ (replyJudged j).pending = j.state.pending := by
  simp only [replyJudged]
  (repeat' split) <;> simp

@[simp] theorem doSubmitCode_frame (payload : List Byte) (s : State) :
    (doSubmitCode payload s).mli = s.mli ∧ (doSubmitCode payload s).pins = s.pins ∧
    (doSubmitCode payload s).free = s.free ∧ (doSubmitCode payload s).pending = s.pending := by simp [doSubmitCode]

@[simp] theorem restorePress_frame (s : State) :
    (restorePress s).params = s.params ∧ (restorePress s).mli = s.mli ∧ (restorePress s).be = s.be ∧
    (restorePress s).tc = s.tc ∧ (restorePress s).cl = s.cl ∧ (restorePress s).ce = s.ce ∧
    (restorePress s).tm = s.tm ∧ (restorePress s).tl = s.tl ∧ (restorePress s).ps = s.ps ∧
    (restorePress s).pins = s.pins ∧ (restorePress s).free = s.free ∧ (restorePress s).pending = s.pending := by
  simp only [restorePress]
  (repeat' split) <;> simp

@[simp] theorem doRestore_frame (s : State) :
    (doRestore s).params = s.params ∧ (doRestore s).mli = s.mli ∧ (doRestore s).be = s.be ∧
    (doRestore s).tc = s.tc ∧ (doRestore s).cl = s.cl ∧ (doRestore s).ce = s.ce ∧ (doRestore s).tm = s.tm ∧
    (doRestore s).tl = s.tl ∧ (doRestore s).ps = s.ps ∧ (doRestore s).pins = s.pins ∧
    (doRestore s).free = s.free ∧ (doRestore s).pending = s.pending := by
  simp only [doRestore]
  (repeat' split) <;> simp

@[simp] theorem doAcceptEmergency_frame (s : State) :
    (doAcceptEmergency s).params = s.params ∧ (doAcceptEmergency s).mli = s.mli ∧
    (doAcceptEmergency s).be = s.be ∧ (doAcceptEmergency s).tc = s.tc ∧ (doAcceptEmergency s).ce = s.ce ∧
    (doAcceptEmergency s).ll = s.ll ∧ (doAcceptEmergency s).tm = s.tm ∧ (doAcceptEmergency s).tl = s.tl ∧
    (doAcceptEmergency s).ps = s.ps ∧ (doAcceptEmergency s).pins = s.pins ∧
    (doAcceptEmergency s).free = s.free ∧ (doAcceptEmergency s).pending = s.pending := by
  simp only [doAcceptEmergency]
  (repeat' split) <;> simp

@[simp] theorem doCustomerKey_frame (payload : List Byte) (s : State) :
    (doCustomerKey payload s).params = s.params ∧ (doCustomerKey payload s).mli = s.mli ∧
    (doCustomerKey payload s).be = s.be ∧ (doCustomerKey payload s).tc = s.tc ∧
    (doCustomerKey payload s).ce = s.ce ∧ (doCustomerKey payload s).tm = s.tm ∧
    (doCustomerKey payload s).tl = s.tl ∧ (doCustomerKey payload s).ps = s.ps ∧
    (doCustomerKey payload s).pins = s.pins ∧ (doCustomerKey payload s).free = s.free ∧
    (doCustomerKey payload s).pending = s.pending := by
  simp only [doCustomerKey]
  (repeat' split) <;> simp

@[simp] theorem doTrimClock_frame (payload : List Byte) (s : State) :
    (doTrimClock payload s).params = s.params ∧ (doTrimClock payload s).mli = s.mli ∧
    (doTrimClock payload s).ce = s.ce ∧ (doTrimClock payload s).ll = s.ll ∧ (doTrimClock payload s).tm = s.tm ∧
    (doTrimClock payload s).tl = s.tl ∧ (doTrimClock payload s).ps = s.ps ∧
    (doTrimClock payload s).pins = s.pins ∧ (doTrimClock payload s).free = s.free ∧
    (doTrimClock payload s).pending = s.pending := by simp [doTrimClock]

@[simp] theorem doCommission_frame (payload : List Byte) (s : State) :
    (doCommission payload s).pins = s.pins ∧ (doCommission payload s).free = s.free ∧
    (doCommission payload s).pending = s.pending := by simp [doCommission]

@[simp] theorem runRequest_frame (kind : Byte) (payload : List Byte) (s : State) :
    (runRequest kind payload s).pins = s.pins ∧ (runRequest kind payload s).free = s.free ∧
    (runRequest kind payload s).pending = s.pending := by
  simp only [runRequest]
  (repeat' split) <;> simp

@[simp] theorem takeRequest_frame (kind : Byte) (payload : List Byte) (s : State) :
    (takeRequest kind payload s).pins = s.pins ∧ (takeRequest kind payload s).free = s.free ∧
    (takeRequest kind payload s).pending = s.pending := by
  simp only [takeRequest]
  (repeat' split) <;> simp

@[simp] theorem takeFrame_frame (kind : Byte) (payload : List Byte) (s : State) :
    (takeFrame kind payload s).pins = s.pins ∧ (takeFrame kind payload s).free = s.free ∧
    (takeFrame kind payload s).pending = s.pending := by
  simp only [takeFrame]
  (repeat' split) <;> simp

@[simp] theorem State_setRx_frame (s : State) (rx : Option PartialFrame) :
    (State.setRx s rx).params = s.params ∧ (State.setRx s rx).mli = s.mli ∧ (State.setRx s rx).be = s.be ∧
    (State.setRx s rx).tc = s.tc ∧ (State.setRx s rx).cl = s.cl ∧ (State.setRx s rx).ce = s.ce ∧
    (State.setRx s rx).sss = s.sss ∧ (State.setRx s rx).ll = s.ll ∧ (State.setRx s rx).tm = s.tm ∧
    (State.setRx s rx).tl = s.tl ∧ (State.setRx s rx).ps = s.ps ∧ (State.setRx s rx).pins = s.pins ∧
    (State.setRx s rx).free = s.free ∧ (State.setRx s rx).pending = s.pending := by simp [State.setRx]

@[simp] theorem frameComplete_frame (bytes : List Byte) (n : Nat) (s : State) :
    (frameComplete bytes n s).pins = s.pins ∧ (frameComplete bytes n s).free = s.free ∧
    (frameComplete bytes n s).pending = s.pending := by
  simp only [frameComplete]
  (repeat' split) <;> simp

@[simp] theorem collectByte_frame (bytes : List Byte) (s : State) :
    (collectByte bytes s).pins = s.pins ∧ (collectByte bytes s).free = s.free ∧
    (collectByte bytes s).pending = s.pending := by
  simp only [collectByte]
  (repeat' split) <;> simp

@[simp] theorem receiveByte_frame (s : State) (b : LineByte) :
    (receiveByte s b).pins = s.pins ∧ (receiveByte s b).free = s.free ∧
    (receiveByte s b).pending = s.pending := by
  simp only [receiveByte]
  (repeat' split) <;> simp

@[simp] theorem frameTimeout_frame (s : State) :
    (frameTimeout s).params = s.params ∧ (frameTimeout s).mli = s.mli ∧ (frameTimeout s).be = s.be ∧
    (frameTimeout s).tc = s.tc ∧ (frameTimeout s).cl = s.cl ∧ (frameTimeout s).ce = s.ce ∧
    (frameTimeout s).sss = s.sss ∧ (frameTimeout s).ll = s.ll ∧ (frameTimeout s).tm = s.tm ∧
    (frameTimeout s).tl = s.tl ∧ (frameTimeout s).ps = s.ps ∧ (frameTimeout s).pins = s.pins ∧
    (frameTimeout s).free = s.free ∧ (frameTimeout s).pending = s.pending := by
  simp only [frameTimeout]
  (repeat' split) <;> simp

@[simp] theorem linkResetAssert_frame (s : State) :
    (linkResetAssert s).params = s.params ∧ (linkResetAssert s).mli = s.mli ∧ (linkResetAssert s).be = s.be ∧
    (linkResetAssert s).tc = s.tc ∧ (linkResetAssert s).cl = s.cl ∧ (linkResetAssert s).ce = s.ce ∧
    (linkResetAssert s).sss = s.sss ∧ (linkResetAssert s).ll = s.ll ∧ (linkResetAssert s).tm = s.tm ∧
    (linkResetAssert s).tl = s.tl ∧ (linkResetAssert s).ps = s.ps ∧ (linkResetAssert s).free = s.free ∧
    (linkResetAssert s).pending = s.pending := by
  simp only [linkResetAssert]
  (repeat' split) <;> simp

@[simp] theorem linkResetRelease_frame (s : State) :
    (linkResetRelease s).params = s.params ∧ (linkResetRelease s).mli = s.mli ∧ (linkResetRelease s).be = s.be ∧
    (linkResetRelease s).tc = s.tc ∧ (linkResetRelease s).cl = s.cl ∧ (linkResetRelease s).ce = s.ce ∧
    (linkResetRelease s).sss = s.sss ∧ (linkResetRelease s).ll = s.ll ∧ (linkResetRelease s).tm = s.tm ∧
    (linkResetRelease s).tl = s.tl ∧ (linkResetRelease s).ps = s.ps ∧ (linkResetRelease s).free = s.free ∧
    (linkResetRelease s).pending = s.pending := by
  simp only [linkResetRelease]
  (repeat' split) <;> simp

@[simp] theorem arrival_frame (r : IntervalRecord) (s : State) :
    (arrival r s).params = s.params ∧ (arrival r s).tc = s.tc ∧ (arrival r s).cl = s.cl ∧
    (arrival r s).ce = s.ce ∧ (arrival r s).ll = s.ll ∧ (arrival r s).ps = s.ps ∧ (arrival r s).pins = s.pins ∧
    (arrival r s).free = s.free ∧ (arrival r s).pending = s.pending := by simp [arrival]

@[simp] theorem burstEnd_frame (bytes : List LineByte) (s : State) :
    (burstEnd bytes s).params = s.params ∧ (burstEnd bytes s).tc = s.tc ∧ (burstEnd bytes s).cl = s.cl ∧
    (burstEnd bytes s).ce = s.ce ∧ (burstEnd bytes s).ll = s.ll ∧ (burstEnd bytes s).ps = s.ps ∧
    (burstEnd bytes s).pins = s.pins ∧ (burstEnd bytes s).free = s.free ∧
    (burstEnd bytes s).pending = s.pending := by
  simp only [burstEnd]
  (repeat' split) <;> simp

@[simp] theorem reportSilence_frame (s : State) :
    (reportSilence s).params = s.params ∧ (reportSilence s).tc = s.tc ∧ (reportSilence s).cl = s.cl ∧
    (reportSilence s).ce = s.ce ∧ (reportSilence s).ll = s.ll ∧ (reportSilence s).ps = s.ps ∧
    (reportSilence s).pins = s.pins ∧ (reportSilence s).free = s.free ∧
    (reportSilence s).pending = s.pending := by simp [reportSilence]

@[simp] theorem silenceReport_frame (s : State) :
    (silenceReport s).params = s.params ∧ (silenceReport s).tc = s.tc ∧ (silenceReport s).cl = s.cl ∧
    (silenceReport s).ce = s.ce ∧ (silenceReport s).ll = s.ll ∧ (silenceReport s).ps = s.ps ∧
    (silenceReport s).pins = s.pins ∧ (silenceReport s).free = s.free ∧
    (silenceReport s).pending = s.pending := by
  simp only [silenceReport]
  (repeat' split) <;> simp

@[simp] theorem suppressionTimerExpiry_frame (s : State) :
    (suppressionTimerExpiry s).params = s.params ∧ (suppressionTimerExpiry s).tc = s.tc ∧
    (suppressionTimerExpiry s).cl = s.cl ∧ (suppressionTimerExpiry s).ce = s.ce ∧
    (suppressionTimerExpiry s).ll = s.ll ∧ (suppressionTimerExpiry s).ps = s.ps ∧
    (suppressionTimerExpiry s).pins = s.pins ∧ (suppressionTimerExpiry s).free = s.free ∧
    (suppressionTimerExpiry s).pending = s.pending := by
  simp only [suppressionTimerExpiry]
  (repeat' split) <;> simp

@[simp] theorem passMs_frame (s : State) :
    (passMs s).params = s.params ∧ (passMs s).cl = s.cl ∧ (passMs s).tl = s.tl ∧ (passMs s).pins = s.pins ∧
    (passMs s).free = s.free ∧ (passMs s).pending = s.pending := by
  simp only [passMs]
  (repeat' split) <;> simp

@[simp] theorem queueDue_frame (s : State) :
    (queueDue s).params = s.params ∧ (queueDue s).mli = s.mli ∧ (queueDue s).be = s.be ∧
    (queueDue s).tc = s.tc ∧ (queueDue s).cl = s.cl ∧ (queueDue s).ce = s.ce ∧ (queueDue s).sss = s.sss ∧
    (queueDue s).ll = s.ll ∧ (queueDue s).tm = s.tm ∧ (queueDue s).tl = s.tl ∧ (queueDue s).ps = s.ps ∧
    (queueDue s).hlc = s.hlc ∧ (queueDue s).pins = s.pins := by
  simp only [queueDue]
  (repeat' split) <;> simp

@[simp] theorem tick_frame (s : State) :
    (tick s).params = s.params ∧ (tick s).cl = s.cl ∧ (tick s).tl = s.tl ∧ (tick s).pins = s.pins := by simp [tick]

end Sys2Proof.Machine
end

