-- ==== Sys2Proof/Laws/Log.lean ====
section
/-! SUPPORT. What a query and a close request of the tamper log can do (09 R156). -/

namespace Sys2Proof.Machine

/-- TL answers OPEN exactly for a serial whose record is ongoing. -/
theorem Tl.query_opened_iff (x : Tl) (n : Nat) :
    x.query n = .opened ↔ ∃ r ∈ x.records, r.serial = n ∧ r.stop = none := by
  by_cases h : ∃ r ∈ x.records, r.serial = n ∧ r.stop = none
  · simp [Tl.query, h]
  · simp only [Tl.query, h, List.any_eq_true, Bool.and_eq_true, beq_iff_eq, Option.isNone_iff_eq_none, if_false,
      iff_false]
    split <;> simp

/-- TL answers ABSENT exactly for a serial of which it holds no record. -/
theorem Tl.query_absent_iff (x : Tl) (n : Nat) : x.query n = .absent ↔ ∀ r ∈ x.records, r.serial ≠ n := by
  simp only [Tl.query, List.any_eq_true, Bool.and_eq_true, beq_iff_eq, Option.isNone_iff_eq_none]
  split_ifs with ongoing held
  · obtain ⟨r, hr, hs, -⟩ := ongoing
    simpa using ⟨r, hr, hs⟩
  · simpa using held
  · simpa using held

/-- A close request is answered as a query for the same serial is. -/
@[simp] theorem Tl.close_answer (x : Tl) (n stop : Nat) : (x.close n stop).2 = x.query n := rfl

/-- A close request found CLOSED or ABSENT changes nothing. -/
theorem Tl.close_unchanged (x : Tl) (n stop : Nat) (h : x.query n ≠ .opened) : (x.close n stop).1 = x := by
  have none_ongoing : ∀ r ∈ x.records, ¬(r.serial = n ∧ r.stop = none) :=
    fun r hr hs => h ((x.query_opened_iff n).mpr ⟨r, hr, hs⟩)
  have same : (x.records.map fun r => if r.serial = n ∧ r.stop = none then { r with stop := some stop } else r) =
      x.records := by
    conv_rhs => rw [← List.map_id x.records]
    exact List.map_congr_left fun r hr => by simp [none_ongoing r hr]
  simp only [Tl.close, same]

/-- After a close request no record of the serial is ongoing. -/
theorem Tl.close_ends (x : Tl) (n stop : Nat) : (x.close n stop).1.query n ≠ .opened := by
  simp only [ne_eq, Tl.query_opened_iff, Tl.close, List.mem_map, not_exists, not_and]
  rintro r ⟨q, _, rfl⟩ hs
  split <;> simp_all

end Sys2Proof.Machine
end

