-- ==== Sys2Proof/Laws/Reasons.lean ====
section
/-! SUPPORT. What every operation does to the open-reason set (06 R105): additions and removals change it, the
contactor's sequences do not. -/

namespace Sys2Proof.Machine

@[simp] theorem Reasons.get_set (t : Reasons) (r q : Reason) (x : Bool) :
    (t.set r x).get q = if q = r then x else t.get q := by
  cases r <;> cases q <;> simp [Reasons.set, Reasons.get]

theorem Reasons.set_get (t : Reasons) (r : Reason) (x : Bool) (h : t.get r = x) : t.set r x = t := by
  cases t; cases r <;> simp_all [Reasons.set, Reasons.get]

@[simp] theorem startPulse_reasons (s : State) : (startPulse s).sss.reasons = s.sss.reasons := rfl

@[simp] theorem startOpening_reasons (n : Nat) (s : State) : (startOpening n s).sss.reasons = s.sss.reasons := rfl

@[simp] theorem closeAttempt_reasons (s : State) : (closeAttempt s).sss.reasons = s.sss.reasons := by
  simp only [closeAttempt]; split <;> simp

@[simp] theorem startClosing_reasons (s : State) : (startClosing s).sss.reasons = s.sss.reasons := by
  simp [startClosing]

@[simp] theorem becomeArmed_reasons (s : State) : (becomeArmed s).sss.reasons = s.sss.reasons := by
  simp only [becomeArmed]; split <;> simp

@[simp] theorem actOnAddition_reasons (s : State) : (actOnAddition s).sss.reasons = s.sss.reasons := by
  simp only [actOnAddition]; split <;> simp

@[simp] theorem actOnEmptied_reasons (s : State) : (actOnEmptied s).sss.reasons = s.sss.reasons := by
  simp only [actOnEmptied]; (repeat' split) <;> simp

/-- An addition makes its reason present and leaves the others (06 R105). -/
@[simp] theorem addReason_reasons (r : Reason) (s : State) :
    (addReason r s).sss.reasons = s.sss.reasons.set r true := by
  simp only [addReason]
  split
  · next h => rw [Reasons.set_get _ _ _ h]
  · split <;> simp

/-- A removal makes its reason absent and leaves the others (06 R105). -/
@[simp] theorem removeReason_reasons (r : Reason) (o : Origin) (s : State) :
    (removeReason r o s).sss.reasons = s.sss.reasons.set r false := by
  simp only [removeReason]
  split
  · (repeat' split) <;> simp
  · next h => rw [Reasons.set_get _ _ _ (by simpa using h)]

/-- A removal during a closing changes the set and nothing else (06 R112). -/
theorem removeReason_closing (r : Reason) (o : Origin) (s : State) (h : s.sss.contactor = .closing) :
    removeReason r o s = s.setSss { s.sss with reasons := s.sss.reasons.set r false } := by
  unfold removeReason
  split
  · dsimp only
    (repeat' split) <;> simp [actOnEmptied, h]
  · next absent => rw [Reasons.set_get _ _ _ (by simpa using absent)]; rfl

@[simp] theorem acceptedPress_reasons (s : State) : (acceptedPress s).sss.reasons = s.sss.reasons := by
  simp only [acceptedPress]; (repeat' split) <;> simp

@[simp] theorem openingDone_reasons (s : State) : (openingDone s).sss.reasons = s.sss.reasons := by
  simp only [openingDone]; split <;> simp [Sss.endSequence]

@[simp] theorem faultWelded_reasons (s : State) : (faultWelded s).sss.reasons = s.sss.reasons := by
  simp [faultWelded, Sss.endSequence]

@[simp] theorem faultNoClose_reasons (s : State) : (faultNoClose s).sss.reasons = s.sss.reasons := by
  simp [faultNoClose, Sss.endSequence]

@[simp] theorem verifyOpening_reasons (s : State) : (verifyOpening s).sss.reasons = s.sss.reasons := by
  simp only [verifyOpening]; (repeat' split) <;> simp

@[simp] theorem closingDone_reasons (x : Position) (s : State) : (closingDone x s).sss.reasons = s.sss.reasons := by
  simp [closingDone, Sss.endSequence]

@[simp] theorem verifyClosing_reasons (s : State) : (verifyClosing s).sss.reasons = s.sss.reasons := by
  simp only [verifyClosing]; (repeat' split) <;> simp

@[simp] theorem positionCheck_reasons (r : IntervalRecord) (s : State) :
    (positionCheck r s).sss.reasons = s.sss.reasons := by
  simp only [positionCheck]; (repeat' split) <;> simp

@[simp] theorem actOnEntry_reasons (s : State) : (actOnEntry s).sss.reasons = s.sss.reasons := by
  simp only [actOnEntry]; (repeat' split) <;> simp

@[simp] theorem enterActiveSss_reasons (s : State) : (enterActiveSss s).sss.reasons = s.sss.reasons := by
  simp [enterActiveSss]

@[simp] theorem abandon_reasons (x : Sss) : x.abandon.reasons = x.reasons := rfl

@[simp] theorem enterHoldup_reasons (x : Sss) : x.enterHoldup.reasons = x.reasons := by
  simp only [Sss.enterHoldup]; split <;> rfl

@[simp] theorem stopAll_reasons (x : Sss) : x.stopAll.reasons = x.reasons := by
  simp only [Sss.stopAll]; split <;> rfl

@[simp] theorem coilPulseEnd_reasons (s : State) : (coilPulseEnd s).sss.reasons = s.sss.reasons := by
  simp only [coilPulseEnd]; split <;> simp

@[simp] theorem pulseCleared_reasons (s : State) : (pulseCleared s).sss.reasons = s.sss.reasons := by
  simp only [pulseCleared]; (repeat' split) <;> simp

@[simp] theorem coilCutoff_reasons (s : State) : (coilCutoff s).sss.reasons = s.sss.reasons := by
  simp only [coilCutoff]; split <;> simp [Sss.endSequence]

@[simp] theorem settleEnd_reasons (l : PerPhase Bool) (s : State) : (settleEnd l s).sss.reasons = s.sss.reasons := by
  simp only [settleEnd]; (repeat' split) <;> simp

@[simp] theorem weldRetryExpiry_reasons (s : State) : (weldRetryExpiry s).sss.reasons = s.sss.reasons := by
  simp only [weldRetryExpiry]; (repeat' split) <;> simp

@[simp] theorem checkAt_reasons (i j : Nat) (r : IntervalRecord) (s : State) :
    (checkAt i j r s).sss.reasons = s.sss.reasons := by
  simp only [checkAt]; split <;> simp

@[simp] theorem startActive_reasons (s : State) : (startActive s).sss.reasons = s.sss.reasons := by
  simp [startActive, Sss.withCoilEnable]

end Sys2Proof.Machine
end

