-- ==== Sys2Proof/Laws/Tick.lean ====
section
/-! SUPPORT. What the order of the due events keeps (log 3, 08 R135). -/

namespace Sys2Proof.Machine

/-- A list is its part before the first hold expiry, the part up to the first MAG filter expiry after it, and the rest. -/
theorem split_at_hold_and_mag (l : List Instr) :
    l.takeWhile (· != .deemedHoldExpiry) ++
      ((l.dropWhile (· != .deemedHoldExpiry)).takeWhile (· != .sensorFilterExpiry .mag) ++
        (l.dropWhile (· != .deemedHoldExpiry)).dropWhile (· != .sensorFilterExpiry .mag)) = l := by
  rw [List.takeWhile_append_dropWhile, List.takeWhile_append_dropWhile]

/-- The order is changed, the events are the same. -/
theorem tickBehindMag_perm (l : List Instr) : (tickBehindMag l).Perm l := by
  unfold tickBehindMag
  dsimp only
  split
  · exact List.Perm.refl l
  · next mag rest h =>
    conv_rhs => rw [← split_at_hold_and_mag l, h]
    refine List.Perm.append_left _ ?_
    have p := List.filter_append_perm (fun c : Instr => c == .silenceTick)
      ((l.dropWhile (· != .deemedHoldExpiry)).takeWhile (· != .sensorFilterExpiry .mag))
    generalize (l.dropWhile (· != .deemedHoldExpiry)).takeWhile (· != .sensorFilterExpiry .mag) = b at p ⊢
    have q : (b.filter (· != .silenceTick) ++ b.filter (· == .silenceTick)).Perm b :=
      (List.perm_append_comm).trans (by simpa [bne] using p)
    refine List.Perm.trans ?_ (q.append_right (mag :: rest))
    rw [List.append_assoc]
    exact List.Perm.append_left _ (List.perm_middle.symm)

/-- A list that begins with an element begins with it behind a part in which it does not stand. -/
theorem eq_cons_of_append_eq_cons {a rest tail : List Instr} {c : Instr} (ha : c ∉ a) (h : a ++ rest = c :: tail) :
    rest = c :: tail := by
  rcases a with _ | ⟨x, xs⟩
  · exact h
  · rw [List.cons_append, List.cons.injEq] at h
    exact absurd (h.1 ▸ List.mem_cons_self) ha

/-- No silence tick stands between the hold's expiry and a MAG filter's expiry (08 R135). -/
theorem tickBehindMag_apart (l : List Instr) :
    (tickBehindMag l).filter (· ∈ [.deemedHoldExpiry, .silenceTick, .sensorFilterExpiry .mag]) ≠
      [.deemedHoldExpiry, .silenceTick, .sensorFilterExpiry .mag] := by
  have before : ∀ c ∈ l.takeWhile (· != .deemedHoldExpiry), c ≠ .deemedHoldExpiry := by
    intro c hc; simpa using List.mem_takeWhile_imp hc
  have between : ∀ c ∈ (l.dropWhile (· != .deemedHoldExpiry)).takeWhile (· != .sensorFilterExpiry .mag),
      c ≠ .sensorFilterExpiry .mag := by
    intro c hc; simpa using List.mem_takeWhile_imp hc
  have split := split_at_hold_and_mag l
  have head : ∀ c, ((l.dropWhile (· != .deemedHoldExpiry)).takeWhile (· != .sensorFilterExpiry .mag)).head? = some c →
      c = .deemedHoldExpiry := by
    intro c hc
    rcases hl : l.dropWhile (· != .deemedHoldExpiry) with _ | ⟨x, xs⟩
    · simp [hl] at hc
    · have hx : ¬(x != .deemedHoldExpiry) = true := by
        have := List.head_dropWhile_not (p := (· != Instr.deemedHoldExpiry)) (l := l) (by rw [hl]; simp)
        simpa [hl] using this
      have hx : x = .deemedHoldExpiry := by simpa using hx
      subst hx
      rw [hl] at hc
      simpa using hc.symm
  intro h
  unfold tickBehindMag at h
  dsimp only at h
  generalize l.takeWhile (· != .deemedHoldExpiry) = a at *
  generalize (l.dropWhile (· != .deemedHoldExpiry)).takeWhile (· != .sensorFilterExpiry .mag) = b at *
  split at h
  · next none =>
    rw [none, List.append_nil] at split
    rw [← split, List.filter_append] at h
    have := eq_cons_of_append_eq_cons (fun m => before _ (List.mem_filter.mp m).1 rfl) h
    have mem : Instr.sensorFilterExpiry .mag ∈ b.filter
        (· ∈ [.deemedHoldExpiry, .silenceTick, .sensorFilterExpiry .mag]) := by rw [this]; simp
    exact between _ (List.mem_filter.mp mem).1 rfl
  · next mag rest hm =>
    rw [List.filter_append] at h
    have h := eq_cons_of_append_eq_cons (fun m => before _ (List.mem_filter.mp m).1 rfl) h
    have hmag : mag = .sensorFilterExpiry .mag := by
      have := List.head_dropWhile_not (p := (· != Instr.sensorFilterExpiry .mag))
        (l := l.dropWhile (· != .deemedHoldExpiry)) (by rw [hm]; simp)
      simpa [hm] using this
    subst hmag
    rcases b with _ | ⟨x, xs⟩
    · simp at h
    · obtain rfl := head x rfl
      simp only [List.filter_append, List.filter_cons] at h
      simp at h
      have := eq_cons_of_append_eq_cons (by simp [List.mem_filter]) h
      simp at this

/-- Ranking keeps the items. -/
theorem insertRanked_perm {α : Type} (rank : Nat) (x : α) (l : List (Nat × α)) :
    ((insertRanked rank x l).map Prod.snd).Perm (x :: l.map Prod.snd) := by
  induction l with
  | nil => exact List.Perm.refl _
  | cons y rest ih =>
    unfold insertRanked
    split
    · exact List.Perm.refl _
    · exact (ih.cons y.2).trans (List.Perm.swap x y.2 _)

theorem rankItems_perm {α : Type} (rank : Nat → Nat) (k : Nat) (l : List α) :
    ((rankItems rank k l).map Prod.snd).Perm l := by
  induction l generalizing k with
  | nil => exact List.Perm.refl _
  | cons x rest ih => exact (insertRanked_perm _ x _).trans ((ih (k + 1)).cons x)

/-- A drawn order changes the order alone. -/
theorem drawnOrder_perm {α : Type} (rank : Nat → Nat) (l : List α) : (drawnOrder rank l).Perm l := by
  unfold drawnOrder
  split
  · exact List.Perm.refl _
  · exact List.Perm.refl _
  · exact rankItems_perm rank 0 _

/-- The due events join the queue, each once, whatever order is drawn (log 3). -/
theorem queueDue_perm (s : State) : (queueDue s).pending.Perm (dueGroups s).flatten := by
  unfold queueDue
  split
  · exact List.Perm.refl _
  · exact (tickBehindMag_perm _).trans (drawnOrder_perm _ _).flatten

end Sys2Proof.Machine
end

