-- ==== Sys2Proof/Tests/Slice0.lean ====
section
/-! SUPPORT. Tests. Ill-formed commands, the check values and worked cases of the manual, and for every statement of
Certificates/Slice0/Obligations.lean a state and operands that meet its hypotheses, clause by clause. -/

namespace Sys2Proof.Tests
open Sys2Proof Sys2Proof.Machine

/-! ### Ill-formed commands (12 R178, R179) -/

theorem test_payload_of_63_fits : (Instr.submitCode (List.replicate 63 0x30#8)).wellFormed = true := by decide
theorem test_payload_of_64_refused : (Instr.submitCode (List.replicate 64 0x30#8)).wellFormed = false := by decide
theorem test_identify_of_64_refused : (Instr.identify (List.replicate 64 0x00#8)).wellFormed = false := by decide
theorem test_restore_of_64_refused : (Instr.restore (List.replicate 63 0x00#8)).wellFormed = false := by decide
theorem test_accept_of_64_refused : (Instr.acceptEmergency (List.replicate 63 0x00#8)).wellFormed = false := by decide
theorem test_badKind_known_refused : (Instr.badKind 0x10#8 []).wellFormed = false := by decide
theorem test_badKind_reply_refused : (Instr.badKind 0x80#8 []).wellFormed = false := by decide
theorem test_badKind_unknown_fits : (Instr.badKind 0x7F#8 []).wellFormed = true := by decide
theorem test_busy_reply_refused : (Instr.busy 0x90#8 []).wellFormed = false := by decide
theorem test_no_word_spells_a_command : decodeTableWord 8 0x01 = none := rfl

/-! ### A commissioned meter -/

/-- ACTIVE at 00:00 of day 10, CLOSED and verified, the balance 5,000 cents. -/
def live : State := { State.reset with
  ps := { Ps.manufacture with power := .active, periodic := some 3600000 }
  sss := { Sss.manufacture with
    reasons := ⟨false, false, false, false, false⟩, contactor := .closed, verified := .closed, coilEnable := true }
  tc := { Tc.manufacture with clockValid := true, sched := { Tc.manufacture.sched with clock := 864000 } }
  cl := ⟨{ Cl.manufacture.acct with balance := 5000, opening := 5000, available := true, state := .inCredit }, false⟩ }

def noReasons : Reasons := ⟨false, false, false, false, false⟩

/-- The outcome's next state, or the state after reset. -/
def after (o : Host.Outcome State Fault Refusal) : State :=
  match o with
  | .next t => t
  | .fault _ => State.reset
  | .refused _ => State.reset

/-- A record of 250 ms on three phases. -/
def record (seq : Nat) (p : PerPhase Int) (v i : PerPhase Nat) : IntervalRecord := ⟨seq, 250, p, v, i, 0⟩

/-- A queue of one record before `live`. -/
def liveWith (r : IntervalRecord) : State := live.setMli { live.mli with queue := [r] }

/-! ### Check values and worked cases of the manual -/

/-- 01 R3. -/
theorem test_record_check_value :
    recordCheck [0x31#8, 0x32#8, 0x33#8, 0x34#8, 0x35#8, 0x36#8, 0x37#8, 0x38#8, 0x39#8] = 0xF4#8 := by decide +kernel

/-- 12 R178. -/
theorem test_frame_check_value :
    frameCheck [0x31#8, 0x32#8, 0x33#8, 0x34#8, 0x35#8, 0x36#8, 0x37#8, 0x38#8, 0x39#8] = 0xFEE8#16 := by decide +kernel

/-- 01, "clamping one record". -/
theorem test_clamping_one_record :
    recordOf (0x5A#8 :: (bytesOf 1 17 ++ bytesOf 2 60 ++ (bytesOfInt 3 23400 ++ bytesOf 2 2296 ++ bytesOf 3 3200) ++
      (bytesOfInt 3 (-40000) ++ bytesOf 2 2301 ++ bytesOf 3 2610) ++ (bytesOfInt 3 0 ++ bytesOf 2 5210 ++ bytesOf 3 0) ++
      bytesOf 3 104000 ++ [0x01#8, 0x00#8])) =
      ⟨17, 100, ⟨23400, -32000, 0⟩, ⟨2296, 2301, 5000⟩, ⟨100000, 2610, 0⟩, 100000⟩ := by decide +kernel

/-- 01, "baseline, discard and repeat": record 44 sent again after 44. -/
theorem test_repeated_record_misses_255 :
    Mli.missing { Mli.manufacture with baseline := false, expected := 45 } ⟨44, 250, ⟨0, 0, 0⟩, ⟨0, 0, 0⟩, ⟨0, 0, 0⟩, 0⟩ =
      some 255 := by decide

/-- 02, "one record under three policies", with no flag raised. -/
theorem test_three_policies :
    [0, 1, 2].map (fun d => intervalPower (live.setParams { live.params with dirPolicy := d })
      (record 1 ⟨1500, -400, -1300⟩ ⟨2300, 2300, 2300⟩ ⟨0, 4000, 0⟩)) = [3200, 1500, 0] := by decide

/-- 02, "one record under three policies", with the substitution flag raised on phase 2. -/
theorem test_three_policies_substituted :
    [0, 1, 2].map (fun d => intervalPower
      ((live.setParams { live.params with dirPolicy := d }).setTm { live.tm with subst := ⟨false, true, false⟩ })
      (record 1 ⟨1500, -400, -1300⟩ ⟨2300, 2300, 2300⟩ ⟨0, 4000, 0⟩)) = [3720, 2420, 1120] := by decide

/-- The start of 02, "a record under voltage loss". -/
def voltageLoss : State :=
  let r := record 1 ⟨2400, -600, 1000⟩ ⟨2300, 2300, 200⟩ ⟨0, 0, 9000⟩
  { liveWith r with
    params := { live.params with t1 := 100 }
    tm := { live.tm with subst := ⟨false, false, true⟩ }
    be := { live.be with reg := { live.be.reg with billedResidue := 3000000, cycleWh := 99999 } }
    tc := { live.tc with band := 1, sched := { live.tc.sched with
      rates := ⟨⟨0, 0, 0⟩, ⟨21500, 28000, 0⟩, ⟨0, 0, 0⟩, ⟨0, 0, 0⟩⟩ } }
    cl := ⟨{ live.cl.acct with balance := 1234, residue := 990000 }, false⟩ }

/-- 02, "a record under voltage loss": registers, residues, cent residue and balance. -/
theorem test_record_under_voltage_loss :
    let t := after (exec (.recordTake ⟨true, true, true⟩) voltageLoss)
    t.be.bLast = 5070 ∧ t.be.reg.billedResidue = 667500 ∧ t.be.reg.cycleWh = 100000 ∧
      t.be.reg.importResidue = ⟨600000, 0, 250000⟩ ∧ t.be.reg.exportResidue = ⟨0, 150000, 0⟩ ∧
      t.acct.residue = 11500 ∧ t.acct.balance = 1233 := by decide +kernel

/-- 02, "a threshold inside one record" and "a threshold inside a gap". -/
theorem test_threshold_inside_an_item :
    itemCost ⟨21500, 28000, 0⟩ 100000 0 99999 3 = 77500 ∧ itemCost ⟨21500, 28000, 0⟩ 100000 0 99900 277 = 7106000 := by
  decide

/-- 03, "trims within one day": the trims of day 40. -/
theorem test_trims_within_one_day :
    ([25, -40, 30, 30, -20, 10].foldl (fun (x : Tc × List Int) d => (x.1.trimmed d, x.2 ++ [x.1.trimAmount d]))
      ({ live.tc with sched := { live.tc.sched with clock := 3500000 }, allowanceDay := 40 }, [])).2 =
        [25, -30, 30, 30, -5, 0] := by decide

/-- 03, "finding the band": all six rows. -/
theorem test_finding_the_band :
    [1021500, 1018800, 975600, 1391400, 1404000, 1458000].map (fun clock =>
      bandInForce { live.params with commWeekday := 3 }
        { live.tc.sched with
          clock := clock
          profileA := [⟨0, 0⟩, ⟨42, 2⟩, ⟨108, 3⟩, ⟨132, 1⟩]
          profileB := [⟨36, 1⟩, ⟨120, 0⟩]
          weekMap := [.a, .a, .a, .a, .a, .b, .b] } true) = [3, 3, 2, 0, 1, 0] := by decide

/-- 03, "a window across midnight". -/
theorem test_window_across_midnight :
    [(4, 119), (4, 120), (5, 18), (5, 42), (5, 120), (6, 30), (6, 42), (6, 126), (0, 18)].map
      (fun x => (⟨48, 120, 42⟩ : FriendlyWindow).inForce x.1 x.2) =
        [false, true, true, false, true, true, false, false, false] := by decide

/-- 04, "a debit cut at the floor". -/
theorem test_debit_cut_at_the_floor :
    let s := (live.setTc { live.tc with friendly := true }).setAcct { live.acct with
      balance := -6970, residue := 400000, accepted := true, available := false, state := .exhausted }
    let t := charge 48200000 s
    t.acct.balance = -7000 ∧ t.acct.residue = 600000 ∧ t.acct.debt = 18 ∧ t.acct.crCharged = 30 ∧
      t.acct.crDeferred = 18 ∧ t.acct.state = .floor ∧ t.sss.reasons.credit = true := by decide

/-- 04, "a top-up that repays emergency credit". -/
theorem test_top_up_repays_emergency :
    let s := live.setAcct { live.acct with
      balance := -1800, debt := 3000, accepted := true, available := false, state := .emergency }
    let t := topUp 5000 s
    t.acct.balance = 1950 ∧ t.acct.debt = 1750 ∧ t.acct.crIn = 5000 ∧ t.acct.crRecovered = 1250 ∧
      t.acct.accepted = false ∧ t.acct.available = true ∧ t.acct.state = .inCredit := by decide

/-- 04, "a top-up and a cut debit in either order". -/
theorem test_top_up_and_cut_debit :
    let s := live.setAcct { live.acct with balance := -6900, state := .exhausted, available := false }
    (debit 800 (topUp 1000 s)).acct.balance = -6700 ∧ (debit 800 (topUp 1000 s)).acct.debt = 0 ∧
      (topUp 1000 (debit 800 s)).acct.balance = -6250 ∧ (topUp 1000 (debit 800 s)).acct.debt = 450 := by decide

/-- 04, "narrowing and widening the allowances": the first event. -/
theorem test_narrowing_an_allowance :
    let s := (live.setTc { live.tc with friendly := true }).setAcct { live.acct with
      balance := -4000, debt := 1200, accepted := true, available := false, state := .exhausted }
    let t := changeAllowance { s.params with fAllow := 1000 } s
    t.acct.balance = -3000 ∧ t.acct.debt = 2200 ∧ t.acct.crRaised = 1000 ∧ t.acct.state = .floor ∧
      t.cl.creditHeld = true := by decide

/-- 05, "resolving issue days". -/
theorem test_resolving_issue_days :
    [904, 906, 907, 600, 500, 3000].map (issueDay 5000) = [5000, 5002, 907, 4696, 4596, 3000] ∧
      issueDay 10 4000 = -96 := by decide

/-- 05, "codes out of order": the codes consumed in turn. -/
theorem test_codes_out_of_order :
    let k := [105, 142, 150, 145, 143, 144].foldl Keys.consume ⟨0, 0, 100, (List.range 32).map (· + 110), ⟨5, 5⟩⟩
    k.floor = 114 ∧ k.history = (List.range 31).map (· + 115) ++ [150] := by decide


/-- 07, "trips, recloses and lockout": the limit in force, and the trip at the twentieth record. -/
theorem test_twentieth_record_trips :
    let s := live.setLl { live.ll with tempLimit := 2000, tempExpiry := 900000, watch := .watching, overload := 19 }
    (offerLoad 2450 s).ll.reclose = .wait ∧ (offerLoad 2450 s).ll.recloseTimer = some 60000 ∧
      (offerLoad 2450 s).sss.reasons = { noReasons with overload := true } ∧ (offerLoad 2000 s).ll.overload = 0 := by
  decide

/-- 06 R112: CREDIT added in a closing and removed again by an accepting press changes the set and nothing else. -/
theorem test_removal_during_a_closing :
    let s := live.setSss { live.sss with contactor := .closing, phase := .pulse }
    (removeReason .credit .acceptingPress (addReason .credit s)).sss = s.sss := by decide

/-- 03 R39, R45: in HOLDUP too the evaluation follows the advance to a step edge, here at 00:10 of day 10. -/
theorem test_step_edge_in_holdup :
    (after (step { live with
      ps := { live.ps with power := .holdup }
      tc := { live.tc with phase := 4091904, sched := { live.tc.sched with clock := 864599 } } })).pending =
        [.clockAdvance, .tcEdgeEvaluation] := by decide

/-- 09 R156: the answers of TL to a close request and to a query. -/
theorem test_close_answers :
    let open1 : TamperRecord := ⟨1, .cover, 100, none, false, true, ⟨false, false, false, false⟩, none⟩
    let x : Tl := { live.tl with records := [open1], nextSerial := 2 }
    let y := x.close 1 90
    (y.2, (y.1.close 1 95).2, (y.1.close 2 95).2, y.1.query 1) = (.opened, .closed, .absent, .closed) ∧
      y.1.records = [{ open1 with stop := some 90 }] ∧ (y.1.close 1 95).1 = y.1 := by decide

/-! ### Witnesses: the machine as a whole and its laws -/

theorem live_params : live.params.InRange := by
  refine ⟨?_, ?_, ?_, ?_, ?_, ?_, ?_, ?_, ?_, ?_, ?_, ?_, ?_, ?_, ?_, ?_, ?_, ?_, ?_, ?_, ?_, ?_, ?_, ?_, ?_⟩ <;>
    first
    | decide
    | (intro k; cases k <;> decide)
    | exact ⟨⟨by decide, by decide, by decide⟩, ⟨by decide, by decide, by decide⟩, ⟨by decide, by decide, by decide⟩,
        ⟨by decide, by decide, by decide⟩⟩

theorem witness_StepRunsFrontCommand :
    ∃ (c : Instr) (rest : List Instr) (s : State), s.pending = c :: rest ∧ s.ps.power = .active :=
  ⟨.replySent, [.frameTimeout], live.setPending [.replySent, .frameTimeout], rfl, rfl⟩

/-- The last millisecond before a step edge, in a power state. -/
def beforeEdge (x : Power) : State := { live with
  ps := { live.ps with power := x }
  tc := { live.tc with phase := 4091904, sched := { live.tc.sched with clock := 864599 } } }

theorem witness_IdleStepPassesOneMillisecond :
    (∀ x ∈ [Power.active, .holdup, .dormant, .shelf, .off],
      (beforeEdge x).pending = [] ∧ (beforeEdge x).ps.power = x) ∧
    4096000 ≤ (beforeEdge .holdup).tc.phase + 4096 ∧ ((beforeEdge .holdup).clock + 1) % 600 = 0 := by decide

/-- For each command of the part's own a state in which it is due: `live` in an ACTIVE state, in HOLDUP, in DORMANT and in
SHELF, with timers run out. -/
theorem witness_due :
    let active := { live with
      mli := { live.mli with silenceRunning := true, silenceMs := 2000, suppression := some 0 }
      be := { live.be with tickTimer := some 0 }
      tc := (beforeEdge .active).tc
      ce := { live.ce with lockout := ⟨some 0, some 0⟩, group := some ⟨.setRate, 7, .keypad, [], 0⟩ }
      sss := { live.sss with contactor := .fault .welded, weldRetry := some 0, phase := .settle, phaseTimer := some 0 }
      ll := { live.ll with reclose := .wait, recloseTimer := some 0, window := some 0 }
      tm := { live.tm with
        conds := { live.tm.conds with linkloss := ⟨.active, false, none, .none⟩ }
        filters := ⟨.timing 0, .timing 0, .timing 0⟩, hold := some 0 }
      ps := { live.ps with vmainTimer := some 0, periodic := some 0, periodicWaits := true }
      hlc := { live.hlc with rx := some ⟨[], 21⟩ }
      pins := { live.pins with vmain := false } }
    let ticked := active.setTc { active.tc with phase := 4096000 }
    let at' := fun (x : Power) (vmain : Bool) => { live with
      ps := { live.ps with power := x, vmainTimer := some 0, sampleTimer := some 0, returnHeld := true }
      sss := { live.sss with phase := .pulse, phaseTimer := some 0, cutoff := some 0 }
      pins := { live.pins with vmain := vmain } }
    ticked.due .silenceReport ∧ ticked.due .suppressionTimerExpiry ∧ ticked.due .silenceTick ∧ ticked.due .clockAdvance ∧
      ticked.due .tcEdgeEvaluation ∧ ticked.due (.lockoutEnd .keypad) ∧ ticked.due .groupTimeout ∧
      ticked.due (.settleEnd ⟨false, false, false⟩) ∧ ticked.due .weldRetryExpiry ∧ ticked.due .recloseTimerExpiry ∧
      ticked.due .recloseWindowExpiry ∧ ticked.due (.sensorFilterExpiry .mag) ∧ ticked.due .deemedHoldExpiry ∧
      ticked.due .linklossMeasure ∧ ticked.due (.holdupEntry true) ∧ ticked.due .periodicCheckpoint ∧
      ticked.due .deferredPeriodicWrite ∧ ticked.due .frameTimeout ∧ (at' .holdup true).due .holdupSample ∧
      (at' .holdup true).due .returnDecision ∧ (at' .holdup true).due .deferredReturn ∧ (at' .dormant true).due .powerUp ∧
      (at' .dormant true).due .coilPulseEnd ∧ (at' .dormant true).due .coilCutoff ∧ (at' .shelf false).due .shelfPowerLoss ∧
      ¬active.due .clockAdvance := by
  simp only [State.due]
  refine ⟨?_, ?_, ?_, ?_, ?_, ?_, ⟨rfl, _, rfl, rfl⟩, ?_, ?_, ?_, ?_, ?_, ?_, ?_, ?_, ?_, ?_, ⟨_, rfl, by decide⟩, ?_, ?_, ?_,
    ?_, ?_, ?_, ?_, ?_⟩ <;> decide

/-- 06 R108: a settle's last millisecond, and the one event it makes due. -/
theorem test_settle_runs_out :
    (after (step (live.setSss { live.sss with phase := .settle, phaseTimer := some 1, contactor := .opening }))).pending =
      [.settleEnd ⟨false, false, false⟩] := by decide

/-- 08 R135: the three events of its last sentence due together, and the order it asks for. -/
theorem test_no_item_between_hold_and_mag :
    (dueGroups { live with
      be := { live.be with tickTimer := some 0 }
      tm := { live.tm with
        hold := some 0, filters := ⟨.stopped, .stopped, .timing 0⟩
        conds := { live.tm.conds with linkloss := ⟨.active, false, none, .unrecorded⟩ } } }).flatten =
      [.silenceTick, .sensorFilterExpiry .mag, .deemedHoldExpiry] ∧
    tickBehindMag [.deemedHoldExpiry, .silenceTick, .sensorFilterExpiry .mag] =
      [.deemedHoldExpiry, .sensorFilterExpiry .mag, .silenceTick] ∧
    tickBehindMag [.silenceTick, .deemedHoldExpiry, .sensorFilterExpiry .mag] =
      [.silenceTick, .deemedHoldExpiry, .sensorFilterExpiry .mag] := by decide

theorem witness_StepKeepsParameterRanges : ∃ s t, ParamsSound s ∧ step s = .next t ∧ s.ps.power = .active :=
  ⟨live, _, ⟨live_params, by intro _ h; cases h⟩, rfl, rfl⟩

theorem witness_StepKeepsLedgerLaw : ∃ s t, LedgerSound s ∧ step s = .next t ∧ s.ps.power = .active :=
  ⟨voltageLoss.setPending [.recordTake ⟨true, true, true⟩] |>.setAcct { voltageLoss.acct with opening := 1234 }, _,
    ⟨⟨by decide, by decide, by decide, by decide, by decide, by intro _ _ _ _; decide⟩, by intro _ h; cases h⟩, rfl, rfl⟩

/-- COVER pending, its filter run out. -/
def coverDue : State := { live with
  tm := { live.tm with conds := { live.tm.conds with cover := ⟨.pending, false, none, .none⟩ }, filters := ⟨.stopped, .timing 0, .stopped⟩ }
  pins := { live.pins with sensor := ⟨false, true, false⟩ } }

theorem witness_StepKeepsLogLaw : ∃ s t, LogSound s ∧ step s = .next t ∧ s.ps.power = .active :=
  ⟨coverDue.setPending [.sensorFilterExpiry .cover], _,
    ⟨⟨by decide, List.Pairwise.nil, by decide, by decide⟩, by decide, by intro h; exact absurd h (by decide), by intro _ h; cases h⟩,
    rfl, rfl⟩

/-- A trip's wait is over. -/
def tripped : State := { live with
  sss := { live.sss with contactor := .opened, verified := .opened, reasons := { noReasons with overload := true } }
  ll := { live.ll with reclose := .wait, recloseTimer := some 0 } }

theorem witness_StepKeepsReasonOwners :
    (∃ s t, step s = .next t ∧ CreditAgrees s ∧ s.commissioned) ∧ (∃ s t, step s = .next t ∧ TamperAgrees s ∧ s.commissioned) ∧
      ∃ s t, step s = .next t ∧ OverloadAgrees s ∧ s.ll.reclose = .wait :=
  ⟨⟨voltageLoss.setPending [.recordTake ⟨true, true, true⟩], _, rfl, by intro _; decide, by constructor <;> decide⟩,
    ⟨coverDue.setPending [.sensorFilterExpiry .cover], _, rfl,
      by intro _; exact ⟨by decide, by decide, by decide, by intro p; cases p <;> decide⟩, by constructor <;> decide⟩,
    ⟨tripped.setPending [.recloseTimerExpiry], _, rfl, by unfold OverloadAgrees; decide, rfl⟩⟩

/-- CLOSED unverified with no load voltage, and OPEN with the set emptied by a RESTORE press. -/
theorem witness_ClosePulseStartsWithTheSetEmpty :
    let drives := fun (x : State) => x.sss.contactor = .closing ∧ x.sss.phase = .pulse
    let armed := live.setSss { live.sss with contactor := .armed }
    let unsure := live.setSss { live.sss with verified := .unknown }
    let returned := live.setSss { live.sss with contactor := .opened, origin := .restorePress }
    (∃ t, step (armed.setPending [.restore []]) = .next t ∧ ¬drives armed ∧ drives t ∧
      ∀ bytes, Instr.restore [] = .frameDiscard bytes → bytes.length ≤ 1) ∧
      (¬drives unsure ∧ drives (positionCheck (record 1 ⟨0, 0, 0⟩ ⟨2300, 0, 0⟩ ⟨0, 0, 0⟩) unsure)) ∧
      (¬drives returned ∧ drives (enterActiveSss returned)) :=
  ⟨⟨_, rfl, by decide, by decide, by intro _ h; cases h⟩, by decide, by decide⟩

theorem witness_HeldPowerStatesKeepTheAccount : ∀ x ∈ [Power.holdup, .dormant],
    ∃ t, step ((live.setPs { live.ps with power := x }).setPending [.vmainRise]) = .next t ∧ t.ps.power = x := by
  intro x hx
  fin_cases hx <;> exact ⟨_, rfl, rfl⟩

theorem witness_StepKeepsCodeHistory : ∃ s t, HistorySound s ∧ step s = .next t ∧ s.ce.keys.history ≠ [] :=
  ⟨(live.setKeys { live.ce.keys with history := [1, 65535] }).setPending [.identify []], _,
    ⟨⟨by decide, by decide, by decide⟩, by intro _ h; cases h⟩, rfl, by decide⟩

/-- An opening's pulse has run for COIL_MS. -/
def pulsing : State := live.setSss { live.sss with
  contactor := .opening, phase := .pulse, phaseTimer := some 0, cutoff := some 170, attempts := 1, verified := .unknown
  reasons := { noReasons with remote := true } }

theorem witness_StepKeepsSwitchLaw : ∃ s t, SwitchSound s ∧ step s = .next t ∧ s.sss.phase ≠ .idle :=
  ⟨pulsing.setPending [.coilPulseEnd], _, ⟨by decide, by decide⟩, rfl, by decide⟩

theorem witness_StepKeepsQueueCapacities : ∃ s t, QueuesSound s ∧ step s = .next t ∧ s.hlc.queue.length = 16 :=
  ⟨(live.setHlc { live.hlc with queue := List.replicate 16 ⟨.credit .low, 0⟩ }).setPending [.getEvents []], _,
    ⟨by decide, by decide, by decide, by decide, by intro r h; cases h⟩, rfl, by decide⟩

theorem live_schedule : live.tc.sched.Sound :=
  ⟨by decide, by decide, ⟨by decide, by decide, by decide, by decide⟩, ⟨by decide, by decide, by decide, by decide⟩,
    by decide⟩

theorem witness_StepKeepsCalendarRanges : ∃ s t, CalendarSound s ∧ step s = .next t ∧ s.ps.power = .active :=
  ⟨live.setPending [.tcEdgeEvaluation], _, ⟨live_schedule, by decide, by intro _ h; cases h⟩, rfl, rfl⟩

/-! ### Witnesses: checks, pricing and the ledger -/

theorem witness_RecordCheckIsTheStatedCrc : (List.replicate 31 0x00#8).length = 31 := by decide

/-- The three policies, with the deemed flag lowered and raised, the substitution flag raised on phase 1, V_NOM at its
upper end, and each quantity of the record at an end of its range. -/
theorem witness_IntervalPowerIsTheFlooredSum :
    let s := fun (policy : Nat) (deemed : Bool) => { live with
      params := { live.params with dirPolicy := policy, vNom := 300, deemedW := 60000 }
      tm := { live.tm with deemed := deemed, subst := ⟨true, false, false⟩ } }
    let r := record 1 ⟨32000, -32000, 0⟩ ⟨2300, 2300, 2300⟩ ⟨100000, 0, 0⟩
    (∀ policy ∈ [0, 1, 2], ∀ deemed : Bool, (s policy deemed).params.vNom ≤ 300 ∧ (s policy deemed).params.dirPolicy ≤ 2 ∧
      (s policy deemed).params.deemedW ≤ 60000 ∧ (s policy deemed).tm.deemed = deemed) ∧
    ∀ p, -32000 ≤ r.p.get p ∧ r.p.get p ≤ 32000 ∧ r.i.get p ≤ 100000 := by
  refine ⟨by decide, ?_⟩
  intro p; cases p <;> decide

/-- A CREDIT code's 53 bits: sequence 7, issue day x, 1,000 cents. -/
def creditBody (day : Nat) : BitVec 53 := BitVec.ofNat 53 (7 * 2 ^ 33 + day * 2 ^ 21 + 1000)

theorem witness_IssueDayIsTheLargestThatFits :
    (codeWith (creditBody 4000) 0).day < 4096 ∧ codeExpired live (codeWith (creditBody 13) 0) = true ∧
      codeExpired live (codeWith (creditBody 12) 0) = false ∧ (codeWith (creditBody 12) 0).cls ≤ 10 ∧
      sourcePermitted .keypad (codeWith (creditBody 12) 0).cls = true ∧
      live.ce.keys.floor < (codeWith (creditBody 12) 0).sequence ∧
      (codeWith (creditBody 12) 0).sequence ∉ live.ce.keys.history ∧
      valueGood 0 12 (codeWith (creditBody 12) 0).value = true := by decide +kernel

theorem witness_TopUpAndDebitCommute : ∃ (s : State) (cents c : Nat),
    s.params.recoveryPct ≤ 100 ∧ floorOf s.params ≤ s.acct.balance ∧ 1 ≤ c ∧ s.acct.debt + c ≤ 99999999 ∧
      topUpRefused cents s = false ∧ topUpRefused cents (debit c s) = false ∧
      floorOf s.params ≤ s.acct.balance - c :=
  ⟨live.setAcct { live.acct with balance := -6900, debt := 50 }, 1000, 100, by decide⟩

theorem witness_ConsumedCodeJoinsTheHistory :
    ∃ k l : Keys, (k.Sound ∧ k.floor < 8 ∧ 8 ∉ k.history ∧ k.history.length = 31) ∧
      (l.Sound ∧ l.floor < 8 ∧ 8 ∉ l.history ∧ l.history.length = 32) :=
  ⟨⟨0, 0, 7, (List.range 31).map (· + 9), ⟨5, 5⟩⟩, ⟨0, 0, 7, (List.range 32).map (· + 9), ⟨5, 5⟩⟩,
    ⟨⟨by decide, by decide, by decide⟩, by decide⟩, ⟨⟨by decide, by decide, by decide⟩, by decide⟩⟩

/-! ### Witnesses: requests that report -/

theorem live_ready : live.ready := by decide

theorem witness_IdentityAndStatusAreReported :
    live.ready ∧ live.ps.meterId < 4294967296 ∧ live.ce.keys.keyRevision ≤ 15 ∧ live.hlc.queue.length ≤ 16 ∧
      (∀ k, live.sss.contactor ≠ .fault k) ∧ State.reset.ready := by
  refine ⟨by decide, by decide, by decide, by decide, ?_, by decide⟩
  intro k; cases k <;> decide

theorem witness_RegistersAreReported :
    live.ready ∧ live.params.InRange ∧ live.acct.Sound live.params ∧ -130000 ≤ live.acct.opening ∧
      live.acct.opening ≤ 99999999 ∧ live.acct.crIn ≤ max48 ∧ live.acct.crRecovered ≤ max48 ∧
      live.acct.crCharged ≤ max48 ∧ live.acct.crRaised ≤ max48 ∧ live.acct.crDeferred ≤ max48 ∧
      (∀ p, live.be.reg.importWh.get p ≤ max48 ∧ live.be.reg.exportWh.get p ≤ max48) ∧ live.be.reg.billedWh ≤ max48 ∧
      live.be.reg.cycleWh ≤ max48 ∧ live.be.bLast ≤ 96000 ∧
      (∀ b k, (live.tc.sched.rates.get b).get k ≤ 100000000) ∧ live.tc.sched.cycleIndex < 65536 ∧
      live.clock ≤ 4294967295 ∧ live.tc.trimUsed ≤ 120 := by
  refine ⟨by decide, live_params, ⟨by decide, by decide, by decide, by decide, by intro _ _ _ _; decide⟩, by decide,
    by decide, by decide, by decide, by decide, by decide, by decide, ?_, by decide, by decide, by decide, by decide,
    by decide, by decide, by decide⟩
  intro p; cases p <;> decide

theorem witness_EventsAreCollected :
    let s := live.setHlc { live.hlc with queue := List.replicate 7 ⟨.credit .low, 864000⟩, overflow := true }
    s.ready ∧ (∀ n ∈ s.hlc.queue, n.seconds < 4294967296) ∧ s.hlc.queue[5]?.isSome = true ∧
      ∀ body ∈ [NoticeBody.supply (.fault .driver) true, .credit .floor, .tamperStart (.bypass .p3) (.serial 7),
          .tamperEnd .probe .unrecorded, .logFull .meterCase, .contactorFault .noClose 3 ⟨true, false, true⟩ .close,
          .clockSet 5, .restoredWarm 60, .restoredCold .dormantEntry 9, .groupDropped .keyChange 513 [0, 3] .remote true,
          .lockout .remote true, .debtSaturated .debtAdd 4294967295, .overload true 81910 10],
        (live.setHlc { live.hlc with queue := [⟨body, 864000⟩] }).hlc.queue[0]? = some ⟨body, 864000⟩ := by decide

/-- 12 R182: the ten bytes of two notices. -/
theorem test_notice_bytes :
    (Notice.mk (.tamperEnd (.bypass .p3) (.serial 258)) 864000).bytes =
      [0x04#8, 0x00#8, 0x0D#8, 0x2F#8, 0x00#8, 0x0D#8, 0x00#8, 0x00#8, 0x01#8, 0x02#8] ∧
    (Notice.mk (.groupDropped .keyChange 513 [0, 3] .remote true) 1).bytes =
      [0x09#8, 0x00#8, 0x00#8, 0x00#8, 0x01#8, 0x0A#8, 0x02#8, 0x01#8, 0x09#8, 0x03#8] := by decide

/-- A log of two records, the first of them REVERSE and closed. -/
def logged : State := live.setTl { live.tl with
  records := [⟨1, .reverse .p2, 100, some 200, false, true, ⟨true, false, false, false⟩, some (-500)⟩,
    ⟨2, .cover, 300, none, true, false, ⟨false, false, true, false⟩, none⟩]
  nextSerial := 3 }

/-- 12 R183: the extremes as they are sent, at both ends. -/
theorem test_extremes_sent :
    [(CondId.neutral, 163839), (.neutral, 163840), (.bypass .p2, 519), (.reverse .p1, -32769), (.linkloss, 65535),
      (.cover, 9)].map (fun x => (TamperRecord.mk 1 x.1 0 none false true ⟨false, false, false, false⟩ (some x.2)).extremeSent) =
      [16383, 16383, 51, 16383, 16383, 0] := by decide

theorem witness_TamperLogIsRead :
    logged.ready ∧ (∀ x ∈ logged.tl.records, x.serial < 4294967296 ∧ x.start < 4294967296 ∧ x.stop.getD 0 < 4294967296) ∧
      logged.tl.records.length ≤ 64 ∧ logged.tl.nextSerial < 4294967296 ∧
      (∀ k, logged.tl.unrecorded.get k ≤ 65535) ∧
      (1 ≤ (0x04#8).toNat ∧ (0x04#8).toNat ≤ 4 ∧ (0x00#8).toNat ≤ 63 ∧ (0x3F#8).toNat ≤ 63) ∧
      logged.tl.records[0]?.isSome = true ∧ (0xFF#8).toNat = 255 ∧
      ((0x00#8).toNat = 0 ∧ 4 < (0x05#8).toNat ∧ 63 < (0x40#8).toNat ∧ (0xFE#8).toNat < 255) := by
  refine ⟨by decide, by decide, by decide, by decide, ?_, by decide, by decide, by decide, by decide⟩
  intro k; cases k <;> decide

theorem witness_RefusalsAnswerAloneInOrder :
    live.ready ∧ State.reset.ready ∧ live.ps.power = .active ∧ State.reset.ps.power = .shelf ∧
      ((0x7F#8 : Byte).toNat < 0x80 ∧ 0x7F#8 ∉ requestKinds) ∧
      (List.replicate 63 0xFF#8).length = 63 ∧ (List.replicate 63 0xFF#8).length % 3 ≠ 2 ∧
      (20 ≤ (List.replicate 62 0xFF#8).length ∧ (List.replicate 62 0xFF#8).length % 3 = 2 ∧
        ¬CommissionGood (List.replicate 62 0xFF#8)) ∧
      1 < fieldAt [0x02#8] 0 1 ∧
      (live.hlc.rx = none ∧ State.reset.hlc.rx = none ∧ (List.replicate 62 0xFF#8) ≠ [] ∧
        ([] : List Byte).length ≠ 1 ∧ [0x02#8].length = 1) := by
  refine ⟨by decide, by decide, by decide, by decide, by decide +kernel, by decide, by decide, ⟨by decide, by decide, ?_⟩,
    by decide, by decide⟩
  intro h
  exact absurd h.minute (by decide +kernel)

theorem witness_RepliesWaitTheirTurn :
    let r : Reply := ⟨0x81#8, []⟩
    let s := live.setHlc { live.hlc with slot := .periodicWrite }
    let one := s.setHlc { s.hlc with sending := some r }
    let two := s.setHlc { s.hlc with sending := some r, waiting := some r }
    let held := two.setHlc { two.hlc with slot := .replyWaits r }
    (s.linkServed = true ∧ s.hlc.slot ≠ .empty ∧ s.hlc.sending = none) ∧
      (one.linkServed = true ∧ one.hlc.sending = some r ∧ one.hlc.waiting = none) ∧
      (two.linkServed = true ∧ two.hlc.sending = some r ∧ two.hlc.waiting = some r) ∧
      (held.linkServed = true ∧ held.hlc.slot = .replyWaits r ∧ held.hlc.sending = some r) ∧
      (live.linkServed = true ∧ live.hlc.slot = .empty) ∧
      (live.setHlc { live.hlc with slot := .awaitingWrite (some r) }).linkServed = true ∧
      (live.setPins { live.pins with linkResetLow := true }).linkServed = false := by decide

/-! ### Witnesses: codes -/

/-- The 53 bits of a code that passes on day 10: class, sequence 7, issue day 10, value. -/
def body (cls value : Nat) : BitVec 53 := BitVec.ofNat 53 (cls * 2 ^ 49 + 7 * 2 ^ 33 + 10 * 2 ^ 21 + value)

/-- Whatever the transform and the check are, every class can be presented to `live` from both sources. -/
theorem presents_body (src : Source) (cls value : Nat) :
    ∃ chars, live.presents src chars (codeFor 0#64 (body cls value)) :=
  ⟨_, presents_codeFor live src (body cls value) live_ready rfl rfl (by cases src <;> decide)⟩

theorem codeFor_eq (b : BitVec 53) : codeFor 0#64 b = codeWith b (Config.codeCheck 0#64 b) := rfl

/-- The codes of these bodies pass the replay, age and value tests. -/
theorem passes_of (s : State) (b : BitVec 53)
    (h : s.ce.keys.floor < (b.extractLsb' 33 16).toNat ∧ (b.extractLsb' 33 16).toNat ∉ s.ce.keys.history ∧
      codeExpired s ⟨(b.extractLsb' 49 4).toNat, 0, (b.extractLsb' 21 12).toNat, 0, 0, 0⟩ = false ∧
      valueGood (b.extractLsb' 49 4).toNat (issueDay (dayOf s.clock) (b.extractLsb' 21 12).toNat) (b.extractLsb' 0 21) =
        true) : s.passes (codeFor 0#64 b) := by
  rw [codeFor, codeWith_fields]
  exact ⟨h.1, h.2.1, h.2.2.1, h.2.2.2⟩

theorem cls_of (b : BitVec 53) : (codeFor 0#64 b).cls = (b.extractLsb' 49 4).toNat := by rw [codeFor, codeWith_fields]

theorem value_of (b : BitVec 53) : (codeFor 0#64 b).value = b.extractLsb' 0 21 := by rw [codeFor, codeWith_fields]

theorem sequence_of (b : BitVec 53) : (codeFor 0#64 b).sequence = (b.extractLsb' 33 16).toNat := by
  rw [codeFor, codeWith_fields]

/-- `live` in a credit state, with n notices in the event queue. -/
def toldOf (state : CreditState) (n : Nat) : State :=
  (live.setAcct { live.acct with state := state }).setHlc { live.hlc with queue := List.replicate n ⟨.credit .low, 0⟩ }

theorem witness_UndecodedCodesChangeNothing :
    let s := (live.setAttempts .keypad 0).setLockout .keypad (some (1000 * 3600))
    (s.ready ∧ s.ps.power = .active ∧ s.ce.keys.attempts.get .keypad = 0 ∧
      s.ce.lockout.get .keypad = some (1000 * 3600)) ∧
      (live.ready ∧ live.ps.power = .active ∧ live.ce.keys.attempts.get .keypad ≠ 0) ∧
      ((List.replicate 20 0x30#8).length ≠ 21) ∧
      (∃ b ∈ List.replicate 20 0x30#8 ++ [0x3A#8], b.toNat < 0x30 ∨ 0x39 < b.toNat) ∧
      (590295810358705651712 ≤ (digitChars 21 590295810358705651712).foldl (fun n b => n * 10 + (b.toNat - 0x30)) 0) ∧
      (∃ b rest, 0x36#8 :: List.replicate 20 0x30#8 = b :: rest ∧ 0x36 ≤ b.toNat) := by
  refine ⟨by decide, by decide, by decide, ⟨0x3A#8, by decide⟩, by decide +kernel, ⟨0x36#8, _, rfl, by decide⟩⟩

/-- 05 R77: the least number that is not a code, and the greatest that is. -/
theorem test_codes_end_below_two_to_the_69 :
    codeNumber (digitChars 21 590295810358705651712) = none ∧
      codeNumber (digitChars 21 590295810358705651711) = some 590295810358705651711 := by decide +kernel

theorem witness_FailedAuthenticationCostsAnAttempt : ∃ (chars : List Byte) (n : Nat), ∀ k, k = 1 ∨ k = 2 →
    let s := live.setAttempts .keypad k
    s.ready ∧ s.ps.power = .active ∧ s.ce.keys.attempts.get .keypad = k ∧ codeNumber chars = some n ∧
      (decodeCode s.ce.keys.meterKey n).authentic s.ce.keys.meterKey = false ∧
      s.tm.probeSources = ⟨false, false⟩ ∧ s.hlc.queue.length ≤ 12 := by
  obtain ⟨n, h1, h2⟩ := charsFor_spell 0#64 (body 0 1000) (Config.codeCheck 0#64 (body 0 1000) + 1)
  refine ⟨charsFor 0#64 (body 0 1000) (Config.codeCheck 0#64 (body 0 1000) + 1), n, ?_⟩
  rintro k (rfl | rfl) <;> refine ⟨by decide, rfl, rfl, h1, ?_, rfl, by decide⟩ <;>
    (show (decodeCode 0#64 n).authentic 0#64 = false
     rw [h2, codeWith_fields, Code.authentic]; simp)

theorem witness_AuthenticRefusalsConsumeNothing :
    live.ce.group = none ∧
      (∃ chars, live.presents .keypad chars (codeFor 0#64 (body 11 0)) ∧ 11 ≤ (codeFor 0#64 (body 11 0)).cls) ∧
      (∃ chars, live.presents .keypad chars (codeFor 0#64 (body 2 0)) ∧ (codeFor 0#64 (body 2 0)).cls = 2) ∧
      (∃ (s : State) (chars : List Byte), s.presents .remote chars (codeFor 0#64 (body 10 0)) ∧ (codeFor 0#64 (body 10 0)).cls ≤ 10 ∧
        (codeFor 0#64 (body 10 0)).sequence ≤ s.ce.keys.floor ∧ s.ce.group = none) ∧
      (∃ (s : State) (chars : List Byte), s.presents .keypad chars (codeFor 0#64 (body 0 0)) ∧
        s.ce.keys.floor < (codeFor 0#64 (body 0 0)).sequence ∧
        (codeFor 0#64 (body 0 0)).sequence ∈ s.ce.keys.history ∧ s.ce.group = none) ∧
      (∃ chars, live.presents .keypad chars (codeFor 0#64 (creditBody 13)) ∧
        live.ce.keys.floor < (codeFor 0#64 (creditBody 13)).sequence ∧
        codeExpired live (codeFor 0#64 (creditBody 13)) = true) ∧
      (∃ chars, live.presents .keypad chars (codeFor 0#64 (body 0 2000001)) ∧
        codeExpired live (codeFor 0#64 (body 0 2000001)) = false ∧
        (codeFor 0#64 (body 0 2000001)).cls ≤ 1 ∧ 2000000 < (codeFor 0#64 (body 0 2000001)).value.toNat) := by
  refine ⟨rfl, ?_, ?_, ?_, ?_, ?_, ?_⟩
  · obtain ⟨chars, h⟩ := presents_body .keypad 11 0
    exact ⟨chars, h, by rw [cls_of]; decide⟩
  · obtain ⟨chars, h⟩ := presents_body .keypad 2 0
    exact ⟨chars, h, by rw [cls_of]; decide⟩
  · exact ⟨live.setKeys { live.ce.keys with floor := 7 }, _,
      presents_codeFor _ .remote (body 10 0) (by decide) rfl rfl (by decide), by rw [cls_of]; decide,
      by rw [sequence_of]; decide, rfl⟩
  · exact ⟨live.setKeys { live.ce.keys with history := [7] }, _,
      presents_codeFor _ .keypad (body 0 0) (by decide) rfl rfl (by decide), by rw [sequence_of]; decide,
      by rw [sequence_of]; decide, rfl⟩
  · exact ⟨_, presents_codeFor live .keypad (creditBody 13) live_ready rfl rfl (by decide), by rw [sequence_of]; decide,
      by rw [codeFor, codeWith_fields]; decide⟩
  · obtain ⟨chars, h⟩ := presents_body .keypad 0 2000001
    exact ⟨chars, h, by rw [codeFor, codeWith_fields]; decide, by rw [cls_of]; decide, by rw [value_of]; decide⟩

/-- 05 section 5.5: the values on both sides of each class's rules, and the first that breaks each. The issue day is 10,
but where it is given. -/
theorem test_value_rules :
    (∀ x ∈ [(0, 2000000), (1, 2000000), (2, 1), (3, 2 * 1439), (4, 8192), (4, 26 * 8192), (4, 32 * 8192), (4, 40 * 8192),
        (4, 48 * 8192), (4, 59 * 8192), (5, 1), (6, 1439 * 1024 + 59 * 16), (7, 127 * 16384), (8, 524288 + 524287),
        (9, 3 * 524288), (10, 3 * 524288)], valueGood x.1 10 (BitVec.ofNat 21 x.2) = true) ∧
    (∀ x ∈ [(0, 2000001), (1, 2000001), (2, 2), (3, 2 * 1440), (3, 1), (4, 0), (4, 27 * 8192), (4, 31 * 8192),
        (4, 41 * 8192), (4, 47 * 8192), (4, 60 * 8192), (5, 256), (6, 1440 * 1024), (6, 60 * 16), (6, 1), (7, 1),
        (8, 2 * 524288)], valueGood x.1 10 (BitVec.ofNat 21 x.2) = false) ∧
    valueGood 6 (-1) 0 = false ∧ valueGood 6 49710 (BitVec.ofNat 21 (388 * 1024 + 15 * 16)) = true ∧
    valueGood 6 49710 (BitVec.ofNat 21 (388 * 1024 + 16 * 16)) = false := by decide +kernel

theorem unexpired_of (s : State) (b : BitVec 53)
    (h : codeExpired s ⟨(b.extractLsb' 49 4).toNat, 0, (b.extractLsb' 21 12).toNat, 0, 0, 0⟩ = false) :
    codeExpired s (codeFor 0#64 b) = false := by
  rw [codeFor, codeWith_fields]
  exact h

/-- Every class's rule is broken by a code that is presented and passes the steps before. -/
theorem witness_value_rules_broken :
    ∀ x ∈ [(1, 2000001), (2, 2), (3, 2 * 1440), (4, 27 * 8192), (5, 256), (6, 1440 * 1024), (7, 1), (8, 2 * 524288)],
      ∃ (chars : List Byte) (c : Code), live.presents .remote chars c ∧ c.cls = x.1 ∧ c.value.toNat = x.2 ∧
        live.ce.keys.floor < c.sequence ∧ c.sequence ∉ live.ce.keys.history ∧ codeExpired live c = false := by
  intro x hx
  have h : ∀ y ∈ [(1, 2000001), (2, 2), (3, 2 * 1440), (4, 27 * 8192), (5, 256), (6, 1440 * 1024), (7, 1), (8, 2 * 524288)],
      ((body y.1 y.2).extractLsb' 49 4).toNat = y.1 ∧ ((body y.1 y.2).extractLsb' 0 21).toNat = y.2 ∧
        live.ce.keys.floor < ((body y.1 y.2).extractLsb' 33 16).toNat ∧
        ((body y.1 y.2).extractLsb' 33 16).toNat ∉ live.ce.keys.history ∧
        codeExpired live ⟨((body y.1 y.2).extractLsb' 49 4).toNat, 0, ((body y.1 y.2).extractLsb' 21 12).toNat, 0, 0, 0⟩ =
          false := by decide +kernel
  obtain ⟨chars, hc⟩ := presents_body .remote x.1 x.2
  exact ⟨chars, _, hc, by rw [cls_of]; exact (h x hx).1, by rw [value_of]; exact (h x hx).2.1,
    by rw [sequence_of]; exact (h x hx).2.2.1, by rw [sequence_of]; exact (h x hx).2.2.2.1,
    unexpired_of _ _ (h x hx).2.2.2.2⟩

/-- A top-up that changes the credit state and one that does not, with a group that the code discards and room for the
notices; one with the event queue full; and one that would pass the greatest balance. -/
theorem witness_CreditCodeTopsUp :
    (∀ state ∈ [CreditState.low, .inCredit], ∀ n ∈ [0, 14, 16], ∃ (s : State) (chars : List Byte) (c : Code),
      s.presents .keypad chars c ∧ s.passes c ∧ c.cls = 0 ∧ s.acct.balance + (c.value.toNat : Nat) ≤ 99999999 ∧
        s.params.recoveryPct ≤ 100 ∧ s.acct.debt ≤ 99999999 ∧ s.acct.state = state ∧ s.hlc.queue.length = n ∧
        s.ce.group.isSome = true) ∧
    (∃ (s : State) (chars : List Byte) (c : Code), s.presents .keypad chars c ∧ s.passes c ∧ c.cls = 0 ∧ c.value.toNat = 2000000 ∧
      s.params.recoveryPct ≤ 100 ∧ s.acct.debt = 0 ∧ 99999999 < s.acct.balance + 2000000 ∧ s.ce.group = none) := by
  refine ⟨?_, ?_⟩
  · intro state hs n hn
    have h : 0 < ((body 0 1000).extractLsb' 33 16).toNat ∧
        codeExpired live ⟨((body 0 1000).extractLsb' 49 4).toNat, 0, ((body 0 1000).extractLsb' 21 12).toNat, 0, 0, 0⟩ =
          false ∧
        valueGood ((body 0 1000).extractLsb' 49 4).toNat
          (issueDay (dayOf live.clock) ((body 0 1000).extractLsb' 21 12).toNat) ((body 0 1000).extractLsb' 0 21) =
            true := by decide +kernel
    exact ⟨(toldOf state n).setGroup (some ⟨.setRate, 9, .keypad, [⟨1, 0⟩], 1⟩), _, codeFor 0#64 (body 0 1000),
      presents_codeFor _ .keypad _ ⟨rfl, rfl, rfl⟩ rfl rfl (by show 5 ≠ 0; decide),
      passes_of _ _ ⟨h.1, List.not_mem_nil, h.2.1, h.2.2⟩, by rw [cls_of]; decide,
      by rw [value_of]; show (5000 : Int) + _ ≤ _; decide, by show 25 ≤ 100; decide, by show 0 ≤ _; decide, rfl,
      List.length_replicate, rfl⟩
  · exact ⟨live.setAcct { live.acct with balance := 98000000 }, _, codeFor 0#64 (body 0 2000000),
      presents_codeFor _ .keypad _ (by decide) rfl rfl (by decide), passes_of _ _ (by decide +kernel),
      by rw [cls_of]; decide, by rw [value_of]; decide, by decide, rfl, by decide, rfl⟩

/-- The five classes of the statement, REMOTE_SWITCH with value 0. -/
theorem witness_EngineeringCodesTakeEffect :
    (∀ x ∈ [(1, 500), (2, 0), (2, 1), (5, 300 * 256 + 6), (5, 6), (6, 540 * 1024 + 59 * 16), (7, 96 * 16384)],
      ∃ (chars : List Byte) (c : Code), live.presents .remote chars c ∧ live.passes c ∧ c.cls = x.1 ∧ c.value.toNat = x.2) ∧
    live.acct.debt ≤ 99999999 ∧ live.sss.reasons.remote = false ∧ live.sss.contactor = .closed ∧
    live.hlc.queue.length ≤ 12 := by
  refine ⟨?_, by decide, rfl, rfl, by decide⟩
  intro x hx
  have h : ∀ y ∈ [(1, 500), (2, 0), (2, 1), (5, 300 * 256 + 6), (5, 6), (6, 540 * 1024 + 59 * 16), (7, 96 * 16384)],
      (live.ce.keys.floor < ((body y.1 y.2).extractLsb' 33 16).toNat ∧
        ((body y.1 y.2).extractLsb' 33 16).toNat ∉ live.ce.keys.history ∧
        codeExpired live ⟨((body y.1 y.2).extractLsb' 49 4).toNat, 0, ((body y.1 y.2).extractLsb' 21 12).toNat, 0, 0, 0⟩ =
          false ∧
        valueGood ((body y.1 y.2).extractLsb' 49 4).toNat
          (issueDay (dayOf live.clock) ((body y.1 y.2).extractLsb' 21 12).toNat) ((body y.1 y.2).extractLsb' 0 21) = true) ∧
      ((body y.1 y.2).extractLsb' 49 4).toNat = y.1 ∧ ((body y.1 y.2).extractLsb' 0 21).toNat = y.2 := by decide +kernel
  obtain ⟨chars, hc⟩ := presents_body .remote x.1 x.2
  exact ⟨chars, _, hc, passes_of _ _ (h x hx).1, by rw [cls_of]; exact (h x hx).2.1, by rw [value_of]; exact (h x hx).2.2⟩

/-- DEBT_ADD of 500 cents: debt filled exactly, and a loss of 1 cent, noted already or not; with a group that the code
discards, and the event queue with room or full. -/
theorem witness_DebtAddSaturates :
    ∀ debt ∈ [99999499, 99999500], ∀ noted : Bool, ∀ n ∈ [0, 14, 16], ∃ (s : State) (chars : List Byte) (c : Code),
      s.presents .keypad chars c ∧ s.passes c ∧ c.cls = 1 ∧ c.value.toNat = 500 ∧ s.acct.debt = debt ∧ debt ≤ 99999999 ∧
        s.acct.satNoted = noted ∧ s.hlc.queue.length = n ∧ s.ce.group.isSome = true := by
  intro debt hd noted n hn
  have h : 0 < ((body 1 500).extractLsb' 33 16).toNat ∧
      codeExpired live ⟨((body 1 500).extractLsb' 49 4).toNat, 0, ((body 1 500).extractLsb' 21 12).toNat, 0, 0, 0⟩ =
        false ∧
      valueGood ((body 1 500).extractLsb' 49 4).toNat
        (issueDay (dayOf live.clock) ((body 1 500).extractLsb' 21 12).toNat) ((body 1 500).extractLsb' 0 21) = true := by
    decide +kernel
  have hd : debt ≤ 99999999 := by revert debt; decide
  exact ⟨((toldOf .inCredit n).setAcct { live.acct with debt := debt, satNoted := noted }).setGroup
      (some ⟨.setRate, 9, .keypad, [⟨1, 0⟩], 1⟩), _, codeFor 0#64 (body 1 500),
    presents_codeFor _ .keypad _ ⟨rfl, rfl, rfl⟩ rfl rfl (by show 5 ≠ 0; decide),
    passes_of _ _ ⟨h.1, List.not_mem_nil, h.2.1, h.2.2⟩, by rw [cls_of]; decide, by rw [value_of]; decide, rfl, hd, rfl,
    List.length_replicate, rfl⟩

theorem witness_SetConfigGivesTheClampedValue : ∃ (chars : List Byte) (c : Code) (row : ParamRow), live.presents .keypad chars c ∧ live.passes c ∧
    c.cls = 4 ∧ paramRow (c.value.toNat / 8192) = some row ∧ live.acct.debt ≤ 99999999 ∧ c.value.toNat / 8192 = 10 := by
  obtain ⟨chars, h⟩ := presents_body .keypad 4 (10 * 8192 + 6000)
  exact ⟨chars, _, _, h, passes_of _ _ (by decide +kernel), by rw [cls_of]; decide, by rw [value_of]; rfl, by decide,
    by rw [value_of]; decide⟩

/-- `live` with E_ALLOW 0 and emergency credit not available, its clock not valid. -/
def noAllowance : State :=
  ((live.setParams { live.params with eAllow := 0 }).setAcct { live.acct with available := false }).setTc
    { live.tc with clockValid := false }

/-- The clauses of a recomputation and of CYCLE_DAYS: E_ALLOW raised from 0, both thresholds, CYCLE_DAYS changed and
given the value it has. -/
theorem witness_SetConfigRecomputes :
    (∀ x ∈ [(10, 200), (12, 50), (13, 100), (16, 7), (16, 30)], ∃ (chars : List Byte) (c : Code),
      noAllowance.presents .keypad chars c ∧ noAllowance.passes c ∧ c.cls = 4 ∧ c.value.toNat = x.1 * 8192 + x.2) ∧
    noAllowance.params.eAllow = 0 ∧ noAllowance.acct.accepted = false ∧ noAllowance.params.cycleDays = 30 ∧
    noAllowance.tc.clockValid = false := by
  refine ⟨?_, by decide⟩
  intro x hx
  have h : ∀ y ∈ [(10, 200), (12, 50), (13, 100), (16, 7), (16, 30)],
      (noAllowance.ce.keys.floor < ((body 4 (y.1 * 8192 + y.2)).extractLsb' 33 16).toNat ∧
        ((body 4 (y.1 * 8192 + y.2)).extractLsb' 33 16).toNat ∉ noAllowance.ce.keys.history ∧
        codeExpired noAllowance ⟨((body 4 (y.1 * 8192 + y.2)).extractLsb' 49 4).toNat, 0,
          ((body 4 (y.1 * 8192 + y.2)).extractLsb' 21 12).toNat, 0, 0, 0⟩ = false ∧
        valueGood ((body 4 (y.1 * 8192 + y.2)).extractLsb' 49 4).toNat
          (issueDay (dayOf noAllowance.clock) ((body 4 (y.1 * 8192 + y.2)).extractLsb' 21 12).toNat)
          ((body 4 (y.1 * 8192 + y.2)).extractLsb' 0 21) = true) ∧
      ((body 4 (y.1 * 8192 + y.2)).extractLsb' 49 4).toNat = 4 ∧
      ((body 4 (y.1 * 8192 + y.2)).extractLsb' 0 21).toNat = y.1 * 8192 + y.2 := by decide +kernel
  exact ⟨_, codeFor 0#64 (body 4 (x.1 * 8192 + x.2)),
    presents_codeFor noAllowance .keypad _ (by decide) rfl rfl (by decide), passes_of _ _ (h x hx).1,
    by rw [cls_of]; exact (h x hx).2.1, by rw [value_of]; exact (h x hx).2.2⟩

theorem witness_ClearTamperRemovesWhatEndedBefore : ∃ (s : State) (chars : List Byte) (c : Code), s.presents .keypad chars c ∧ s.passes c ∧ c.cls = 3 ∧
    s.tl.records.length ≤ 64 ∧ s.tl.records ≠ [] := by
  exact ⟨logged, _, codeFor 0#64 (body 3 (32 * 4096 + 720 * 2)),
    presents_codeFor _ .keypad _ (by decide) rfl rfl (by decide), passes_of _ _ (by decide +kernel),
    by rw [cls_of]; decide, by decide, by decide⟩

/-- `live` with a group that waits. -/
def grouped (cls : GroupClass) (parts : List GroupPart) : State :=
  live.setGroup (some ⟨cls, 7, .remote, parts, 600000⟩)

/-- Whatever group waits, a code of sequence 7 can be presented from REMOTE and passes the tests before the apply step.
-/
theorem grouped_presents (cls : GroupClass) (parts : List GroupPart) (n value : Nat)
    (h : (0 < ((body n value).extractLsb' 33 16).toNat ∧ codeExpired live
        ⟨((body n value).extractLsb' 49 4).toNat, 0, ((body n value).extractLsb' 21 12).toNat, 0, 0, 0⟩ = false ∧
      valueGood ((body n value).extractLsb' 49 4).toNat
        (issueDay (dayOf live.clock) ((body n value).extractLsb' 21 12).toNat) ((body n value).extractLsb' 0 21) = true) ∧
      ((body n value).extractLsb' 49 4).toNat = n ∧ ((body n value).extractLsb' 33 16).toNat = 7 ∧
      ((body n value).extractLsb' 0 21).toNat = value) :
    ∃ (chars : List Byte) (c : Code), (grouped cls parts).presents .remote chars c ∧ (grouped cls parts).passes c ∧
      c.cls = n ∧ c.sequence = 7 ∧ c.value.toNat = value :=
  ⟨_, codeFor 0#64 (body n value),
    presents_codeFor (grouped cls parts) .remote (body n value) live_ready rfl rfl (by show 5 ≠ 0; decide),
    passes_of (grouped cls parts) _ ⟨h.1.1, List.not_mem_nil, h.1.2.1, h.1.2.2⟩, by rw [cls_of]; exact h.2.1,
    by rw [sequence_of]; exact h.2.2.1, by rw [value_of]; exact h.2.2.2⟩

/-- The parts of a SET_PROFILE content for profile B with one switch point, at start 143 and band 3; part 0 is index 0. -/
def profileParts : List GroupPart := [⟨0, BitVec.ofNat 19 (2 ^ 18 + 2 ^ 15 + 143 * 2 ^ 7 + 3 * 2 ^ 5)⟩, ⟨1, 0⟩, ⟨2, 0⟩]

/-- Each case is a group that waits, a class and a value: the first part of each class; a part received; a part that
does not complete its group; complete contents that keep their rules and that break them; a code of another class, of
another sequence in the group's class (a group of 7 against a group of 8) and of an unsupported class. -/
theorem witness_GroupsAreAppliedWhole :
    (∀ x ∈ [8, 9, 10], ∃ (chars : List Byte) (c : Code),
      live.presents .remote chars c ∧ live.passes c ∧ c.cls = x ∧ live.ce.group = none) ∧
    (∀ x ∈ [(GroupClass.setRate, [(⟨0, 0⟩ : GroupPart)], 8, 0), (.setRate, [⟨0, 0⟩], 8, 524288 + 128),
        (.setRate, [⟨0, 0⟩], 8, 524288 + 1), (.setProfile, [⟨0, 0⟩], 9, 3 * 524288),
        (.setProfile, profileParts, 9, 3 * 524288), (.setProfile, profileParts, 9, 3 * 524288 + 1),
        (.keyChange, [⟨0, 0⟩, ⟨1, 0⟩, ⟨2, 0⟩], 10, 3 * 524288 + 256), (.keyChange, [⟨0, 0⟩, ⟨1, 0⟩, ⟨2, 0⟩], 10, 3 * 524288),
        (.setProfile, [⟨0, 0⟩], 8, 0), (.setRate, [⟨0, 0⟩], 7, 0)],
      ∃ (chars : List Byte) (c : Code), (grouped x.1 x.2.1).presents .remote chars c ∧ (grouped x.1 x.2.1).passes c ∧
        c.cls = x.2.2.1 ∧ c.sequence = 7 ∧ c.value.toNat = x.2.2.2) ∧
    live.ce.keys.keyRevision = 0 ∧ live.hlc.queue.length < 16 ∧
    ((grouped .setRate [⟨0, 0⟩]).setGroup (some ⟨.setRate, 8, .remote, [⟨0, 0⟩], 1⟩)).presents .remote
      (charsFor 0#64 (body 8 0) (Config.codeCheck 0#64 (body 8 0))) (codeFor 0#64 (body 8 0)) ∧
    ∃ chars, (grouped .setRate []).presents .remote chars (codeFor 0#64 (body 11 0)) ∧
      11 ≤ (codeFor 0#64 (body 11 0)).cls := by
  refine ⟨?_, ?_, rfl, by decide, presents_codeFor _ .remote _ live_ready rfl rfl (by show 5 ≠ 0; decide), _,
    presents_codeFor _ .remote _ live_ready rfl rfl (by show 5 ≠ 0; decide), by rw [cls_of]; decide⟩
  · intro x hx
    have h : ∀ y ∈ [8, 9, 10], (live.ce.keys.floor < ((body y 0).extractLsb' 33 16).toNat ∧
        ((body y 0).extractLsb' 33 16).toNat ∉ live.ce.keys.history ∧
        codeExpired live ⟨((body y 0).extractLsb' 49 4).toNat, 0, ((body y 0).extractLsb' 21 12).toNat, 0, 0, 0⟩ = false ∧
        valueGood ((body y 0).extractLsb' 49 4).toNat
          (issueDay (dayOf live.clock) ((body y 0).extractLsb' 21 12).toNat) ((body y 0).extractLsb' 0 21) = true) ∧
        ((body y 0).extractLsb' 49 4).toNat = y := by decide +kernel
    obtain ⟨chars, hc⟩ := presents_body .remote x 0
    exact ⟨chars, _, hc, passes_of _ _ (h x hx).1, by rw [cls_of]; exact (h x hx).2, rfl⟩
  · intro x hx
    apply grouped_presents
    revert x
    decide +kernel

/-! ### Witnesses: keys, trims and commissioning -/

theorem witness_RestorePressClosesWhereArmed :
    let at' := fun (c : Contactor) (x : Reasons) => live.setSss { live.sss with contactor := c, reasons := x }
    ((at' .armed noReasons).ready ∧ (at' .armed noReasons).ps.power = .active) ∧
      (at' (.fault .noClose) noReasons).ready ∧
      ((tripped.setLl { tripped.ll with reclose := .lockout }).ready ∧
        (tripped.setLl { tripped.ll with reclose := .lockout }).sss.reasons = ⟨false, true, false, false, false⟩) ∧
      (live.ready ∧ live.sss.contactor = .closed) ∧ tripped.ready ∧ tripped.ll.reclose ≠ .lockout := by decide

/-- OFFER at −100, CREDIT held, OPEN. -/
def offered : State := { live with
  cl := ⟨{ live.cl.acct with balance := -100, state := .offer }, true⟩
  sss := { live.sss with contactor := .opened, verified := .opened, reasons := { noReasons with credit := true } } }

theorem witness_EmergencyIsTakenInOfferAlone :
    (offered.ready ∧ offered.ps.power = .active ∧ offered.acct.state = .offer ∧
      offered.acct.state = creditStateOf offered.params offered.acct ∧
      -(offered.params.eAllow : Int) < offered.acct.balance ∧ offered.cl.creditHeld = true) ∧
    ((offered.setSss { offered.sss with contactor := .closing, phase := .pulse }).ready ∧
      (offered.setSss { offered.sss with contactor := .armed, reasons := noReasons } |>.holdCredit false).ready) ∧
    (live.ready ∧ live.acct.state ≠ .offer) := by decide

theorem witness_TrimMovesTheClockWithinItsAllowance :
    (live.ready ∧ live.ps.power = .active ∧ live.clock ≤ 4294967295 ∧ live.tc.trimUsed ≤ 120) ∧
    (let s := live.setTc { live.tc with allowanceDay := 10, sched := { live.tc.sched with clock := 950390 } }
     s.ready ∧ (950390 + 30) / 86400 > max s.tc.allowanceDay (s.clock / 86400)) := by decide

/-- A COMMISSION request of 20 bytes, none of them an entry: meter 77, a key, revision 15, 1,000 cents, 09:00 on
weekday 6. -/
def shortRequest : List Byte :=
  bytesOf 4 77 ++ bytesOf 8 12345 ++ [0x0F#8] ++ bytesOf 4 1000 ++ bytesOf 2 540 ++ [0x06#8]

theorem witness_CommissionMakesTheMeter :
    State.reset.ready ∧ State.reset.ps.power = .shelf ∧ State.reset.ps.write = none ∧ shortRequest.length = 20 ∧
      shortRequest.length % 3 = 2 ∧ CommissionGood shortRequest := by
  refine ⟨by decide, by decide, by decide, by decide, by decide, by decide, by decide, by decide, ?_, ?_,
    by decide +kernel⟩
  · intro k h; exact absurd h (by rw [show entryCount shortRequest = 0 by decide]; omega)
  · intro j k _ h; exact absurd h (by rw [show entryCount shortRequest = 0 by decide]; omega)

/-- A request with one entry: VNOM (index 1) at 240 V is good, at 301 V is not, nor is COMM_WEEKDAY (index 17). -/
theorem test_commission_entries :
    let good := shortRequest ++ [0x01#8, 0x00#8, 0xF0#8]
    CommissionGood good ∧ (paramsGiven good).vNom = 240 ∧ ¬CommissionGood (shortRequest ++ [0x01#8, 0x01#8, 0x2D#8]) ∧
      ¬CommissionGood (shortRequest ++ [0x11#8, 0x00#8, 0x01#8]) ∧
      ¬CommissionGood (shortRequest ++ [0x01#8, 0x00#8, 0xF0#8, 0x01#8, 0x00#8, 0xF0#8]) := by
  refine ⟨⟨by decide, by decide, by decide, ?_, ?_, by decide +kernel⟩, by decide +kernel, ?_, ?_, ?_⟩
  · intro k h
    obtain rfl : k = 0 := by
      rw [show entryCount (shortRequest ++ [0x01#8, 0x00#8, 0xF0#8]) = 1 by decide] at h; omega
    exact ⟨by decide, _, rfl, by decide, by decide⟩
  · intro j k h1 h2
    rw [show entryCount (shortRequest ++ [0x01#8, 0x00#8, 0xF0#8]) = 1 by decide] at h2; omega
  · intro h
    obtain ⟨_, row, hr, _, hi⟩ := h.entries 0 (by decide)
    have : row = ⟨1, 100, 300⟩ := by
      have e : paramRow (entryIndex (shortRequest ++ [0x01#8, 0x01#8, 0x2D#8]) 0) = some ⟨1, 100, 300⟩ := rfl
      rw [e] at hr; exact (Option.some.inj hr).symm
    subst this
    exact absurd hi (by decide)
  · intro h; exact absurd (h.entries 0 (by decide)).1 (by decide)
  · intro h; exact absurd (h.distinct 0 1 (by decide) (by decide)) (by decide)

/-! ### Witnesses: the two links -/

theorem witness_GoodFrameIsTheCommandItSpells :
    live.linkServed = true ∧ live.hlc.rx = none ∧ (List.replicate 63 0x00#8).length ≤ 63 ∧
      (0x00#8 : Byte).toNat < 0x80 ∧ 0x00#8 ∉ requestKinds ∧
      (live.setHlc { live.hlc with slot := .periodicWrite }).hlc.slot ≠ .empty := by decide

theorem witness_BadFramesLeaveNoTrace :
    (live.linkServed = true ∧ live.hlc.rx = none) ∧ (0xC2#8 : Byte) ≠ 0xC3#8 ∧ 0x40 < (0x41#8 : Byte).toNat ∧
      (0x00#8 : Byte).toNat * 256 + (0x00#8 : Byte).toNat ≠ (frameCheck [0x01#8, 0x01#8]).toNat ∧
      0x80 ≤ (0x80#8 : Byte).toNat ∧
      (∃ s : State, s.hlc.rx = some ⟨[0xC3#8], 21⟩ ∧ s.linkServed = true) ∧
      (∃ s : State, s.hlc.rx = some ⟨[0xC3#8], 20⟩) ∧
      (live.setPs { live.ps with power := .holdup }).linkServed = false := by
  refine ⟨by decide, by decide, by decide, by decide +kernel, by decide,
    ⟨live.setHlc { live.hlc with rx := some ⟨[0xC3#8], 21⟩ }, rfl, by decide⟩,
    ⟨live.setHlc { live.hlc with rx := some ⟨[0xC3#8], 20⟩ }, rfl⟩, by decide⟩

/-- `live` in a silence of 2,000 ms. -/
def silent : State := live.setMli { live.mli with silenceMs := 2000, silenceRunning := true }

/-- LINKLOSS ACTIVE, unrecorded. -/
def lost : State := { silent with
  mli := { silent.mli with reported := true }
  tm := { live.tm with conds := { live.tm.conds with linkloss := ⟨.active, false, none, .serial 1⟩ } }
  tl := { live.tl with
    records := [⟨1, .linkloss, 863998, none, false, true, ⟨false, true, false, false⟩, some 2⟩], nextSerial := 2 }
  be := { live.be with tickTimer := some 0, bLast := 3000 } }

theorem witness_BurstsAreJudgedOnTheirOwn :
    (live.ps.power = .active ∧ live.mli.assembly = ⟨[], 0, false⟩ ∧ (List.replicate 31 0x00#8).length = 31 ∧
      (live.cond .linkloss).state ≠ .active) ∧
    (lost.ps.power = .active ∧ lost.mli.assembly = ⟨[], 0, false⟩ ∧ (lost.cond .linkloss).state = .active) ∧
    (0x01#8 ≠ recordCheck (List.replicate 31 0x00#8)) ∧
    ((List.replicate 32 (⟨0x5A#8, false⟩ : LineByte)).length ≠ 33) ∧
    (((List.replicate 33 (⟨0x5B#8, false⟩ : LineByte)).map LineByte.data).head? ≠ some 0x5A#8) ∧
    (∃ b ∈ List.replicate 33 (⟨0x5A#8, true⟩ : LineByte), b.framingError = true) := by
  refine ⟨by decide, by decide, by decide +kernel, by decide, by decide, ⟨_, List.mem_replicate.2 ⟨by decide, rfl⟩, rfl⟩⟩

theorem witness_RecordFieldsAreReadBack : ∃ (seq dur : Nat) (p : PerPhase Int) (v i : PerPhase Nat) (inn : Nat),
    seq < 2 ^ 8 ∧ dur < 2 ^ 16 ∧
      (∀ x, -8388608 ≤ p.get x ∧ p.get x < 8388608 ∧ v.get x < 2 ^ 16 ∧ i.get x < 2 ^ 24) ∧ inn < 2 ^ 24 :=
  ⟨255, 65535, ⟨-8388608, 8388607, 0⟩, ⟨65535, 0, 5210⟩, ⟨16777215, 0, 3200⟩, 16777215, by decide, by decide,
    by intro x; cases x <;> decide, by decide⟩

/-- The log of `live` full or not, used up or not, and the event queue with n notices. -/
def crowded (s : State) (records : Nat) (usedUp fullNoticed : Bool) (n : Nat) : State := { s with
  tl := { s.tl with
    records := List.replicate records ⟨1, .cover, 0, some 1, false, true, ⟨false, false, false, false⟩, none⟩
    usedUp := usedUp, fullNoticed := fullNoticed }
  hlc := { s.hlc with queue := List.replicate n ⟨.credit .low, 0⟩ } }

theorem witness_SilenceIsReportedOnce :
    (∀ n ∈ [15, 16], ∀ x ∈ [(63, false), (64, false), (63, true)], ∀ sup ∈ [none, some 0],
      let s := crowded (silent.setMli { silent.mli with suppression := sup }) x.1 x.2 false n
      s.ps.power = .active ∧ s.mli.silenceRunning = true ∧ s.mli.silenceMs = 2000 ∧ s.mli.reported = false ∧
        s.mli.suppression = sup ∧ (s.cond .linkloss).state = .idle ∧ s.tl.records.length = x.1 ∧ s.tl.usedUp = x.2 ∧
        s.hlc.queue.length = n) ∧
    (lost.mli.reported = true ∧ live.mli.silenceRunning = false ∧ live.mli.silenceMs < 2000 ∧
      live.mli.suppression = none ∧ (silent.setPs { silent.ps with power := .holdup }).ps.power ≠ .active) ∧
    (let s := lost.setMli { silent.mli with suppression := some 0 }
     s.ps.power = .active ∧ s.mli.suppression = some 0 ∧ 2000 ≤ s.mli.silenceMs ∧ s.mli.reported = false ∧
       (s.cond .linkloss).state ≠ .idle) ∧
    (silent.ps.power = .active ∧ silent.mli.silenceRunning = true ∧ 2000 ≤ silent.mli.silenceMs ∧
      silent.mli.reported = false ∧ silent.mli.suppression = none ∧ (silent.cond .linkloss).state = .idle ∧
      silent.tl.records.length < 64 ∧ silent.tl.usedUp = false) ∧
    (let s := lost.setMli silent.mli
     s.ps.power = .active ∧ s.mli.reported = false ∧ (s.cond .linkloss).state ≠ .idle) ∧
    (let s := silent.setMli { silent.mli with suppression := some 1 }
     s.ps.power = .active ∧ s.mli.suppression = some (0 + 1)) ∧
    (let s := silent.setMli { silent.mli with suppression := some 0 }
     s.ps.power = .active ∧ s.mli.suppression = some 0 ∧ 2000 ≤ s.mli.silenceMs ∧ s.mli.reported = false) ∧
    (let s := live.setMli { live.mli with suppression := some 0, silenceMs := 1999 }
     s.ps.power = .active ∧ s.mli.suppression = some 0 ∧ s.mli.silenceMs < 2000) := by decide

/-! ### Witnesses: billing and the load limiter -/

theorem witness_RecordIsBilled :
    voltageLoss.ps.power = .active ∧ (∃ r rest, voltageLoss.mli.queue = r :: rest) ∧
      voltageLoss.be.reg.billedResidue < 3600000 ∧ voltageLoss.acct.residue < 1000000 ∧
      voltageLoss.be.reg.cycleWh + 1 ≤ max48 ∧ floorOf voltageLoss.params ≤ voltageLoss.acct.balance ∧
      voltageLoss.acct.debt + 1 ≤ 99999999 ∧
      (let r := record 1 ⟨400, 0, 0⟩ ⟨2300, 2300, 2300⟩ ⟨1739, 0, 0⟩
       (liveWith r).sss.verified ≠ .unknown ∧
         (liveWith r).be.reg.billedResidue + intervalPower (liveWith r) r * r.dur < 3600000) :=
  ⟨rfl, ⟨_, _, rfl⟩, by decide, by decide, by decide, by decide, by decide, by decide⟩

theorem witness_SilenceTickIsBilled :
    (lost.ps.power = .active ∧ (lost.cond .linkloss).state = .active ∧ lost.be.tickTimer = some 0 ∧
      (lost.be.reg.billedResidue + lost.be.bLast * 250) / 3600000 = 0) ∧
    (let s := { lost with
       be := { lost.be with reg := { lost.be.reg with billedResidue := 3599999 } }
       tc := { lost.tc with sched := { lost.tc.sched with
         rates := ⟨⟨100000000, 0, 0⟩, ⟨0, 0, 0⟩, ⟨0, 0, 0⟩, ⟨0, 0, 0⟩⟩ } } }
     s.ps.power = .active ∧ (s.be.reg.billedResidue + s.be.bLast * 250) / 3600000 = 1 ∧
       0 < (s.acct.residue + 100000000) / 1000000 ∧ floorOf s.params ≤ s.acct.balance - 100 ∧ s.acct.debt ≤ 99999999 ∧
       (s.setAcct { s.acct with balance := -6950 }).acct.balance - 100 < floorOf s.params) := by decide

theorem witness_LimiterTripsAtTheEndOfTheRun :
    let s := live.setLl { live.ll with tempLimit := 2000, tempExpiry := 900000, watch := .watching, overload := 19 }
    (s.sss.contactor = .closed ∧ s.ll.watch = .watching ∧ ¬s.ll.tempExpiry ≤ s.clock ∧
      s.params.olRecords ≤ s.ll.overload + 1 ∧ s.sss.reasons.overload = false ∧ s.ps.power = .active ∧
      s.hlc.queue.length < 16) ∧
    (live.sss.contactor = .closed ∧ live.ll.watch = .off) ∧
    (live.setLl { live.ll with watch := .blanking, blanking := 1 }).ll.watch = .blanking ∧
    (s.setLl { s.ll with overload := 18 }).ll.overload + 1 < s.params.olRecords ∧ tripped.sss.contactor ≠ .closed := by
  decide

theorem witness_LimiterAndWeldTimersExpire :
    (tripped.ps.power = .active ∧ tripped.ll.reclose = .wait ∧ tripped.ll.recloseTimer = some 0 ∧
      tripped.ll.recloseCount < tripped.params.recloseMax ∧ tripped.sss.contactor = .opened ∧
      tripped.sss.reasons = ⟨false, true, false, false, false⟩ ∧ tripped.params.autoRecloseKeyless = 1) ∧
    (tripped.setParams { tripped.params with autoRecloseKeyless := 0 }).params.autoRecloseKeyless ≠ 1 ∧
    (tripped.setSss { tripped.sss with reasons := ⟨true, true, false, false, false⟩ }).sss.reasons =
      ⟨true, true, false, false, false⟩ ∧
    (tripped.params.recloseMax ≤ (tripped.setLl { tripped.ll with recloseCount := 3 }).ll.recloseCount) ∧
    (live.setLl { live.ll with window := some 0 }).ll.window = some 0 ∧
    (let s := live.setSss { live.sss with contactor := .fault .welded, weldRetry := some 0 }
     s.ps.power = .active ∧ s.sss.contactor = .fault .welded ∧ s.sss.weldRetry = some 0 ∧
       s.sss.reasons = noReasons ∧
       (s.setSss { s.sss with reasons := { noReasons with tamper := true } }).sss.reasons ≠ noReasons) := by decide

/-! ### Witnesses: tamper conditions, timers and the calendar -/

/-- A record before `live` that shows REVERSE on phase 2, its condition in a state with seven records counted. -/
def reversed (x : CondState) (n : Nat) : State :=
  { liveWith (record 1 ⟨0, -500, 0⟩ ⟨2300, 2300, 2300⟩ ⟨0, 0, 0⟩) with
    tm := { live.tm with conds := { live.tm.conds with reverse := ⟨Cond.fresh, { Cond.fresh with state := x }, Cond.fresh⟩ } }
    be := { live.be with runs := { live.be.runs with reverse := ⟨0, n, 0⟩ } } }

theorem witness_RecordConditionsTakeEightRecords :
    (∀ x ∈ [(CondState.idle, 0), (.pending, 6), (.pending, 7), (.active, 6), (.active, 7)],
      (reversed x.1 x.2).ps.power = .active ∧ (reversed x.1 x.2).sss.verified ≠ .unknown ∧
        ((reversed x.1 x.2).cond (.reverse .p2)).state = x.1 ∧ (reversed x.1 x.2).be.runs.get (.reverse .p2) = x.2) ∧
    (-500 : Int) < -((live.params.reverseW : Nat) : Int) ∧ ¬(0 : Int) < -((live.params.reverseW : Nat) : Int) ∧
    (∃ r rest, (reversed .idle 0).mli.queue = r :: rest) ∧
    let r := record 1 ⟨0, 0, 0⟩ ⟨1150, 1149, 0⟩ ⟨0, 0, 0⟩
    let s := fun (c : Contactor) (shown : Bool) => { liveWith r with
      sss := { live.sss with contactor := c, verified := .unknown }
      pins := { live.pins with loadv := ⟨shown, false, false⟩ } }
    (live.params.vNom * 10 ≤ 2 * r.v.get .p1 ∧ ¬live.params.vNom * 10 ≤ 2 * r.v.get .p2 ∧
      ¬live.params.vNom * 10 ≤ 2 * r.v.get .p3) ∧
    ∀ shown : Bool, ∀ c ∈ [Contactor.closed, .opened, .armed, .opening, .closing, .fault .driver],
      (s c shown).ps.power = .active ∧ (s c shown).mli.queue = [r] ∧ (s c shown).sss.verified = .unknown ∧
        (s c shown).sss.contactor = c ∧ (s c shown).pins.loadv.get .p1 = shown ∧
        (s c shown).sss.reasons = ⟨false, false, false, false, false⟩ :=
  ⟨by decide, by decide, by decide, ⟨_, _, rfl⟩, by decide, by decide⟩

/-- `reversed` with the log record of its condition, its extreme as given. -/
def measured (x : CondState) (n : Nat) (extreme : Option Int) : State :=
  let s := reversed x n
  (s.setCond (.reverse .p2) { s.cond (.reverse .p2) with ongoing := if x = .active then .serial 1 else .none }).setTl
    { s.tl with
      records := [⟨1, .reverse .p2, 100, none, false, true, ⟨false, false, false, false⟩, extreme⟩], nextSerial := 2 }

/-- A start, a measure that is worse than the extreme held and one that is not, and an end of REVERSE. -/
theorem witness_record_measures :
    (measured .pending 7 none).tl.records.length ≤ 54 ∧ (measured .pending 7 none).tl.usedUp = false ∧
    (∀ d ∈ allConds, ((measured .pending 7 none).cond d).ongoing = .none) ∧
    ∀ x ∈ [(6, some (-499)), (7, some (-501)), (7, none)],
      let s := measured .active x.1 x.2
      s.ps.power = .active ∧ s.sss.verified ≠ .unknown ∧ (s.cond (.reverse .p2)).state = .active ∧
        (s.cond (.reverse .p2)).ongoing = .serial 1 ∧ (∀ d ∈ allConds, d ≠ .reverse .p2 → (s.cond d).ongoing ≠ .serial 1) ∧
        s.tl.records.map (fun z => (z.serial, z.cond, z.stop)) = [(1, .reverse .p2, none)] := by decide

/-- 08 R137, 09 R155: the extremes that a start and two measures of −500 W leave. -/
theorem test_reverse_extremes :
    ((after (exec (.recordTake ⟨true, true, true⟩) (measured .pending 7 none))).tl.records.map TamperRecord.extreme =
      [none, some (-500)]) ∧
    [-499, -501].map (fun held =>
      (after (exec (.recordTake ⟨true, true, true⟩) (measured .active 0 (some held)))).tl.records.map
        TamperRecord.extreme) = [[some (-500)], [some (-501)]] := by decide +kernel

theorem witness_SensorChangesStartFilters :
    let s := fun (x : CondState) (shown : Bool) => { live with
      tm := { live.tm with conds := { live.tm.conds with mag := { Cond.fresh with state := x } } }
      pins := { live.pins with sensor := ⟨false, false, shown⟩ } }
    (∀ x ∈ [CondState.idle, .pending, .active], ((s x false).cond .mag).state = x ∧ (s x false).ps.power = .active ∧
      (s x false).pins.sensor.get .mag ≠ true ∧ (s x true).pins.sensor.get .mag ≠ false) ∧
    (State.reset.ps.power ≠ .active ∧ State.reset.pins.sensor.get .cover ≠ true) := by decide

theorem witness_SensorFiltersDecideConditions :
    (coverDue.ps.power = .active ∧ coverDue.tm.filters.get .cover = .timing 0 ∧ (coverDue.cond .cover).state = .pending ∧
      coverDue.tl.records.length < 64 ∧ coverDue.tl.usedUp = false ∧ coverDue.hlc.queue.length < 16) ∧
    (let s := { live with tm := { live.tm with
       conds := { live.tm.conds with mag := { Cond.fresh with state := .active, ongoing := .serial 1 } }
       filters := ⟨.timing 0, .stopped, .timing 0⟩ } }
     s.ps.power = .active ∧ s.tm.filters.get .mag = .timing 0 ∧ (s.cond .mag).state = .active ∧
       (s.setCond .meterCase { Cond.fresh with state := .pending }).tm.filters.get .meterCase = .timing 0 ∧
       (s.params.actions.get .meterCase).testBit 0 = true ∧ s.tm.tamperHeld = false ∧
       (s.params.actions.get .mag).testBit 1 = true) ∧
    (∀ noticed : Bool, ∀ n ∈ [14, 15, 16], ∀ x ∈ [(63, false), (64, false), (63, true)],
      let s := crowded coverDue x.1 x.2 noticed n
      s.ps.power = .active ∧ s.tm.filters.get .cover = .timing 0 ∧ (s.cond .cover).state = .pending ∧
        s.tl.records.length = x.1 ∧ s.tl.usedUp = x.2 ∧ s.tl.fullNoticed = noticed ∧ s.hlc.queue.length = n) ∧
    ∀ x ∈ [Ongoing.none, .unrecorded, .serial 1],
      let s := coverDue.setCond .cover { Cond.fresh with state := .active, ongoing := x }
      s.ps.power = .active ∧ s.tm.filters.get .cover = .timing 0 ∧ (s.cond .cover).state = .active ∧
        (s.cond .cover).ongoing = x := by decide

/-- 08 R141, 09 R154, 12 R182: what the event queue is told by an end, and by the first start that finds the log full. -/
theorem test_tamper_notices :
    (after (exec (.sensorFilterExpiry .cover)
      (coverDue.setCond .cover { Cond.fresh with state := .active, ongoing := .serial 1 }))).hlc.queue =
        [⟨.tamperEnd .cover (.serial 1), 864000⟩] ∧
    (after (exec (.sensorFilterExpiry .cover) (crowded coverDue 64 false false 0))).hlc.queue =
      [⟨.logFull .cover, 864000⟩, ⟨.tamperStart .cover .unrecorded, 864000⟩] := by decide

theorem witness_TamperTimersExpire :
    (let s := { live with
       ps := { live.ps with power := .holdup, sampleTimer := some 0 }
       pins := { live.pins with sensor := ⟨true, false, true⟩ }
       tm := { live.tm with
         conds := { live.tm.conds with mag := { Cond.fresh with state := .pending } }
         filters := ⟨.samples 0, .samples 0, .samples 1⟩ } }
     s.ps.power = .holdup ∧ s.ps.sampleTimer = some 0 ∧ (s.cond .meterCase).state = .idle ∧
       (s.cond .mag).state = .pending ∧ s.tm.filters.get .mag = .samples 1 ∧
       (∀ y ∈ s.tl.records, y.serial < s.tl.nextSerial)) ∧
    (let s := live.setTm { live.tm with hold := some 0 }
     s.ps.power = .active ∧ s.tm.hold = some 0) ∧
    (lost.ps.power = .active ∧ (lost.cond .linkloss).state = .active ∧ (lost.cond .linkloss).ongoing = .serial 1 ∧
      ∀ x ∈ lost.tl.records, x.serial = 1 → x.cond = .linkloss) := by decide

theorem witness_CodeTimersExpire :
    (let s := { live with
       ce := { live.ce with lockout := ⟨some 0, none⟩, keys := { live.ce.keys with attempts := ⟨0, 5⟩ } }
       tm := { live.tm with probeSources := ⟨true, false⟩ } }
     s.ps.power = .active ∧ s.ce.lockout.get .keypad = some 0 ∧ s.tm.probeSources.get .keypad = true ∧
       s.tm.probeSources.set .keypad false = ⟨false, false⟩ ∧ s.hlc.queue.length ≤ 13 ∧
       (s.setTm { s.tm with probeSources := ⟨true, true⟩ }).tm.probeSources.set .keypad false ≠ ⟨false, false⟩) ∧
    (let s := live.setGroup (some ⟨.setProfile, 7210, .keypad, [⟨2, 0⟩, ⟨0, 0⟩], 0⟩)
     s.ps.power = .active ∧ s.ce.group.any (fun g => g.timer == 0) = true ∧ s.hlc.queue.length < 16) := by decide

theorem witness_ClockAndCalendarAdvance :
    (let s := live.setTc { live.tc with phase := 4096000 }
     s.ps.power = .active ∧ 4096000 ≤ s.tc.phase) ∧
    live.ps.power = .active ∧ live.clock % 600 = 0 ∧ live.tc.sched.Sound ∧ live.tc.clockValid = true ∧
    (live.setTc { live.tc with clockValid := false }).tc.clockValid = false ∧
    live.tc.sched.cycleIndex < (live.setParams { live.params with cycleDays := 7 }).clock / 86400 / 7 :=
  ⟨by decide, rfl, by decide, live_schedule, rfl, rfl, by decide⟩

/-! ### Witnesses: the contactor, power and the checkpoint -/

theorem witness_CoilPulsesAreMonitored :
    (pulsing.sss.phase = .pulse ∧ pulsing.sss.phaseTimer = some 0) ∧
    (let s := pulsing.setSss { pulsing.sss with phase := .clearance, openNext := true, contactor := .closing }
     s.sss.phase = .clearance ∧ s.ps.power = .active ∧ s.sss.openNext = true ∧
       (s.setSss { s.sss with openNext := false }).sss.openNext = false ∧
       (s.setPs { s.ps with power := .holdup }).ps.power ≠ .active) ∧
    (let s := pulsing.setSss { pulsing.sss with cutoff := some 0 }
     s.sss.cutoff = some 0 ∧ s.sss.phase = .pulse ∧ s.hlc.queue.length < 16 ∧ s.sss.contactor = .opening ∧
       (s.setSss { s.sss with contactor := .closing, phase := .clearance }).sss.contactor = .closing) := by decide

/-- 12 R182, 06 R115: the notice of a cutoff in the second pulse of an opening, with load voltage last seen on phase 1. -/
theorem test_driver_notice :
    let s := (pulsing.setSss { pulsing.sss with cutoff := some 0, attempts := 2 }).setPins
      { pulsing.pins with loadv := ⟨true, false, false⟩ }
    (after (exec .coilCutoff s)).hlc.queue.map Notice.bytes =
      [[0x06#8, 0x00#8, 0x0D#8, 0x2F#8, 0x00#8, 0x03#8, 0x02#8, 0x01#8, 0x01#8, 0x00#8]] ∧
    (after (exec .coilCutoff s)).sss.attempts = 0 := by decide

/-- 02 R33: the step of a silence tick that is due answers a next state. -/
theorem test_silence_tick_completes :
    ∃ t, exec .silenceTick lost = .next t ∧ t.be.ticks = lost.be.ticks + 1 ∧ t.be.tickTimer = some 250 :=
  ⟨_, rfl, by decide, by decide⟩

/-- The end of an opening's or a closing's settle, after a record with phase 1 at 230.0 V. -/
def settling (c : Contactor) (x : Reasons) (attempts : Nat) : State := { live with
  sss := { live.sss with
    contactor := c, reasons := x, phase := .settle, phaseTimer := some 0, attempts := attempts, verified := .unknown }
  mli := { live.mli with latest := some (record 1 ⟨0, 0, 0⟩ ⟨2300, 0, 0⟩ ⟨0, 0, 0⟩) } }

theorem witness_SettlesAreVerified :
    (∀ x ∈ [(Contactor.opening, { noReasons with remote := true }, 1), (.opening, noReasons, 3), (.opening, noReasons, 2),
        (.closing, { noReasons with remote := true }, 1), (.closing, noReasons, 2), (.closing, noReasons, 3)],
      (settling x.1 x.2.1 x.2.2).ps.power = .active ∧ (settling x.1 x.2.1 x.2.2).sss.phase = .settle ∧
        (settling x.1 x.2.1 x.2.2).sss.phaseTimer = some 0 ∧ (settling x.1 x.2.1 x.2.2).sss.origin = .ordinary ∧
        (settling x.1 x.2.1 x.2.2).sss.pulseLimit = 3) ∧
    (∀ x ∈ [(Origin.ordinary, 1), (.autoReclose, 0), (.autoReclose, 1), (.acceptingPress, 0), (.restorePress, 0)],
      let s := settling .opening noReasons 1
      let y := (s.setSss { s.sss with origin := x.1 }).setParams { s.params with autoRecloseKeyless := x.2 }
      y.ps.power = .active ∧ y.sss.phase = .settle ∧ y.sss.phaseTimer = some 0 ∧ y.sss.contactor = .opening ∧
        y.sss.reasons = ⟨false, false, false, false, false⟩ ∧ y.sss.origin = x.1 ∧ y.params.autoRecloseKeyless = x.2 ∧
        y.hlc.queue.length < 15) ∧
    (live.mli.latest = none) ∧
    (∃ r, (settling .closing noReasons 1).mli.latest = some r ∧ live.params.vNom * 10 ≤ 2 * r.v.get .p1 ∧
      ¬live.params.vNom * 10 ≤ 2 * r.v.get .p2) :=
  ⟨by decide, by decide, rfl, _, rfl, by decide, by decide⟩

theorem witness_MainsCrossingsAreDebounced :
    live.pins.vmain = true ∧ live.ps.power = .active ∧
    (∀ x ∈ [Power.holdup, .dormant, .off], (live.setPs { live.ps with power := x }).ps.power = x) ∧
    (live.setPins { live.pins with vmain := false }).pins.vmain = false ∧
    (let s := { State.reset with
       ps := { State.reset.ps with vmainTimer := some 0 }, pins := { State.reset.pins with vmain := false } }
     s.ps.power = .shelf ∧ s.pins.vmain = false ∧ s.ps.vmainTimer = some 0) := by decide

theorem witness_PowerFailureKeepsTheState :
    (let s := { live with
       ps := { live.ps with vmainTimer := some 0 }, pins := { live.pins with vmain := false } }
     s.ps.power = .active ∧ s.ps.vmainTimer = some 0 ∧ s.pins.vmain = false ∧ s.hlc.slot = .empty ∧ s.ps.write = none ∧
       (s.setHlc { s.hlc with slot := .awaitingWrite none }).hlc.slot = .awaitingWrite none ∧
       (s.setSss { s.sss with phase := .settle, contactor := .opening }).sss.phase = .settle ∧
       (s.setPs { s.ps with write := some ⟨live.imageNow .periodic, .a⟩ }).ps.write ≠ none) ∧
    (let s := live.setPs { live.ps with power := .holdup }
     s.ps.power = .holdup ∧ s.ps.returnHeld = false ∧ s.ps.write = none) ∧ live.ps.power ≠ .holdup := by
  decide

/-- HOLDUP with mains back for 500 ms. -/
def returning (valid : Bool) : State := live.setPs { live.ps with
  power := .holdup, vmainTimer := some 0, valid := valid, slotA := .image (live.imageNow .code) true }

theorem witness_MainsReturnIsWarmColdOrShelf :
    (∀ v : Bool, (returning v).ps.power = .holdup ∧ (returning v).ps.vmainTimer = some 0 ∧
      (returning v).pins.vmain = true ∧ (returning v).ps.write = none ∧ (returning v).ps.valid = v) ∧
    (∃ place img, (returning false).ps.newest = some (place, img)) ∧
    ((returning false).setPs { (returning false).ps with slotA := .empty }).ps.newest = none ∧
    ((returning true).setPs { (returning true).ps with returnHeld := true }).ps.returnHeld = true ∧
    ((returning false).setPs { (returning false).ps with power := .dormant }).ps.power = .dormant ∧
    ((returning true).setPs { (returning true).ps with write := some ⟨live.imageNow .periodic, .b⟩ }).ps.write ≠ none := by
  refine ⟨by decide, ⟨_, _, rfl⟩, rfl, rfl, rfl, by decide⟩

/-- HOLDUP with mains back, the contactor and the set as given in the state and in its one image. -/
def returningWith (valid : Bool) (x : Sss) : State :=
  let s := live.setSss x
  s.setPs { s.ps with
    power := .holdup, vmainTimer := some 0, valid := valid, slotA := .image (s.imageNow .code) true }

/-- Every contactor clause of a return: a state or an image in which REMOTE is in the set. -/
theorem witness_return_with_remote :
    (∀ c ∈ [Contactor.closed, .fault .welded, .fault .noClose, .opened, .armed, .opening, .closing, .fault .driver],
      let s := returningWith true { live.sss with contactor := c, reasons := { noReasons with remote := true } }
      s.sss.reasons.remote = true ∧ s.sss.contactor = c ∧ s.ps.power = .holdup ∧ s.ps.write = none ∧ s.ps.valid = true) ∧
    (∀ c ∈ [Contactor.closed, .fault .welded, .fault .noClose, .opened, .armed, .fault .driver],
      let s := returningWith false { live.sss with contactor := c, reasons := { noReasons with remote := true } }
      s.ps.newest.map (fun x => (x.2.contents.reasons.remote, x.2.contents.contactor)) = some (true, c) ∧
        s.ps.valid = false) := by decide

/-- A log record without an end time that an ACTIVE condition of the image holds, and one that none holds. -/
theorem witness_return_reconciles :
    let open1 : TamperRecord := ⟨1, .cover, 100, none, false, true, ⟨false, false, false, false⟩, none⟩
    let held := live.setCond .cover ⟨.active, false, none, .serial 1⟩
    let s := { returning false with
      ps := { (returning false).ps with slotA := .image (held.imageNow .code) true }
      tl := { live.tl with records := [open1, { open1 with serial := 2 }], nextSerial := 3 } }
    s.ps.newest = some (.a, held.imageNow .code) ∧ s.tl.records[0]? = some open1 ∧ open1.stop = none ∧
      ((held.imageNow .code).contents.conds.get .cover).state = .active ∧
      ((held.imageNow .code).contents.conds.get .cover).ongoing = .serial 1 ∧
      ∀ k ∈ allConds, ((held.imageNow .code).contents.conds.get k).ongoing ≠ .serial 2 := by decide

/-- Every clause of the switch's own part of an entry to ACTIVE. -/
theorem witness_entry_to_active :
    (∀ c ∈ [Contactor.closed, .fault .welded, .fault .noClose, .armed, .opened],
      ∀ x ∈ [noReasons, { noReasons with tamper := true }],
        let s := live.setSss { live.sss with contactor := c, reasons := x }
        s.sss.contactor = c ∧ s.sss.reasons = x) ∧
    ({ noReasons with tamper := true } : Reasons) ≠ noReasons ∧
    (∀ x ∈ [(Origin.ordinary, 1), (.autoReclose, 0), (.autoReclose, 1), (.acceptingPress, 0), (.restorePress, 0)],
      let s := (live.setSss { live.sss with contactor := .opened, origin := x.1 }).setParams
        { live.params with autoRecloseKeyless := x.2 }
      s.sss.reasons = noReasons ∧ s.sss.contactor = .opened ∧ s.sss.origin = x.1 ∧ s.params.autoRecloseKeyless = x.2) := by
  decide

/-- A write of an occasion under way, to the slot that does not hold the newest image. -/
def writing (occ : Occasion) : State :=
  let s := live.setPs { live.ps with slotA := .image (live.imageNow .code) true }
  s.setPs { s.ps with write := some ⟨s.imageNow occ, s.ps.target⟩ }

theorem witness_WriteNeverLosesTheNewestImage :
    (∀ occ ∈ [Occasion.commission, .code, .periodic, .holdupEntry, .dormantEntry],
      (writing occ).ps.write = some ⟨(writing occ).imageNow occ, (writing occ).ps.target⟩ ∧
        (writing occ).ps.nextWrites = [] ∧ (writing occ).ps.holdupHeld = false) ∧
    ((writing .code).setPins { live.pins with vmain := false }).pins.vmain = false ∧
    ((writing .code).setPs { (writing .code).ps with holdupHeld := true }).ps.holdupHeld = true ∧
    (let s := live.setPs { live.ps with periodic := some 0, periodicWaits := true }
     s.ps.power = .active ∧ s.ps.periodic = some 0 ∧ s.ps.periodicWaits = true ∧ s.hlc.slot = .empty ∧
       s.ps.write = none ∧ (s.setHlc { s.hlc with slot := .replyWaits ⟨0x81#8, []⟩ }).hlc.slot ≠ .empty) := by decide

theorem witness_write_law : ∃ t, WriteSound (writing .code) ∧ (writing .code).ps.write.isSome = true ∧
    step ((writing .code).setPending [.checkpointWriteDone true]) = .next t :=
  ⟨_, by rintro w ⟨⟩; exact ⟨rfl, rfl⟩, rfl, rfl⟩

end Sys2Proof.Tests
end

section
/-! Notices on their way to the host (12 R182). Within the part an operation touches the host link controller by
raising notices alone; the relation `Noticed` says so, once for every shared operation. -/

namespace Sys2Proof.Machine

/-- Notices have joined and nothing else has happened to the host link controller (12 R182). -/
def Noticed (h h' : Hlc) : Prop := ∃ l : List Notice, h' = l.foldl Hlc.join h

@[simp] theorem Noticed.refl (h : Hlc) : Noticed h h := ⟨[], rfl⟩

theorem Noticed.join {h h' : Hlc} (hs : Noticed h h') (n : Notice) : Noticed h (h'.join n) := by
  obtain ⟨l, rfl⟩ := hs
  exact ⟨l ++ [n], by simp⟩

/-- What every joining keeps, notices keep. -/
theorem Noticed.keeps {P : Hlc → Prop} (hj : ∀ h n, P h → P (h.join n)) {h h' : Hlc} (hs : Noticed h h') (hp : P h) :
    P h' := by
  obtain ⟨l, rfl⟩ := hs
  induction l generalizing h with
  | nil => exact hp
  | cons n l ih => exact ih (hj h n hp)

/-- A notice that finds room stands behind those that wait. -/
theorem Hlc.join_queue (h : Hlc) (n : Notice) (hq : h.queue.length < 16) : (h.join n).queue = h.queue ++ [n] := by
  simp [Hlc.join, hq]

/-- A full queue drops what comes, with the overflow flag set (12 R182). -/
theorem Hlc.join_of_full (h : Hlc) (n : Notice) (hq : 16 ≤ h.queue.length) :
    (h.join n).queue = h.queue ∧ (h.join n).overflow = true := by
  simp [Hlc.join, Nat.not_lt.mpr hq]

/-- Notices that wait stay in front of those that join. -/
theorem Noticed.queue_grows {h h' : Hlc} (hs : Noticed h h') : h.queue <+: h'.queue := by
  refine hs.keeps (P := fun x => h.queue <+: x.queue) (fun x n hx => ?_) List.prefix_rfl
  unfold Hlc.join
  split
  · exact hx.trans (List.prefix_append _ _)
  · exact hx

theorem Noticed.full {h h' : Hlc} (hs : Noticed h h') (hq : 16 ≤ h.queue.length) (ho : h.overflow = true) :
    h'.queue = h.queue ∧ h'.overflow = true := by
  refine hs.keeps (P := fun x => x.queue = h.queue ∧ x.overflow = true) (fun x n ⟨hx, _⟩ => ?_) ⟨rfl, ho⟩
  obtain ⟨kept, overflow⟩ := x.join_of_full n (hx ▸ hq)
  exact ⟨kept.trans hx, overflow⟩

/-- Notices that join a fold of operations, each of which raises some. -/
theorem Noticed.foldl {β : Type} {h : Hlc} (g : State → β → State)
    (hg : ∀ t x, Noticed h t.hlc → Noticed h (g t x).hlc) (l : List β) (s : State) (hs : Noticed h s.hlc) :
    Noticed h (l.foldl g s).hlc := by
  induction l generalizing s with
  | nil => exact hs
  | cons x l ih => exact ih _ (hg s x hs)

@[simp] theorem raiseAt_noticed {h : Hlc} (body : NoticeBody) (n : Nat) (s : State) (hs : Noticed h s.hlc) :
    Noticed h (raiseAt body n s).hlc := hs.join _

@[simp] theorem raise_noticed {h : Hlc} (body : NoticeBody) (s : State) (hs : Noticed h s.hlc) :
    Noticed h (raise body s).hlc := hs.join _

/-! ### The switch and the ledger -/

@[simp] theorem raiseSupply_noticed {h : Hlc} (s : State) (hs : Noticed h s.hlc) : Noticed h (raiseSupply s).hlc := by
  simp -implicitDefEqProofs [raiseSupply, hs]

@[simp] theorem becomeArmed_noticed {h : Hlc} (s : State) (hs : Noticed h s.hlc) : Noticed h (becomeArmed s).hlc := by
  simp only [becomeArmed]
  split <;> simp -implicitDefEqProofs [hs]

@[simp] theorem actOnAddition_noticed {h : Hlc} (s : State) (hs : Noticed h s.hlc) :
    Noticed h (actOnAddition s).hlc := by
  simp only [actOnAddition]
  split <;> simp -implicitDefEqProofs [hs]

@[simp] theorem actOnEmptied_noticed {h : Hlc} (s : State) (hs : Noticed h s.hlc) :
    Noticed h (actOnEmptied s).hlc := by
  simp only [actOnEmptied]
  (repeat' split) <;> simp -implicitDefEqProofs [hs]

@[simp] theorem addReason_noticed {h : Hlc} (r : Reason) (s : State) (hs : Noticed h s.hlc) :
    Noticed h (addReason r s).hlc := by
  simp only [addReason]
  (repeat' split) <;> simp -implicitDefEqProofs [hs]

@[simp] theorem removeReason_noticed {h : Hlc} (r : Reason) (origin : Origin) (s : State) (hs : Noticed h s.hlc) :
    Noticed h (removeReason r origin s).hlc := by
  simp only [removeReason]
  (repeat' split) <;> simp -implicitDefEqProofs [hs]

@[simp] theorem openingDone_noticed {h : Hlc} (s : State) (hs : Noticed h s.hlc) : Noticed h (openingDone s).hlc := by
  simp only [openingDone]
  split <;> simp -implicitDefEqProofs [hs]

@[simp] theorem faultWelded_noticed {h : Hlc} (s : State) (hs : Noticed h s.hlc) : Noticed h (faultWelded s).hlc := by
  simp -implicitDefEqProofs [faultWelded, hs]

@[simp] theorem faultNoClose_noticed {h : Hlc} (s : State) (hs : Noticed h s.hlc) :
    Noticed h (faultNoClose s).hlc := by
  simp -implicitDefEqProofs [faultNoClose, hs]

@[simp] theorem verifyOpening_noticed {h : Hlc} (s : State) (hs : Noticed h s.hlc) :
    Noticed h (verifyOpening s).hlc := by
  simp only [verifyOpening]
  (repeat' split) <;> simp -implicitDefEqProofs [hs]

@[simp] theorem closingDone_noticed {h : Hlc} (x : Position) (s : State) (hs : Noticed h s.hlc) :
    Noticed h (closingDone x s).hlc := by
  simp -implicitDefEqProofs [closingDone, hs]

@[simp] theorem verifyClosing_noticed {h : Hlc} (s : State) (hs : Noticed h s.hlc) :
    Noticed h (verifyClosing s).hlc := by
  simp only [verifyClosing]
  (repeat' split) <;> simp -implicitDefEqProofs [hs]

@[simp] theorem positionCheck_noticed {h : Hlc} (r : IntervalRecord) (s : State) (hs : Noticed h s.hlc) :
    Noticed h (positionCheck r s).hlc := by
  simp only [positionCheck]
  (repeat' split) <;> simp -implicitDefEqProofs [hs]

@[simp] theorem enterActiveSss_noticed {h : Hlc} (s : State) (hs : Noticed h s.hlc) :
    Noticed h (enterActiveSss s).hlc := by
  simp only [enterActiveSss, actOnEntry]
  (repeat' split) <;> simp -implicitDefEqProofs [hs]

@[simp] theorem coilCutoff_noticed {h : Hlc} (s : State) (hs : Noticed h s.hlc) : Noticed h (coilCutoff s).hlc := by
  simp only [coilCutoff]
  split <;> simp -implicitDefEqProofs [hs]

@[simp] theorem settleEnd_noticed {h : Hlc} (loadv : PerPhase Bool) (s : State) (hs : Noticed h s.hlc) :
    Noticed h (settleEnd loadv s).hlc := by
  simp only [settleEnd]
  (repeat' split) <;> simp -implicitDefEqProofs [hs]

@[simp] theorem decideCredit_noticed {h : Hlc} (origin : Origin) (s : State) (hs : Noticed h s.hlc) :
    Noticed h (decideCredit origin s).hlc := by
  simp only [decideCredit]
  (repeat' split) <;> simp -implicitDefEqProofs [hs]

@[simp] theorem recompute_noticed {h : Hlc} (origin : Origin) (s : State) (hs : Noticed h s.hlc) :
    Noticed h (recompute origin s).hlc := by
  simp only [recompute, holdCreditState]
  split <;> simp -implicitDefEqProofs [hs]

@[simp] theorem addDebt_noticed {h : Hlc} (cause : DebtCause) (x : Nat) (s : State) (hs : Noticed h s.hlc) :
    Noticed h (addDebt cause x s).hlc := by
  simp only [addDebt]
  (repeat' split) <;> simp -implicitDefEqProofs [hs]

@[simp] theorem charge_noticed {h : Hlc} (cost : Nat) (s : State) (hs : Noticed h s.hlc) :
    Noticed h (charge cost s).hlc := by
  simp only [charge, debit]
  split <;> simp -implicitDefEqProofs [hs]

@[simp] theorem topUp_noticed {h : Hlc} (cents : Nat) (s : State) (hs : Noticed h s.hlc) :
    Noticed h (topUp cents s).hlc := by
  simp -implicitDefEqProofs [topUp, hs]

@[simp] theorem changeAllowance_noticed {h : Hlc} (p : Params) (s : State) (hs : Noticed h s.hlc) :
    Noticed h (changeAllowance p s).hlc := by
  simp only [changeAllowance, raiseToFloor]
  split <;> simp -implicitDefEqProofs [hs]

@[simp] theorem takeEmergency_noticed {h : Hlc} (s : State) (hs : Noticed h s.hlc) :
    Noticed h (takeEmergency s).hlc := by
  simp only [takeEmergency]
  split <;> simp -implicitDefEqProofs [hs]

/-! ### The calendar and the limiter -/

@[simp] theorem evaluateCalendar_noticed {h : Hlc} (s : State) (hs : Noticed h s.hlc) :
    Noticed h (evaluateCalendar s).hlc := by
  simp only [evaluateCalendar, friendlyEdge, rollCycle_frame]
  split <;> simp -implicitDefEqProofs [hs]

@[simp] theorem trimClock_noticed {h : Hlc} (d : Int) (s : State) (hs : Noticed h s.hlc) :
    Noticed h (trimClock d s).hlc := by
  simp -implicitDefEqProofs [trimClock, hs]

@[simp] theorem setClock_noticed {h : Hlc} (day minute second : Nat) (s : State) (hs : Noticed h s.hlc) :
    Noticed h (setClock day minute second s).hlc := by
  simp -implicitDefEqProofs [setClock, hs]

@[simp] theorem tcEdgeEvaluation_noticed {h : Hlc} (s : State) (hs : Noticed h s.hlc) :
    Noticed h (tcEdgeEvaluation s).hlc := by
  simp only [tcEdgeEvaluation]
  split <;> simp -implicitDefEqProofs [hs]

@[simp] theorem offerLoad_noticed {h : Hlc} (power : Nat) (s : State) (hs : Noticed h s.hlc) :
    Noticed h (offerLoad power s).hlc := by
  simp only [offerLoad, watchLoad, compareLoad, trip]
  (repeat' split) <;> simp -implicitDefEqProofs [hs]

@[simp] theorem clearLockout_noticed {h : Hlc} (s : State) (hs : Noticed h s.hlc) :
    Noticed h (clearLockout s).hlc := by
  simp -implicitDefEqProofs [clearLockout, hs]

@[simp] theorem recloseTimerExpiry_noticed {h : Hlc} (s : State) (hs : Noticed h s.hlc) :
    Noticed h (recloseTimerExpiry s).hlc := by
  simp only [recloseTimerExpiry]
  (repeat' split) <;> simp -implicitDefEqProofs [hs]

/-! ### The tamper monitor -/

@[simp] theorem logOpen_noticed {h : Hlc} (c : CondId) (inHoldup : Bool) (actions : Actions) (measure : Option Int)
    (s : State) (hs : Noticed h s.hlc) : Noticed h (logOpen c inHoldup actions measure s).1.hlc := by
  simp only [logOpen]
  (repeat' split) <;> simp -implicitDefEqProofs [hs]

@[simp] theorem evaluateTamper_noticed {h : Hlc} (s : State) (hs : Noticed h s.hlc) :
    Noticed h (evaluateTamper s).hlc := by
  simp only [evaluateTamper, holdTamper]
  (repeat' split) <;> simp -implicitDefEqProofs [hs]

@[simp] theorem startCond_noticed {h : Hlc} (c : CondId) (measure : Option Int) (s : State) (hs : Noticed h s.hlc) :
    Noticed h (startCond c measure s).hlc :=
  evaluateTamper_noticed _ (raise_noticed _ _ (logOpen_noticed _ _ _ _ _ (by simpa using hs)))

@[simp] theorem endCond_noticed {h : Hlc} (c : CondId) (s : State) (hs : Noticed h s.hlc) :
    Noticed h (endCond c s).hlc := by
  simp -implicitDefEqProofs [endCond, hs]

@[simp] theorem observe_noticed {h : Hlc} (o : Observation) (s : State) (hs : Noticed h s.hlc) :
    Noticed h (observe o s).hlc := by
  simp only [observe]
  (repeat' split) <;> simp -implicitDefEqProofs [hs]

@[simp] theorem silenceToTm_noticed {h : Hlc} (s : State) (hs : Noticed h s.hlc) : Noticed h (silenceToTm s).hlc := by
  simp only [silenceToTm]
  split <;> simp -implicitDefEqProofs [hs]

@[simp] theorem linkGoodToTm_noticed {h : Hlc} (s : State) (hs : Noticed h s.hlc) :
    Noticed h (linkGoodToTm s).hlc := by
  simp only [linkGoodToTm]
  split <;> simp -implicitDefEqProofs [hs]

@[simp] theorem lockoutStartToTm_noticed {h : Hlc} (src : Source) (s : State) (hs : Noticed h s.hlc) :
    Noticed h (lockoutStartToTm src s).hlc := by
  simp only [lockoutStartToTm]
  (repeat' split) <;> simp -implicitDefEqProofs [hs]

@[simp] theorem lockoutEndToTm_noticed {h : Hlc} (src : Source) (s : State) (hs : Noticed h s.hlc) :
    Noticed h (lockoutEndToTm src s).hlc := by
  simp only [lockoutEndToTm]
  (repeat' split) <;> simp -implicitDefEqProofs [hs]

@[simp] theorem clearLatches_noticed {h : Hlc} (mask : PerKind Bool) (cutoff : Int) (s : State)
    (hs : Noticed h s.hlc) : Noticed h (clearLatches mask cutoff s).1.hlc :=
  evaluateTamper_noticed _ (Noticed.foldl _ (fun t x ht => by simpa using ht) _ s hs)

@[simp] theorem sampleInput_noticed {h : Hlc} (i : Sensor) (s : State) (hs : Noticed h s.hlc) :
    Noticed h (sampleInput i s).hlc := by
  simp only [sampleInput]
  (repeat' split) <;> simp -implicitDefEqProofs [hs]

@[simp] theorem enterActiveTm_noticed {h : Hlc} (s : State) (hs : Noticed h s.hlc) :
    Noticed h (enterActiveTm s).hlc := by
  simp -implicitDefEqProofs [enterActiveTm, hs]

@[simp] theorem sensorFilterExpiry_noticed {h : Hlc} (i : Sensor) (s : State) (hs : Noticed h s.hlc) :
    Noticed h (sensorFilterExpiry i s).hlc := by
  simp only [sensorFilterExpiry]
  (repeat' split) <;> simp -implicitDefEqProofs [hs]

@[simp] theorem deemedHoldExpiry_noticed {h : Hlc} (s : State) (hs : Noticed h s.hlc) :
    Noticed h (deemedHoldExpiry s).hlc := by
  simp only [deemedHoldExpiry]
  split <;> simp -implicitDefEqProofs [hs]

@[simp] theorem holdupSample_noticed {h : Hlc} (s : State) (hs : Noticed h s.hlc) :
    Noticed h (holdupSample s).hlc := by
  simp only [holdupSample]
  split
  · exact sampleInput_noticed _ _ (sampleInput_noticed _ _ (sampleInput_noticed _ _ hs))
  · exact hs

/-! ### The code engine -/

@[simp] theorem startLockout_noticed {h : Hlc} (src : Source) (s : State) (hs : Noticed h s.hlc) :
    Noticed h (startLockout src s).hlc := by
  simp -implicitDefEqProofs [startLockout, hs]

@[simp] theorem failAttempt_noticed {h : Hlc} (src : Source) (s : State) (hs : Noticed h s.hlc) :
    Noticed h (failAttempt src s).hlc := by
  simp only [failAttempt]
  split <;> simp -implicitDefEqProofs [hs]

@[simp] theorem reportLockoutEnd_noticed {h : Hlc} (src : Source) (s : State) (hs : Noticed h s.hlc) :
    Noticed h (reportLockoutEnd src s).hlc := by
  simp -implicitDefEqProofs [reportLockoutEnd, hs]

@[simp] theorem lockoutEnd_noticed {h : Hlc} (src : Source) (s : State) (hs : Noticed h s.hlc) :
    Noticed h (lockoutEnd src s).hlc := by
  simp only [lockoutEnd, endLockout]
  split <;> simp -implicitDefEqProofs [hs]

@[simp] theorem dropGroup_noticed {h : Hlc} (timeout : Bool) (g : PendingGroup) (s : State) (hs : Noticed h s.hlc) :
    Noticed h (dropGroup timeout g s).hlc := by
  simp -implicitDefEqProofs [dropGroup, hs]

@[simp] theorem groupTimeout_noticed {h : Hlc} (s : State) (hs : Noticed h s.hlc) :
    Noticed h (groupTimeout s).hlc := by
  simp only [groupTimeout]
  (repeat' split) <;> simp -implicitDefEqProofs [hs]

@[simp] theorem passAuthentic_noticed {h : Hlc} (src : Source) (c : Code) (s : State) (hs : Noticed h s.hlc) :
    Noticed h (passAuthentic src c s).hlc := by
  simp only [passAuthentic, compareGroup]
  (repeat' split) <;> simp -implicitDefEqProofs [hs]

@[simp] theorem configEffect_noticed {h : Hlc} (index v : Nat) (s : State) (hs : Noticed h s.hlc) :
    Noticed h (configEffect index v s).hlc := by
  simp only [configEffect]
  (repeat' split) <;> simp -implicitDefEqProofs [hs]

@[simp] theorem setRate_noticed {h : Hlc} (band : Band) (block : Block) (rate : Nat) (s : State)
    (hs : Noticed h s.hlc) : Noticed h (setRate band block rate s).hlc := by
  simp -implicitDefEqProofs [setRate, hs]

@[simp] theorem setProfile_noticed {h : Hlc} (which : ProfileId) (points : List SwitchPoint) (s : State)
    (hs : Noticed h s.hlc) : Noticed h (setProfile which points s).hlc := by
  simp -implicitDefEqProofs [setProfile, hs]

@[simp] theorem changeKeys_noticed {h : Hlc} (content : Nat) (s : State) (hs : Noticed h s.hlc) :
    Noticed h (changeKeys content s).hlc := by
  simp only [changeKeys, endIfLocked]
  (repeat' split) <;> simp -implicitDefEqProofs [hs]

@[simp] theorem completeGroup_noticed {h : Hlc} (g : PendingGroup) (c : Code) (s : State) (hs : Noticed h s.hlc) :
    Noticed h (completeGroup g c s).state.hlc := by
  simp only [completeGroup, applyRateGroup, applyProfileGroup, applyKeyGroup]
  (repeat' split) <;> simp -implicitDefEqProofs [hs]

@[simp] theorem applyPart_noticed {h : Hlc} (cls : GroupClass) (src : Source) (c : Code) (s : State)
    (hs : Noticed h s.hlc) : Noticed h (applyPart cls src c s).state.hlc := by
  simp only [applyPart]
  (repeat' split) <;> simp -implicitDefEqProofs [hs]

@[simp] theorem applySingle_noticed {h : Hlc} (c : Code) (day : Int) (s : State) (hs : Noticed h s.hlc) :
    Noticed h (applyCredit c s).state.hlc ∧ Noticed h (applyDebtAdd c s).state.hlc ∧
    Noticed h (applyRemoteSwitch c s).state.hlc ∧ Noticed h (applyClearTamper c day s).state.hlc ∧
    Noticed h (applySetConfig c s).state.hlc ∧ Noticed h (applySetClock c day s).state.hlc ∧
    Noticed h (applySetWeekmap c s).state.hlc := by
  refine ⟨?_, by simp -implicitDefEqProofs [applyDebtAdd, hs], ?_, by simp [applyClearTamper, hs], ?_, by simp [applySetClock, hs],
    by simp -implicitDefEqProofs [applySetWeekmap, hs]⟩
  · simp only [applyCredit]; split <;> simp -implicitDefEqProofs [hs]
  · simp only [applyRemoteSwitch]; split <;> simp -implicitDefEqProofs [hs]
  · simp only [applySetConfig]; split <;> simp -implicitDefEqProofs [hs]

theorem applyCode_noticed {h : Hlc} (src : Source) (c : Code) (day : Int) (s : State) (hs : Noticed h s.hlc) :
    Noticed h (applyCode src c day s).state.hlc := by
  obtain ⟨h0, h1, h2, h3, h4, h6, h7⟩ := applySingle_noticed c day s hs
  simp only [applyCode]
  split
  · exact h0
  · exact h1
  · exact h2
  · exact h3
  · exact h4
  · simp -implicitDefEqProofs [hs]
  · exact h6
  · exact h7
  · split <;> simp -implicitDefEqProofs [hs]

/-- A code judged, whatever the outcome, has touched the host link by notices alone. -/
@[simp] theorem judgeCode_noticed {h : Hlc} (src : Source) (chars : List Byte) (s : State) (hs : Noticed h s.hlc) :
    Noticed h (judgeCode src chars s).state.hlc := by
  have passed : ∀ c, Noticed h (passAuthentic src c s).hlc := fun c => passAuthentic_noticed src c s hs
  simp only [judgeCode, judgeAuthentic]
  (repeat' split) <;> simp -implicitDefEqProofs [hs, passed, applyCode_noticed]

/-! ### Billing and the entries to a power state -/

@[simp] theorem billEnergy_noticed {h : Hlc} (e : Nat) (s : State) (hs : Noticed h s.hlc) :
    Noticed h (billEnergy e s).hlc := by
  simp only [billEnergy]
  split <;> simp -implicitDefEqProofs [hs]

@[simp] theorem silenceTick_noticed {h : Hlc} (s : State) (hs : Noticed h s.hlc) : Noticed h (silenceTick s).hlc := by
  simp only [silenceTick]
  split <;> simp -implicitDefEqProofs [hs]

@[simp] theorem checkAt_noticed {h : Hlc} (place here : Nat) (r : IntervalRecord) (s : State)
    (hs : Noticed h s.hlc) : Noticed h (checkAt place here r s).hlc := by
  simp only [checkAt]
  split <;> simp -implicitDefEqProofs [hs]

@[simp] theorem billRecord_noticed {h : Hlc} (power : Nat) (r : IntervalRecord) (s : State) (hs : Noticed h s.hlc) :
    Noticed h (billRecord power r s).hlc := by
  simp -implicitDefEqProofs [billRecord, hs]

@[simp] theorem billGap_noticed {h : Hlc} (m : Nat) (s : State) (hs : Noticed h s.hlc) :
    Noticed h (billGap m s).hlc := by
  simp only [billGap]
  split <;> simp -implicitDefEqProofs [hs]

@[simp] theorem takeItem_noticed {h : Hlc} (place : Nat) (missing : Option Nat) (r : IntervalRecord) (s : State)
    (hs : Noticed h s.hlc) : Noticed h (takeItem place missing r s).hlc :=
  have billed := billRecord_noticed (intervalPower s r) r _ (billGap_noticed (gapIntervals missing s.be.ticks) _
    (checkAt_noticed place 0 r s hs))
  have offered := offerLoad_noticed (intervalPower s r) _ (checkAt_noticed place 1 r _ billed)
  checkAt_noticed _ _ _ _
    (Noticed.foldl _ (fun t o ht => observe_noticed o t ht) _ _ (checkAt_noticed place 2 r _ offered))

@[simp] theorem recordTake_noticed {h : Hlc} (loadv : PerPhase Bool) (s : State) (hs : Noticed h s.hlc) :
    Noticed h (recordTake loadv s).hlc := by
  simp only [recordTake]
  (repeat' split) <;> simp -implicitDefEqProofs [hs]

@[simp] theorem EntryAction_run_noticed {h : Hlc} (a : EntryAction) (s : State) (hs : Noticed h s.hlc) :
    Noticed h (a.run s).hlc := by
  cases a <;> simp -implicitDefEqProofs [EntryAction.run, hs]

@[simp] theorem enterActive_noticed {h : Hlc} (s : State) (hs : Noticed h s.hlc) : Noticed h (enterActive s).hlc := by
  simp only [enterActive, State_countDraw_frame]
  exact Noticed.foldl _ (fun t a ht => EntryAction_run_noticed a t ht) _ _ (by simpa using hs)

@[simp] theorem commissionEntry_noticed {h : Hlc} (r : CommissionRequest) (s : State) (hs : Noticed h s.hlc) :
    Noticed h (commissionEntry r s).hlc :=
  Noticed.foldl _ (fun t a ht => EntryAction_run_noticed a t ht) _ _ (by simpa using hs)

end Sys2Proof.Machine
end

section
/-! The capacities of the queues, the partial frame and the transmitter (01 R7, 12 R179, R180, R182): what the host
link controller's own operations keep, what the requests keep, what the power supervisor keeps, and the step. -/

namespace Sys2Proof.Machine

/-! ### The host link controller's own operations -/

/-- The host link's part of the capacities: 16 notices, a partial frame of 67 bytes, a reply waits only behind one
being sent, and one is held in the slot only behind a waiting one. -/
structure Hlc.Sound (h : Hlc) : Prop where
  events : h.queue.length ≤ 16
  frame : ∀ f ∈ h.rx, f.bytes.length ≤ 67
  waiting : h.waiting.isSome → h.sending.isSome
  held : ∀ r, h.slot = .replyWaits r → h.waiting.isSome

theorem queuesSound_iff (s : State) : QueuesSound s ↔ s.mli.queue.length ≤ 4 ∧ s.hlc.Sound :=
  ⟨fun ⟨intake, events, frame, waiting, held⟩ => ⟨intake, ⟨events, frame, waiting, held⟩⟩,
    fun ⟨intake, h⟩ => ⟨intake, h.events, h.frame, h.waiting, h.held⟩⟩

theorem Hlc.Sound.manufacture : Hlc.manufacture.Sound := ⟨by decide, by decide, by decide, by rintro r ⟨⟩⟩

theorem Hlc.Sound.join {h : Hlc} (hs : h.Sound) (n : Notice) : (h.join n).Sound := by
  unfold Hlc.join
  split
  · exact ⟨by simp; omega, hs.frame, hs.waiting, hs.held⟩
  · exact ⟨hs.events, hs.frame, hs.waiting, hs.held⟩

theorem Hlc.Sound.noticed {h h' : Hlc} (hs : h.Sound) (hn : Noticed h h') : h'.Sound :=
  hn.keeps (fun _ n hs => hs.join n) hs

theorem Hlc.Sound.withSlot {h : Hlc} (hs : h.Sound) {x : Slot} (hx : ∀ r, x ≠ .replyWaits r) :
    Hlc.Sound { h with slot := x } :=
  ⟨hs.events, hs.frame, hs.waiting, fun r hr => absurd hr (hx r)⟩

theorem Hlc.Sound.withRx {h : Hlc} (hs : h.Sound) {rx : Option PartialFrame} (hx : ∀ f ∈ rx, f.bytes.length ≤ 67) :
    Hlc.Sound { h with rx := rx } :=
  ⟨hs.events, hx, hs.waiting, hs.held⟩

theorem Hlc.Sound.pass {h : Hlc} (hs : h.Sound) : h.pass.Sound := by
  refine hs.withRx fun f hf => ?_
  obtain ⟨g, hg, rfl⟩ := Option.map_eq_some_iff.mp hf
  exact hs.frame g hg

/-- The transmitter takes a reply to be sent first and one behind it, and refuses only when it holds both. -/
theorem Hlc.transmit_cases (h : Hlc) (r : Reply) :
    (h.sending = none ∧ h.transmit r = some { h with sending := some r }) ∨
    (h.sending.isSome ∧ h.waiting = none ∧ h.transmit r = some { h with waiting := some r }) ∨
    (h.sending.isSome ∧ h.waiting.isSome ∧ h.transmit r = none) := by
  unfold Hlc.transmit
  split <;> simp [*]

theorem Hlc.Sound.transmit {h sent : Hlc} (hs : h.Sound) {r : Reply} (ht : h.transmit r = some sent) : sent.Sound := by
  rcases h.transmit_cases r with ⟨_, e⟩ | ⟨hb, _, e⟩ | ⟨_, _, e⟩
  · obtain rfl := Option.some.inj (e.symm.trans ht)
    exact ⟨hs.events, hs.frame, fun _ => rfl, hs.held⟩
  · obtain rfl := Option.some.inj (e.symm.trans ht)
    exact ⟨hs.events, hs.frame, fun _ => hb, fun _ _ => rfl⟩
  · simp [e] at ht

theorem Hlc.Sound.handReply {h : Hlc} (hs : h.Sound) (r : Reply) : (h.handReply r).Sound := by
  unfold Hlc.handReply
  split
  · next sent ht => exact (hs.transmit ht).withSlot (by simp)
  · next ht =>
    rcases h.transmit_cases r with ⟨_, e⟩ | ⟨_, _, e⟩ | ⟨_, hw, _⟩
    · simp [e] at ht
    · simp [e] at ht
    · exact ⟨hs.events, hs.frame, hs.waiting, fun _ _ => hw⟩

theorem Hlc.Sound.transmitGetD {h : Hlc} (hs : h.Sound) (r : Reply) : ((h.transmit r).getD h).Sound := by
  cases ht : h.transmit r with
  | none => exact hs
  | some sent => exact hs.transmit ht

theorem Hlc.Sound.busy {h : Hlc} (hs : h.Sound) (kind : Byte) : (h.busy kind).Sound := by
  unfold Hlc.busy
  split
  · exact hs
  · exact hs.transmitGetD _
  · exact hs.transmitGetD _
  · exact hs.transmitGetD _

theorem Hlc.Sound.replySent {h : Hlc} (hs : h.Sound) : h.replySent.Sound := by
  unfold Hlc.replySent
  split
  · exact hs
  · next r _ hr => exact ⟨hs.events, hs.frame, fun _ => hs.held r hr, by simp⟩
  all_goals next he => exact ⟨hs.events, hs.frame, by simp, by simp [he]⟩

theorem Hlc.Sound.requestWritten {h : Hlc} (hs : h.Sound) : h.requestWritten.Sound := by
  unfold Hlc.requestWritten
  split
  · exact hs.handReply _
  · exact hs.withSlot (by simp)
  all_goals exact hs

theorem Hlc.Sound.periodicWritten {h : Hlc} (hs : h.Sound) : h.periodicWritten.Sound := by
  unfold Hlc.periodicWritten
  split
  · exact hs.withSlot (by simp)
  all_goals exact hs

theorem Slot.withoutReply_ne (x : Slot) (r : Reply) : x.withoutReply ≠ .replyWaits r := by
  cases x <;> simp [Slot.withoutReply]

theorem Hlc.Sound.cut {h : Hlc} (hs : h.Sound) : h.cut.Sound :=
  ⟨hs.events, by simp [Hlc.cut], by simp [Hlc.cut], fun r hr => absurd hr (Slot.withoutReply_ne h.slot r)⟩

theorem Hlc.Sound.reset {h : Hlc} (hs : h.Sound) : h.reset.Sound :=
  ⟨Nat.zero_le _, hs.cut.frame, hs.cut.waiting, hs.cut.held⟩

/-! ### Requests and frames -/

theorem QueuesSound.link {s t : State} (hs : QueuesSound s) (hm : t.mli = s.mli) (hl : s.hlc.Sound → t.hlc.Sound) :
    QueuesSound t := by
  rw [queuesSound_iff] at hs ⊢
  exact ⟨hm ▸ hs.1, hl hs.2⟩

/-- An operation that leaves the intake and raises notices alone keeps the capacities. -/
theorem QueuesSound.noticed {s t : State} (hs : QueuesSound s) (hm : t.mli = s.mli) (hn : Noticed s.hlc t.hlc) :
    QueuesSound t := hs.link hm fun h => h.noticed hn

theorem handReply_queues (r : Reply) {s : State} (hs : QueuesSound s) : QueuesSound (handReply r s) :=
  hs.link rfl fun h => h.handReply r

theorem replyJudged_queues {j : Judged} (hs : QueuesSound j.state) : QueuesSound (replyJudged j) := by
  simp only [replyJudged]
  split
  · exact hs.link (by simp) fun h => by simpa using h.withSlot (by simp)
  · exact handReply_queues _ hs

theorem restorePress_noticed {h : Hlc} (s : State) (hs : Noticed h s.hlc) : Noticed h (restorePress s).hlc := by
  simp only [restorePress]
  split <;> simp -implicitDefEqProofs [hs]

theorem doCustomerKey_queues (payload : List Byte) {s : State} (hs : QueuesSound s) :
    QueuesSound (doCustomerKey payload s) := by
  simp only [doCustomerKey, doRestore, doAcceptEmergency]
  split
  · split
    · exact handReply_queues _ (hs.noticed (by simp) (restorePress_noticed s (.refl _)))
    · exact handReply_queues _ hs
  · split
    · exact handReply_queues _ (hs.noticed (by simp) (takeEmergency_noticed s (.refl _)))
    · exact handReply_queues _ hs

/-- The stages of a COMMISSION before its entry to ACTIVE raise notices alone. -/
theorem commissionStages_noticed (r : CommissionRequest) (s : State) :
    Noticed s.hlc (commissionTamper (commissionLedger r (commissionBlocks r (commissionCalendar r s)))).hlc := by
  have calendar : Noticed s.hlc (commissionCalendar r s).hlc := evaluateCalendar_noticed _ (.refl _)
  exact evaluateTamper_noticed _ (recompute_noticed _ _ calendar)

theorem commissionEntry_queue (r : CommissionRequest) (s : State) : (commissionEntry r s).mli.queue = [] := by
  simp [commissionEntry, startActive, Mli.enterActive]

theorem commission_queues (r : CommissionRequest) (reply : Reply) {s : State} (hs : QueuesSound s) :
    QueuesSound (commission r reply s) := by
  rw [queuesSound_iff] at hs ⊢
  have entered := commissionEntry_noticed r _ (commissionStages_noticed r s)
  refine ⟨?_, ?_⟩
  · simp [commission, commissionEntry_queue]
  · simpa [commission] using (hs.2.noticed entered).withSlot (x := .awaitingWrite (some reply)) (by simp)

theorem doGetEvents_queues {s : State} (hs : QueuesSound s) : QueuesSound (doGetEvents s) := by
  refine handReply_queues _ (hs.link rfl fun h => ⟨?_, h.frame, h.waiting, h.held⟩)
  have := h.events
  simp; omega

theorem runRequest_queues (kind : Byte) (payload : List Byte) {s : State} (hs : QueuesSound s) :
    QueuesSound (runRequest kind payload s) := by
  unfold runRequest
  split
  · exact handReply_queues _ hs
  · exact handReply_queues _ hs
  · exact handReply_queues _ hs
  · exact handReply_queues _ hs
  · exact handReply_queues _ hs
  · exact handReply_queues _ hs
  · exact doGetEvents_queues hs
  · exact handReply_queues _ hs
  · exact replyJudged_queues (hs.noticed (by simp) (judgeCode_noticed _ _ _ (.refl _)))
  · exact doCustomerKey_queues payload hs
  · exact handReply_queues _ (hs.noticed (by simp) (trimClock_noticed _ _ (.refl _)))
  · exact commission_queues _ _ hs
  · exact hs

theorem takeFrame_queues (kind : Byte) (payload : List Byte) {s : State} (hs : QueuesSound s) :
    QueuesSound (takeFrame kind payload s) := by
  simp only [takeFrame, takeRequest]
  split
  · split
    · split
      · exact handReply_queues _ hs
      · exact runRequest_queues kind payload hs
    · exact hs.link rfl fun h => h.busy kind
  · exact hs

theorem setRx_queues {s : State} (hs : QueuesSound s) {rx : Option PartialFrame}
    (hx : ∀ f ∈ rx, f.bytes.length ≤ 67) : QueuesSound (s.setRx rx) :=
  hs.link rfl fun h => h.withRx hx

/-- A frame goes on only while it is shorter than its length byte says, which is at most 64 (12 R179). -/
theorem collectByte_queues (bytes : List Byte) {s : State} (hs : QueuesSound s) : QueuesSound (collectByte bytes s) := by
  simp only [collectByte, frameComplete]
  split
  · exact setRx_queues hs (by simp)
  · next hn =>
    split
    · exact setRx_queues hs (by simp; omega)
    · split
      · exact takeFrame_queues _ _ (setRx_queues hs (by simp))
      · exact setRx_queues hs (by simp)

theorem receiveByte_queues (b : LineByte) {s : State} (hs : QueuesSound s) : QueuesSound (receiveByte s b) := by
  simp only [receiveByte]
  split
  · split
    · exact setRx_queues hs (by simp)
    · split
      · split
        · exact setRx_queues hs (by simp)
        · exact hs
      · exact collectByte_queues _ hs
  · exact hs

theorem receiveBytes_queues (bytes : List LineByte) {s : State} (hs : QueuesSound s) :
    QueuesSound (bytes.foldl receiveByte s) := by
  induction bytes generalizing s with
  | nil => exact hs
  | cons b rest ih => exact ih (receiveByte_queues b hs)

theorem frameTimeout_queues {s : State} (hs : QueuesSound s) : QueuesSound (frameTimeout s) := by
  simp only [frameTimeout]
  (repeat' split)
  · exact setRx_queues hs (by simp)
  · exact hs
  · exact hs

theorem linkResetAssert_queues {s : State} (hs : QueuesSound s) : QueuesSound (linkResetAssert s) := by
  simp only [linkResetAssert]
  split
  · exact hs.link rfl fun h => h.reset
  · exact hs

theorem linkResetRelease_queues {s : State} (hs : QueuesSound s) : QueuesSound (linkResetRelease s) := by
  simp only [linkResetRelease]
  split
  · exact setRx_queues (s := s.setPins _) hs (by simp)
  · exact hs

/-! ### The meter link -/

theorem length_joinIntake (queue : List IntervalRecord) (r : IntervalRecord) (h : queue.length ≤ 4) :
    (joinIntake queue r).length ≤ 4 := by
  unfold joinIntake
  split
  · simp; omega
  · exact h

/-- A change of the intake part that keeps its queue within its capacity. -/
theorem QueuesSound.intake {s t : State} (hs : QueuesSound s) (hm : t.mli.queue.length ≤ 4)
    (hn : Noticed s.hlc t.hlc) : QueuesSound t := by
  rw [queuesSound_iff] at hs ⊢
  exact ⟨hm, hs.2.noticed hn⟩

theorem QueuesSound.intake_le {s : State} (hs : QueuesSound s) : s.mli.queue.length ≤ 4 := ((queuesSound_iff s).mp hs).1

theorem burstEnd_queues (bytes : List LineByte) {s : State} (hs : QueuesSound s) : QueuesSound (burstEnd bytes s) := by
  simp only [burstEnd, arrival]
  (repeat' split)
  · refine hs.intake ?_ (linkGoodToTm_noticed _ (.refl _))
    simpa using length_joinIntake _ _ hs.intake_le
  · exact hs
  · exact hs

theorem reportSilence_queues {s : State} (hs : QueuesSound s) : QueuesSound (reportSilence s) :=
  hs.intake (by simpa [reportSilence] using hs.intake_le) (silenceToTm_noticed _ (.refl _))

theorem silenceReport_queues {s : State} (hs : QueuesSound s) : QueuesSound (silenceReport s) := by
  simp only [silenceReport]
  split
  · exact reportSilence_queues hs
  · exact hs

theorem suppressionTimerExpiry_queues {s : State} (hs : QueuesSound s) : QueuesSound (suppressionTimerExpiry s) := by
  simp only [suppressionTimerExpiry]
  (repeat' split)
  · exact reportSilence_queues (s := s.setMli _) hs
  · exact hs
  · exact hs

theorem recordTake_queues (loadv : PerPhase Bool) {s : State} (hs : QueuesSound s) :
    QueuesSound (recordTake loadv s) := by
  refine hs.intake ?_ (recordTake_noticed loadv s (.refl _))
  have taken : ∀ r, (s.mli.taken r).queue.length ≤ 4 := fun r => by
    have := hs.intake_le
    simp [Mli.taken]; omega
  simp only [recordTake]
  (repeat' split)
  · simpa using taken _
  · simpa using taken _
  · exact hs.intake_le

/-! ### The power supervisor -/

theorem enterActive_queue (s : State) : (enterActive s).mli.queue = [] := by
  simp only [enterActive, State_countDraw_frame]
  rw [foldl_keeps State.mli _ (fun t a => by simp)]
  simp [startActive, Mli.enterActive]

/-- An entry to ACTIVE empties the intake queue and raises notices alone. -/
theorem enterActive_queues {s : State} (hs : s.hlc.Sound) : QueuesSound (enterActive s) :=
  (queuesSound_iff _).mpr
    ⟨by simp [enterActive_queue], hs.noticed (enterActive_noticed s (.refl _))⟩

theorem warmReturn_queues {s : State} (hs : QueuesSound s) : QueuesSound (warmReturn s) := by
  have h := ((queuesSound_iff s).mp hs).2
  have back : Hlc.Sound { s.hlc with rx := none, slot := .empty, sending := none, waiting := none } :=
    ⟨h.events, by simp, by simp, by simp⟩
  exact enterActive_queues (back.join _)

theorem manufactured_queues (power : Power) (tl : Tl) (s : State) : QueuesSound (manufactured power tl s) :=
  (queuesSound_iff _).mpr ⟨Nat.zero_le 4, Hlc.Sound.manufacture⟩

theorem startCore_queues (s : State) : QueuesSound (startCore s) := by
  simp only [startCore]
  split
  · exact enterActive_queues (Hlc.Sound.manufacture.join _)
  · exact manufactured_queues _ _ _

theorem doReturn_queues {s : State} (hs : QueuesSound s) : QueuesSound (doReturn s) := by
  simp only [doReturn]
  split
  · exact warmReturn_queues hs
  · exact startCore_queues s

theorem enterHoldup_queues {s : State} (hs : QueuesSound s) : QueuesSound (enterHoldup s) := by
  have h := ((queuesSound_iff s).mp hs).2
  rw [queuesSound_iff]
  simp only [enterHoldup]
  split <;> simpa [departBlocks, Mli.depart] using h.cut

theorem writeFollows_queues (occ : Occasion) (good : Bool) {s : State} (hs : QueuesSound s) :
    QueuesSound (writeFollows occ good s) := by
  cases occ with
  | commission => exact hs.link rfl fun h => h.requestWritten
  | code => exact hs.link rfl fun h => h.requestWritten
  | periodic => exact hs.link rfl fun h => h.periodicWritten
  | holdupEntry => exact hs
  | dormantEntry => exact hs

theorem writeDone_queues (good : Bool) {s : State} (hs : QueuesSound s) : QueuesSound (writeDone good s) := by
  simp only [writeDone]
  split
  · next w _ =>
    have stored : QueuesSound (restartPeriodic (s.setPs (s.ps.store w good))) := hs.link (by simp) (by simp)
    have followed := writeFollows_queues w.img.occasion good stored
    generalize writeFollows w.img.occasion good _ = u at followed ⊢
    have begun : QueuesSound (beginNext u) := followed.link (by simp) (by simp)
    simp only [releaseHoldup]
    split
    · exact enterHoldup_queues begun
    · exact begun
  · exact hs

theorem holdupEntry_queues (vback : Bool) {s : State} (hs : QueuesSound s) : QueuesSound (holdupEntry vback s) := by
  have entered : QueuesSound (enterHoldup (s.setPins { s.pins with vback := vback })) := enterHoldup_queues hs
  simp only [holdupEntry]
  split
  · split
    · exact hs.link rfl fun h => h.withSlot (by simp)
    · exact entered
    · exact entered
    · exact entered
  · exact hs

theorem startPeriodic_queues {s : State} (hs : QueuesSound s) : QueuesSound (startPeriodic s) :=
  hs.link (by simp) fun h => by simpa [startPeriodic] using h.withSlot (by simp)

/-! ### The step -/

theorem tick_queues {s : State} (hs : QueuesSound s) : QueuesSound (tick s) := by
  have h := (queuesSound_iff s).mp hs
  rw [queuesSound_iff]
  simp only [tick, queueDue_frame, passMs]
  split
  · exact ⟨h.1, h.2.pass⟩
  · exact h
  · exact h
  · exact ⟨h.1, h.2.pass⟩
  · exact h

theorem exec_queues {c : Instr} {s t : State} (hs : QueuesSound s) (h : exec c s = .next t) : QueuesSound t := by
  cases c <;> obtain rfl := Host.Outcome.next.inj h
  case identify | getStatus | getLedger | getEnergy | getTariff | getTime | getEvents | readTamperLog | submitCode |
      restore | acceptEmergency | trimClock | commission | badKind | busy => exact takeFrame_queues _ _ hs
  case frameDiscard bytes => exact receiveBytes_queues bytes hs
  case frameTimeout => exact frameTimeout_queues hs
  case replySent => exact hs.link rfl fun h => h.replySent
  case linkResetAssert => exact linkResetAssert_queues hs
  case linkResetRelease => exact linkResetRelease_queues hs
  case burstEnd bytes => exact burstEnd_queues bytes hs
  case silenceReport => exact silenceReport_queues hs
  case suppressionTimerExpiry => exact suppressionTimerExpiry_queues hs
  case recordTake loadv => exact recordTake_queues loadv hs
  case silenceTick | sensorFilterExpiry | deemedHoldExpiry | holdupSample | lockoutEnd | groupTimeout |
      tcEdgeEvaluation | coilCutoff | settleEnd | recloseTimerExpiry => exact hs.noticed (by simp) (by simp)
  case sensorInputChange | linklossMeasure | coilPulseEnd | pulseCleared | weldRetryExpiry | recloseWindowExpiry |
      vmainFall | vmainRise | dormantEntry | clockAdvance => exact hs.link (by simp) (by simp)
  case holdupEntry vback => exact holdupEntry_queues vback hs
  case shelfPowerLoss =>
    simp only [shelfPowerLoss]
    split
    · exact manufactured_queues _ _ _
    · exact hs
  case returnDecision =>
    simp only [returnDecision]
    (repeat' split)
    · exact hs
    · exact doReturn_queues hs
    · exact hs
  case deferredReturn =>
    simp only [deferredReturn]
    split
    · exact doReturn_queues hs
    · exact hs
  case powerUp =>
    simp only [powerUp]
    split
    · exact startCore_queues s
    · exact hs
  case periodicCheckpoint =>
    simp only [periodicCheckpoint]
    (repeat' split)
    · exact startPeriodic_queues (s := s.setPs _) hs
    · exact hs
    · exact hs
  case deferredPeriodicWrite =>
    simp only [deferredPeriodicWrite]
    split
    · exact startPeriodic_queues (s := s.setPs _) hs
    · exact hs
  case checkpointWriteDone good => exact writeDone_queues good hs
  case holdUpReserveExhaustion =>
    simp only [reserveExhausted]
    split
    · exact writeDone_queues false hs
    · exact hs

/-- Settles O14: each command keeps the capacities, and so does the passing of a millisecond. -/
theorem stepKeepsQueueCapacities : Obligations.StepKeepsQueueCapacities := by
  intro s t hs h
  unfold step at h
  split at h
  · next c rest _ => exact exec_queues (s := s.setPending rest) hs h
  · obtain rfl := Host.Outcome.next.inj h
    exact tick_queues hs

end Sys2Proof.Machine
end

section
/-! The record check (01 R3) and the judging of a burst (01 R1, R2). -/

namespace Sys2Proof.Machine

/-! ### The check -/

theorem recordCheckBit_eq (r : BitVec 8) (d : Bool) :
    recordCheckBit r d = (r <<< 1) ^^^ (if (r.getLsbD 7).xor d then 0x07#8 else 0x00#8) := by
  simp only [recordCheckBit, BitVec.msb_eq_getLsbD_last]
  cases r.getLsbD 7 <;> cases d <;> simp

/-- The check over one byte more: its eight bits are fed, bit 7 first. -/
theorem recordCheck_append (bytes : List Byte) (b : Byte) :
    recordCheck (bytes ++ [b]) =
      bitOrder.foldl (fun r i => recordCheckBit r (b.getLsbD i)) (recordCheck bytes) := by
  simp [recordCheck]

/-- A register fed with its own bit 7 is only shifted. -/
theorem recordCheckBit_own (c : BitVec 8) (k : Nat) (hk : k ≤ 7) :
    recordCheckBit (c <<< k) (c.getLsbD (7 - k)) = c <<< (k + 1) := by
  have own : (c <<< k).msb = c.getLsbD (7 - k) := by
    rw [BitVec.msb_eq_getLsbD_last]
    simp only [BitVec.getLsbD_shiftLeft]
    simp; omega
  rw [recordCheckBit, own]
  simp [BitVec.shiftLeft_add]

/-- Fed with its own eight bits, a register is shifted out. -/
theorem recordCheck_self (bytes : List Byte) : recordCheck (bytes ++ [recordCheck bytes]) = 0#8 := by
  rw [recordCheck_append]
  generalize recordCheck bytes = c
  have shift := fun k hk => recordCheckBit_own c k hk
  have first : recordCheckBit c (c.getLsbD 7) = c <<< 1 := by simpa using shift 0 (by omega)
  have out : c <<< 8 = 0#8 := BitVec.shiftLeft_eq_zero (by omega)
  simp only [bitOrder, List.foldl_cons, List.foldl_nil]
  rw [first, shift 1 (by omega), shift 2 (by omega), shift 3 (by omega), shift 4 (by omega), shift 5 (by omega),
    shift 6 (by omega), shift 7 (by omega), out]

/-! ### The burst -/

/-- What stands behind the start byte of a burst of 33 bytes: 31 bytes and the check byte. -/
theorem isGood_iff (body : List Byte) (check : Byte) (h : body.length = 31) :
    (⟨0x5A#8 :: (body ++ [check]), 33, false⟩ : Assembly).isGood = true ↔ check = recordCheck body := by
  have last : ((0x5A#8 :: (body ++ [check])).drop 32) = [check] := by simp [← h]
  have checked : (body ++ [check]).take 31 = body := by simp [← h]
  simp [Assembly.isGood, last, checked]

/-- Settles O16. -/
theorem recordCheckIsTheStatedCrc : Obligations.RecordCheckIsTheStatedCrc := by
  refine ⟨rfl, fun bytes b => ?_, by decide +kernel, recordCheck_self, isGood_iff⟩
  rw [recordCheck_append]
  simp only [recordCheckBit_eq, bitOrder]

end Sys2Proof.Machine
end

section
/-! Starts and ends of conditions (08 R140, R141, R143, R144) and what they leave in the tamper log (09 R154). -/

namespace Sys2Proof.Machine

/-! ### Indexed records -/

@[simp] theorem PerPhase.get_set {α : Type} (t : PerPhase α) (i j : Phase) (x : α) :
    (t.set i x).get j = if j = i then x else t.get j := by
  cases i <;> cases j <;> simp [PerPhase.set, PerPhase.get]

@[simp] theorem PerCond.get_set {α : Type} (t : PerCond α) (c d : CondId) (x : α) :
    (t.set c x).get d = if d = c then x else t.get d := by
  cases c <;> cases d <;> simp [PerCond.set, PerCond.get]

@[simp] theorem PerKind.get_set_self {α : Type} (t : PerKind α) (k : Kind) (x : α) : (t.set k x).get k = x := by
  cases k <;> rfl

@[simp] theorem State.setCond_cond (s : State) (c d : CondId) (x : Cond) :
    (s.setCond c x).cond d = if d = c then x else s.cond d := by
  simp [State.setCond, State.cond]

/-! ### Evaluation -/

/-- An evaluation sets the flags and what TM holds of the TAMPER reason, and leaves the conditions (08 R143, R144). -/
theorem evaluateTamper_tm (s : State) :
    (evaluateTamper s).tm =
      { s.tm with
        deemed := anyInForceWith s deemedIn
        subst := ⟨s.tm.condInForce (.vloss .p1), s.tm.condInForce (.vloss .p2), s.tm.condInForce (.vloss .p3)⟩
        tamperHeld := anyInForceWith s opensIn } := by
  have same : anyInForceWith (setFlags s) opensIn = anyInForceWith s opensIn := rfl
  simp only [evaluateTamper, holdTamper, same]
  cases hwant : anyInForceWith s opensIn <;> cases hheld : (setFlags s).tm.tamperHeld <;>
    simp_all [setFlags]

@[simp] theorem evaluateTamper_cond (s : State) (c : CondId) : (evaluateTamper s).cond c = s.cond c := by
  simp [State.cond, evaluateTamper_tm]

/-- An ACTIVE condition has the actions of its kind's setting in force. -/
theorem anyInForceWith_of_active (s : State) (c : CondId) (action : Nat → Bool) (ha : (s.cond c).state = .active)
    (hx : action (s.params.actions.get c.kind) = true) : anyInForceWith s action = true := by
  have kind : c.kind ∈ allKinds := by cases c <;> simp [CondId.kind, allKinds]
  have cond : c ∈ allConds := by
    cases c with
    | vloss p | reverse p | bypass p => cases p <;> simp [allConds]
    | _ => simp [allConds]
  have inForce : s.tm.condInForce c = true := by
    have : (s.tm.conds.get c).state = .active := ha
    simp [Tm.condInForce, this]
  exact List.any_eq_true.mpr ⟨_, kind, by simpa [hx, Tm.kindInForce] using ⟨c, cond, rfl, inForce⟩⟩

/-! ### The log at a start -/

/-- The log after a record was asked for: it is appended where there is room, else its kind is counted, and a full
log has been noticed (09 R154). -/
def Tl.opened (x : Tl) (c : CondId) (start : Nat) (inHoldup clockValid : Bool) (actions : Actions)
    (measure : Option Int) : Tl :=
  if x.hasRoom then x.append c start inHoldup clockValid actions measure
  else
    { x with
      unrecorded := x.unrecorded.set c.kind (satAdd 65535 (x.unrecorded.get c.kind) 1)
      fullNoticed := x.isFull || x.fullNoticed }

theorem Tl.opened_of_room {x : Tl} (h : x.hasRoom = true) (c : CondId) (start : Nat) (inHoldup clockValid : Bool)
    (actions : Actions) (measure : Option Int) :
    x.opened c start inHoldup clockValid actions measure = x.append c start inHoldup clockValid actions measure :=
  if_pos h

/-- Without room the records stay and the kind is counted. -/
theorem Tl.opened_of_no_room {x : Tl} (h : x.hasRoom = false) (c : CondId) (start : Nat) (inHoldup clockValid : Bool)
    (actions : Actions) (measure : Option Int) :
    (x.opened c start inHoldup clockValid actions measure).records = x.records ∧
    (x.opened c start inHoldup clockValid actions measure).unrecorded =
      x.unrecorded.set c.kind (satAdd 65535 (x.unrecorded.get c.kind) 1) := by
  simp [Tl.opened, h]

theorem Tl.hasRoom_iff (x : Tl) : x.hasRoom = true ↔ x.records.length < 64 ∧ x.usedUp = false := by
  simp [Tl.hasRoom]

@[simp] theorem logOpen_tl (c : CondId) (inHoldup : Bool) (actions : Actions) (measure : Option Int) (s : State) :
    (logOpen c inHoldup actions measure s).1.tl =
      s.tl.opened c s.clock inHoldup s.tc.clockValid actions measure := by
  simp only [logOpen, Tl.opened]
  split
  · rfl
  · cases hf : s.tl.isFull <;> cases s.tl.fullNoticed <;> simp

theorem logOpen_answer (c : CondId) (inHoldup : Bool) (actions : Actions) (measure : Option Int) (s : State) :
    (logOpen c inHoldup actions measure s).2 =
      if s.tl.hasRoom then .serial s.tl.nextSerial else .unrecorded := by
  simp only [logOpen]
  split
  · rfl
  · split <;> rfl

theorem logOpen_hlc_of_room (c : CondId) (inHoldup : Bool) (actions : Actions) (measure : Option Int) (s : State)
    (h : s.tl.hasRoom = true) : (logOpen c inHoldup actions measure s).1.hlc = s.hlc := by
  simp [logOpen, h]

/-! ### Starts -/

@[simp] theorem startEffect_cond (c d : CondId) (s : State) : (startEffect c s).cond d = s.cond d := by
  cases c <;> rfl

@[simp] theorem endEffect_cond (c d : CondId) (s : State) : (endEffect c s).cond d = s.cond d := by
  cases c <;> rfl

/-- The state in which a start asks TL for its record. -/
def starting (c : CondId) (s : State) : State :=
  startEffect c (s.setCond c
    { s.cond c with state := .active, latch := (s.cond c).latch || latchIn (s.params.actions.get c.kind) })

@[simp] theorem starting_tl (c : CondId) (s : State) : (starting c s).tl = s.tl := by simp [starting]
@[simp] theorem starting_tc (c : CondId) (s : State) : (starting c s).tc = s.tc := by simp [starting]
@[simp] theorem starting_hlc (c : CondId) (s : State) : (starting c s).hlc = s.hlc := by simp [starting]

theorem starting_cond (c d : CondId) (s : State) : (starting c s).cond d = if d = c then
    { s.cond c with state := .active, latch := (s.cond c).latch || latchIn (s.params.actions.get c.kind) }
    else s.cond d := by simp [starting]

@[simp] theorem logOpen_cond (c d : CondId) (inHoldup : Bool) (actions : Actions) (measure : Option Int) (s : State) :
    (logOpen c inHoldup actions measure s).1.cond d = s.cond d := by
  simp [State.cond]

@[simp] theorem raise_cond (body : NoticeBody) (s : State) (d : CondId) : (raise body s).cond d = s.cond d := rfl

/-- The state a start evaluates: TL has answered, the condition holds the answer, the notice is raised (08 R140). -/
def recorded (c : CondId) (measure : Option Int) (s : State) : State :=
  let answer := logOpen c (s.ps.power == .holdup) (actionsOf (s.params.actions.get c.kind) c) measure (starting c s)
  raise (.tamperStart c answer.2) (answer.1.setCond c { answer.1.cond c with ongoing := answer.2 })

theorem startCond_eq (c : CondId) (measure : Option Int) (s : State) :
    startCond c measure s = evaluateTamper (recorded c measure s) := rfl

theorem recorded_cond (c d : CondId) (measure : Option Int) (s : State) :
    (recorded c measure s).cond d = if d = c then
      { s.cond c with
        state := .active
        latch := (s.cond c).latch || latchIn (s.params.actions.get c.kind)
        ongoing := if s.tl.hasRoom then .serial s.tl.nextSerial else .unrecorded }
      else s.cond d := by
  simp only [recorded, raise_cond, State.setCond_cond, logOpen_cond, logOpen_answer, starting_cond, starting_tl]
  split <;> simp

/-- A start touches its own condition alone. -/
theorem startCond_cond (c d : CondId) (measure : Option Int) (s : State) :
    (startCond c measure s).cond d = if d = c then
      { s.cond c with
        state := .active
        latch := (s.cond c).latch || latchIn (s.params.actions.get c.kind)
        ongoing := if s.tl.hasRoom then .serial s.tl.nextSerial else .unrecorded }
      else s.cond d := by
  rw [startCond_eq, evaluateTamper_cond, recorded_cond]

/-- The log after a start holds the record of the start, or counts it (09 R154). -/
theorem startCond_tl (c : CondId) (measure : Option Int) (s : State) :
    (startCond c measure s).tl = s.tl.opened c s.clock (s.ps.power == .holdup) s.tc.clockValid
      (actionsOf (s.params.actions.get c.kind) c) measure := by
  simp [startCond_eq, recorded, State.clock]

theorem startCond_be (c : CondId) (measure : Option Int) (s : State) :
    (startCond c measure s).be = (startEffect c s).be := by
  simp only [startCond_eq, recorded, evaluateTamper_frame, raise_frame, State_setCond_frame, logOpen_frame, starting]
  cases c <;> rfl

/-- A start that finds room in the log tells of its record before any other notice of its own (log 7). -/
theorem startCond_noticed_of_room (c : CondId) (measure : Option Int) (s : State) (h : s.tl.hasRoom = true) :
    Noticed (s.hlc.join ⟨.tamperStart c (.serial s.tl.nextSerial), s.clock⟩) (startCond c measure s).hlc := by
  refine evaluateTamper_noticed _ ?_
  simp [raise, raiseAt, logOpen_answer, logOpen_hlc_of_room, h, State.clock]

/-- An evaluation with an ACTIVE condition puts the actions of its kind in force: TAMPER is held with OPEN in the
setting, the deemed flag is raised with DEEMED in it (08 R143, R144). -/
theorem evaluateTamper_actions (s : State) (c : CondId) (ha : (s.cond c).state = .active) :
    (opensIn (s.params.actions.get c.kind) = true → (evaluateTamper s).tm.tamperHeld = true) ∧
    (deemedIn (s.params.actions.get c.kind) = true → (evaluateTamper s).tm.deemed = true) := by
  rw [evaluateTamper_tm]
  exact ⟨anyInForceWith_of_active s c _ ha, anyInForceWith_of_active s c _ ha⟩

theorem startCond_actions (c : CondId) (measure : Option Int) (s : State) :
    (opensIn (s.params.actions.get c.kind) = true → (startCond c measure s).tm.tamperHeld = true) ∧
    (deemedIn (s.params.actions.get c.kind) = true → (startCond c measure s).tm.deemed = true) := by
  have params : (recorded c measure s).params = s.params := by simp [recorded, starting]
  simpa only [params, startCond_eq] using
    evaluateTamper_actions (recorded c measure s) c (by simp [recorded_cond])

/-! ### Ends -/

/-- An end touches its own condition alone (08 R141). -/
theorem endCond_cond (c d : CondId) (s : State) :
    (endCond c s).cond d = if d = c then
      { s.cond c with state := .idle, lastEnd := some s.clock, ongoing := .none }
      else s.cond d := by
  have setTl : ∀ (t : State) (x : Tl), (t.setTl x).cond d = t.cond d := fun _ _ => rfl
  simp [endCond, setTl]

theorem endCond_be (c : CondId) (s : State) : (endCond c s).be = (endEffect c s).be := by
  simp only [endCond, evaluateTamper_frame]
  cases c <;> simp [endEffect]

end Sys2Proof.Machine
end

section
/-! The meter link intake (01): bursts, the fields of a record, silence. -/

namespace Sys2Proof.Machine

/-! ### Bursts (01 R1, R2, R6) -/

theorem take_take_append {α : Type} (n : Nat) (l m : List α) : (l.take n ++ m).take n = (l ++ m).take n := by
  rw [List.take_append, List.take_append, List.take_take, Nat.min_self, List.length_take]
  congr 2; omega

/-- The assembly after a burst: the first 33 bytes, their number up to 255, whether a framing error was seen. -/
theorem foldl_take (line : List LineByte) (a : Assembly) (hb : a.bytes.length ≤ 33) (hc : a.count ≤ 255) :
    line.foldl Assembly.take a =
      ⟨(a.bytes ++ line.map LineByte.data).take 33, min 255 (a.count + line.length),
        a.framingError || line.any LineByte.framingError⟩ := by
  induction line generalizing a with
  | nil =>
    obtain ⟨bytes, count, fe⟩ := a
    simp [List.take_of_length_le hb, Nat.min_eq_right hc]
  | cons b rest ih =>
    have kept : (a.take b).bytes = (a.bytes ++ [b.data]).take 33 := by
      simp only [Assembly.take]
      split
      · next h => rw [List.take_of_length_le (by simp; omega)]
      · next h => rw [List.take_append_of_le_length (by omega), List.take_of_length_le hb]
    rw [List.foldl_cons, ih (a.take b) (by rw [kept]; simp) (by simp [Assembly.take, satAdd]), kept, take_take_append]
    simp only [Assembly.take, satAdd, Assembly.mk.injEq]
    refine ⟨by simp, by simp; omega, by simp [Bool.or_assoc]⟩

/-- A burst's bytes from an empty assembly. -/
theorem foldl_take_empty (line : List LineByte) :
    line.foldl Assembly.take Assembly.empty =
      ⟨(line.map LineByte.data).take 33, min 255 line.length, line.any LineByte.framingError⟩ := by
  rw [foldl_take _ _ (by simp [Assembly.empty]) (by simp [Assembly.empty])]
  simp [Assembly.empty]

/-- A burst that breaks one of the first three conditions of 01 R2 is no record. -/
theorem not_isGood_of_malformed (line : List LineByte) (h : line.length ≠ 33 ∨
    (line.map LineByte.data).head? ≠ some 0x5A#8 ∨ ∃ b ∈ line, b.framingError = true) :
    (line.foldl Assembly.take Assembly.empty).isGood = false := by
  rw [foldl_take_empty, Bool.eq_false_iff]
  intro good
  simp only [Assembly.isGood, Bool.and_eq_true, beq_iff_eq, Bool.not_eq_true'] at good
  obtain ⟨⟨⟨count, start⟩, clean⟩, _⟩ := good
  rcases h with length | head | ⟨b, hb, framing⟩
  · omega
  · cases line with
    | nil => simp at count
    | cons b rest => exact head (by simpa using start)
  · exact Bool.eq_false_iff.mp clean (List.any_eq_true.mpr ⟨b, hb, framing⟩)

/-- A burst of 33 bytes without framing error leaves its bytes. -/
theorem foldl_take_clean (bytes : List Byte) (h : bytes.length = 33) :
    (bytes.map fun b => (⟨b, false⟩ : LineByte)).foldl Assembly.take Assembly.empty = ⟨bytes, 33, false⟩ := by
  rw [foldl_take_empty]
  simp [Function.comp_def, h, List.take_of_length_le]

/-- A bad burst leaves an empty assembly as it was. -/
theorem burstEnd_of_bad (line : List LineByte) (s : State) (ha : s.mli.assembly = Assembly.empty)
    (hg : (line.foldl Assembly.take Assembly.empty).isGood = false) : burstEnd line s = s := by
  have emptied : s.setMli { s.mli with assembly := Assembly.empty } = s := by rw [← ha]; rfl
  simp only [burstEnd, ha, hg, emptied]
  simp

/-- A good burst in ACTIVE is the arrival of its record. -/
theorem burstEnd_of_good (line : List LineByte) (s : State) (hp : s.ps.power = .active)
    (ha : s.mli.assembly = Assembly.empty) (hg : (line.foldl Assembly.take Assembly.empty).isGood = true) :
    burstEnd line s = arrival (recordOf (line.foldl Assembly.take Assembly.empty).bytes) s := by
  have emptied : s.setMli { s.mli with assembly := Assembly.empty } = s := by rw [← ha]; rfl
  simp only [burstEnd, hp, ha, hg, emptied]
  simp

/-- The state in which TM hears of an arrival. -/
def silenceEnded (s : State) : State := s.setMli { s.mli with silenceMs := 0, reported := false }

/-- An arrival resets the silence run and offers its record to the queue (01 R6). -/
theorem arrival_mli (r : IntervalRecord) (s : State) :
    (arrival r s).mli =
      { s.mli with silenceMs := 0, reported := false, queue := joinIntake s.mli.queue r } := by
  simp [arrival]

theorem arrival_of_not_active (r : IntervalRecord) (s : State) (h : (s.cond .linkloss).state ≠ .active) :
    arrival r s =
      s.setMli { s.mli with silenceMs := 0, reported := false, queue := joinIntake s.mli.queue r } := by
  have idle : linkGoodToTm (silenceEnded s) = silenceEnded s := if_neg h
  have heard : arrival r s = (linkGoodToTm (silenceEnded s)).setMli
      { (linkGoodToTm (silenceEnded s)).mli with queue := joinIntake (linkGoodToTm (silenceEnded s)).mli.queue r } := rfl
  rw [heard, idle]; rfl

/-- An arrival that finds LINKLOSS ACTIVE ends it (08 R138). -/
theorem arrival_of_active (r : IntervalRecord) (s : State) (h : (s.cond .linkloss).state = .active) :
    (∀ c, (arrival r s).cond c = (endCond .linkloss (silenceEnded s)).cond c) ∧
    (arrival r s).be = (endCond .linkloss (silenceEnded s)).be := by
  have ended : linkGoodToTm (silenceEnded s) = endCond .linkloss (silenceEnded s) := if_pos h
  rw [← ended]
  exact ⟨fun _ => rfl, rfl⟩

/-- Settles O42. -/
theorem burstsAreJudgedOnTheirOwn : Obligations.BurstsAreJudgedOnTheirOwn := by
  intro s body check junk hp ha hlen bytes line joined
  have clean : line.foldl Assembly.take Assembly.empty = ⟨bytes, 33, false⟩ :=
    foldl_take_clean bytes (by simp [bytes, hlen])
  have judged : (line.foldl Assembly.take Assembly.empty).isGood = true ↔ check = recordCheck body := by
    rw [clean]; exact isGood_iff body check hlen
  have good : check = recordCheck body → exec (.burstEnd line) s = .next (arrival (recordOf bytes) s) := fun h => by
    have := burstEnd_of_good line s hp ha (judged.mpr h)
    rw [clean] at this
    exact congrArg Host.Outcome.next this
  refine ⟨fun h idle => ?_, fun h active => ?_, fun h => ?_, fun h => ?_⟩
  · rw [good h, arrival_of_not_active _ _ idle]; rfl
  · obtain ⟨cond, be⟩ := arrival_of_active (recordOf bytes) s active
    refine ⟨_, good h, arrival_mli _ s, ?_, fun c hc => ?_, ?_, by simp⟩
    · rw [cond, endCond_cond, if_pos rfl]; rfl
    · rw [cond, endCond_cond, if_neg hc]; rfl
    · rw [be, endCond_be]; rfl
  · exact congrArg _ (burstEnd_of_bad line s ha (by rwa [← Bool.not_eq_true, judged]))
  · exact congrArg _ (burstEnd_of_bad junk s ha (not_isGood_of_malformed junk h))

/-! ### The fields of a record (12 R187, 01 R4, R5) -/

/-- A phase power that fits in 24 bits is read back (12 R187). -/
theorem signedOf_mod24 (x : Int) (h : -8388608 ≤ x) (h' : x < 8388608) :
    signedOf 24 ((x % (256 ^ 3 : Nat)).toNat % 256 ^ 3) = x := by
  simp only [signedOf]; norm_num at *; split <;> omega

theorem clampPower_bytes (x : Int) (h : -8388608 ≤ x) (h' : x < 8388608) :
    clampPower ((x % (256 ^ 3 : Nat)).toNat % 256 ^ 3) = max (-32000) (min 32000 x) := by
  rw [clampPower, signedOf_mod24 x h h', clampInt]

/-- The fields of one phase: power, voltage, current (12 R187). -/
def phaseBytes (p : Int) (v i : Nat) : List Byte := bytesOfInt 3 p ++ bytesOf 2 v ++ bytesOf 3 i

theorem length_phaseBytes (p : Int) (v i : Nat) : (phaseBytes p v i).length = 8 := by
  simp [phaseBytes, bytesOfInt]

theorem fieldAt_drop (bytes : List Byte) (k off len : Nat) :
    fieldAt bytes (k + off) len = fieldAt (bytes.drop k) off len := by
  simp [fieldAt, List.drop_drop]

/-- A phase's fields are read back, whatever follows them. -/
theorem phaseBytes_fields (p : Int) (v i : Nat) (rest : List Byte) (hv : v < 2 ^ 16) (hi : i < 2 ^ 24) :
    fieldAt (phaseBytes p v i ++ rest) 0 3 = (p % (256 ^ 3 : Nat)).toNat % 256 ^ 3 ∧
    fieldAt (phaseBytes p v i ++ rest) 3 2 = v ∧ fieldAt (phaseBytes p v i ++ rest) 5 3 = i := by
  have hv' : v % 256 ^ 2 = v := Nat.mod_eq_of_lt (by norm_num at *; exact hv)
  have hi' : i % 256 ^ 3 = i := Nat.mod_eq_of_lt (by norm_num at *; exact hi)
  simp only [phaseBytes, bytesOfInt, List.append_assoc]
  refine ⟨fieldAt_here _ _ _, ?_, ?_⟩
  · rw [fieldAt_skip _ _ _ _ _ (by omega), fieldAt_here, hv']
  · rw [fieldAt_skip _ _ _ _ _ (by omega), fieldAt_skip _ _ _ _ _ (by omega), fieldAt_here, hi']

/-- An interval record laid out as 12 R187 states. -/
def recordBytes (seq dur : Nat) (p : PerPhase Int) (v i : PerPhase Nat) (inn : Nat) (flags check : Byte) : List Byte :=
  0x5A#8 :: (bytesOf 1 seq ++ bytesOf 2 dur ++ phaseBytes p.p1 v.p1 i.p1 ++ phaseBytes p.p2 v.p2 i.p2 ++
    phaseBytes p.p3 v.p3 i.p3 ++ bytesOf 3 inn ++ [flags, check])

/-- The byte at which a phase's fields begin. -/
def phaseOffset : Phase → Nat
  | .p1 => 4
  | .p2 => 12
  | .p3 => 20

section
variable (seq dur : Nat) (p : PerPhase Int) (v i : PerPhase Nat) (inn : Nat) (flags check : Byte)

theorem recordBytes_length : (recordBytes seq dur p v i inn flags check).length = 33 := by
  simp [recordBytes, length_phaseBytes]

theorem recordBytes_seq_dur (hseq : seq < 2 ^ 8) (hdur : dur < 2 ^ 16) :
    fieldAt (recordBytes seq dur p v i inn flags check) 1 1 = seq ∧
    fieldAt (recordBytes seq dur p v i inn flags check) 2 2 = dur := by
  simp only [recordBytes, List.append_assoc]
  refine ⟨?_, ?_⟩
  · rw [fieldAt_cons, fieldAt_here, Nat.mod_eq_of_lt (by norm_num at *; exact hseq)]
  · rw [fieldAt_cons, fieldAt_skip _ _ _ _ _ (by omega), fieldAt_here,
      Nat.mod_eq_of_lt (by norm_num at *; exact hdur)]

/-- What stands in front of a phase has the length of its offset. -/
theorem recordBytes_drop_phase (x : Phase) : ∃ rest, (recordBytes seq dur p v i inn flags check).drop (phaseOffset x) =
    phaseBytes (p.get x) (v.get x) (i.get x) ++ rest := by
  let front := 0x5A#8 :: (bytesOf 1 seq ++ bytesOf 2 dur)
  let first := phaseBytes p.p1 v.p1 i.p1
  let second := phaseBytes p.p2 v.p2 i.p2
  let third := phaseBytes p.p3 v.p3 i.p3
  let last := bytesOf 3 inn ++ [flags, check]
  have whole : recordBytes seq dur p v i inn flags check = front ++ (first ++ (second ++ (third ++ last))) := by
    simp [recordBytes, front, first, second, third, last]
  rw [whole]
  cases x with
  | p1 => exact ⟨second ++ (third ++ last), List.drop_left' (by simp [front, phaseOffset])⟩
  | p2 =>
    refine ⟨third ++ last, ?_⟩
    rw [← List.append_assoc]
    exact List.drop_left' (by simp [front, first, length_phaseBytes, phaseOffset])
  | p3 =>
    refine ⟨last, ?_⟩
    rw [← List.append_assoc, ← List.append_assoc]
    exact List.drop_left' (by simp [front, first, second, length_phaseBytes, phaseOffset])

theorem recordBytes_phase (x : Phase) (hv : v.get x < 2 ^ 16) (hi : i.get x < 2 ^ 24) :
    fieldAt (recordBytes seq dur p v i inn flags check) (phaseOffset x) 3 =
      (p.get x % (256 ^ 3 : Nat)).toNat % 256 ^ 3 ∧
    fieldAt (recordBytes seq dur p v i inn flags check) (phaseOffset x + 3) 2 = v.get x ∧
    fieldAt (recordBytes seq dur p v i inn flags check) (phaseOffset x + 5) 3 = i.get x := by
  obtain ⟨rest, behind⟩ := recordBytes_drop_phase seq dur p v i inn flags check x
  have fields := phaseBytes_fields (p.get x) (v.get x) (i.get x) rest hv hi
  rw [fieldAt_drop _ _ 3, fieldAt_drop _ _ 5, ← Nat.add_zero (phaseOffset x), fieldAt_drop _ _ 0, Nat.add_zero, behind]
  exact fields

theorem recordBytes_drop_last : (recordBytes seq dur p v i inn flags check).drop 28 =
    bytesOf 3 inn ++ [flags, check] := by
  rw [recordBytes, List.append_assoc _ (bytesOf 3 inn), ← List.cons_append]
  exact List.drop_left' (by simp [length_phaseBytes])

theorem recordBytes_inn (h : inn < 2 ^ 24) : fieldAt (recordBytes seq dur p v i inn flags check) 28 3 = inn := by
  rw [← Nat.add_zero 28, fieldAt_drop, recordBytes_drop_last, fieldAt_here,
    Nat.mod_eq_of_lt (by norm_num at *; exact h)]

theorem recordBytes_flags : ((recordBytes seq dur p v i inn flags check).drop 31).headD 0#8 = flags := by
  rw [show 31 = 28 + 3 from rfl, ← List.drop_drop, recordBytes_drop_last]
  simp

/-- A record laid out as 12 R187 states is read back, clamped (01 R4, R5). -/
theorem recordOf_recordBytes (hseq : seq < 2 ^ 8) (hdur : dur < 2 ^ 16)
    (hphase : ∀ x, -8388608 ≤ p.get x ∧ p.get x < 8388608 ∧ v.get x < 2 ^ 16 ∧ i.get x < 2 ^ 24) (hinn : inn < 2 ^ 24) :
    recordOf (recordBytes seq dur p v i inn flags check) =
      { seq := seq
        dur := clampNat 100 1000 dur
        p := p.map fun x => max (-32000) (min 32000 x)
        v := ⟨channel 5000 (flags.getLsbD 4) v.p1, channel 5000 (flags.getLsbD 5) v.p2,
          channel 5000 (flags.getLsbD 6) v.p3⟩
        i := ⟨channel 100000 (flags.getLsbD 0) i.p1, channel 100000 (flags.getLsbD 1) i.p2,
          channel 100000 (flags.getLsbD 2) i.p3⟩
        inn := channel 100000 (flags.getLsbD 3) inn } := by
  obtain ⟨atSeq, atDur⟩ := recordBytes_seq_dur seq dur p v i inn flags check hseq hdur
  have atInn := recordBytes_inn seq dur p v i inn flags check hinn
  have atFlags := recordBytes_flags seq dur p v i inn flags check
  have atPhase := fun x =>
    let ⟨_, _, hv, hi⟩ := hphase x
    recordBytes_phase seq dur p v i inn flags check x hv hi
  have power := fun x =>
    let ⟨low, high, _⟩ := hphase x
    clampPower_bytes (p.get x) low high
  generalize recordBytes seq dur p v i inn flags check = bytes at *
  obtain ⟨p1, v1, i1⟩ := atPhase .p1
  obtain ⟨p2, v2, i2⟩ := atPhase .p2
  obtain ⟨p3, v3, i3⟩ := atPhase .p3
  simp only [phaseOffset, Nat.reduceAdd] at p1 v1 i1 p2 v2 i2 p3 v3 i3
  simp only [recordOf, atSeq, atDur, atInn, atFlags, p1, v1, i1, p2, v2, i2, p3, v3, i3, power]
  rfl

end

/-- Settles O43. -/
theorem recordFieldsAreReadBack : Obligations.RecordFieldsAreReadBack := by
  intro seq dur p v i inn flags check hseq hdur hphase hinn phase bytes r
  have read : r = _ := recordOf_recordBytes seq dur p v i inn flags check hseq hdur hphase hinn
  refine ⟨recordBytes_length seq dur p v i inn flags check, ?_⟩
  rw [read]
  refine ⟨rfl, rfl, fun x => ?_, rfl, rfl, rfl⟩
  cases x <;> rfl

/-! ### Silence (01 R11, R12, 08 R138) -/

theorem silenceUnreported_iff (s : State) :
    silenceUnreported s = true ↔ 2000 ≤ s.mli.silenceMs ∧ s.mli.reported = false := by
  simp [silenceUnreported]

theorem suppressed_eq_false_iff (s : State) :
    suppressed s = false ↔ s.mli.suppression = none ∨ s.mli.suppression = some 0 := by
  unfold suppressed
  split <;> simp [*]

theorem silenceReport_of_not_due (s : State) (h : ¬(s.ps.power = .active ∧ s.mli.silenceRunning ∧
    silenceUnreported s ∧ suppressed s = false)) : silenceReport s = s := if_neg h

theorem suppressionTimerExpiry_of_not_due (s : State)
    (h : ¬(s.ps.power = .active ∧ s.mli.suppression = some 0)) : suppressionTimerExpiry s = s :=
  if_neg (by simpa [timerDue] using h)

/-- A report that finds LINKLOSS not IDLE sets the silence-reported flag alone. -/
theorem reportSilence_of_not_idle (s : State) (h : (s.cond .linkloss).state ≠ .idle) :
    reportSilence s = s.setMli { s.mli with reported := true } := if_neg h

/-- A report that finds LINKLOSS IDLE starts it with the silence in whole seconds (log 32). -/
theorem reportSilence_of_idle (s : State) (h : (s.cond .linkloss).state = .idle) :
    reportSilence s = startCond .linkloss (some (silenceSeconds s)) (s.setMli { s.mli with reported := true }) :=
  if_pos h

/-- What a silence report that starts LINKLOSS leaves, t, of the state s that it found in ACTIVE. -/
def SilenceStarts (s t : State) : Prop :=
  let setting := s.params.actions.get .linkloss
  let seconds : Nat := min 65535 (s.mli.silenceMs / 1000)
  let told := fun (l : List Notice) (t : State) =>
    ((s.hlc.queue ++ l).length ≤ 16 → s.hlc.queue ++ l <+: t.hlc.queue) ∧
      (16 ≤ s.hlc.queue.length → t.hlc.queue = s.hlc.queue ∧ t.hlc.overflow = true)
  (t.cond .linkloss).state = .active ∧ (t.cond .linkloss).lastEnd = (s.cond .linkloss).lastEnd ∧
    (t.cond .linkloss).latch = ((s.cond .linkloss).latch || setting.testBit 2) ∧
    t.be = { s.be with tickTimer := some 250 } ∧
    (s.tl.records.length < 64 → s.tl.usedUp = false →
      t.tl.records = s.tl.records ++ [⟨s.tl.nextSerial, .linkloss, s.clock, none, false, s.tc.clockValid,
        ⟨setting.testBit 0, setting.testBit 1, setting.testBit 2, false⟩, some (seconds : Int)⟩] ∧
      (t.cond .linkloss).ongoing = .serial s.tl.nextSerial ∧
      told [⟨.tamperStart .linkloss (.serial s.tl.nextSerial), s.clock⟩] t) ∧
    (64 ≤ s.tl.records.length ∨ s.tl.usedUp = true →
      t.tl.records = s.tl.records ∧ (t.cond .linkloss).ongoing = .unrecorded ∧
      t.tl.unrecorded.get .linkloss = min 65535 (s.tl.unrecorded.get .linkloss + 1)) ∧
    (setting.testBit 0 = true → t.tm.tamperHeld = true) ∧ (setting.testBit 1 = true → t.tm.deemed = true) ∧
    (∀ d, d ≠ .linkloss → t.cond d = s.cond d) ∧
    t.params = s.params ∧ t.tc = s.tc ∧ t.cl = s.cl ∧ t.ce = s.ce ∧ t.ps = s.ps ∧ t.ll = s.ll ∧ t.pins = s.pins

/-- One notice raised and others behind it: the first stands behind those that waited, or a full queue has dropped
them all. -/
theorem told_of_noticed {h h' : Hlc} {n : Notice} (hn : Noticed (h.join n) h') :
    ((h.queue ++ [n]).length ≤ 16 → h.queue ++ [n] <+: h'.queue) ∧
      (16 ≤ h.queue.length → h'.queue = h.queue ∧ h'.overflow = true) := by
  refine ⟨fun room => ?_, fun full => ?_⟩
  · rw [← h.join_queue n (by simp at room; omega)]
    exact hn.queue_grows
  · obtain ⟨kept, overflow⟩ := h.join_of_full n full
    have later := hn.full (by rwa [kept]) overflow
    rwa [kept] at later

/-- A start of LINKLOSS is all of it, whatever else the intake notes of the report. -/
theorem silenceStarts (s : State) (x : Mli) (hp : s.ps.power = .active) :
    SilenceStarts s (startCond .linkloss (some (silenceSeconds s)) (s.setMli x)) := by
  unfold SilenceStarts
  intro setting seconds told
  have cond := fun d => startCond_cond .linkloss d (some (silenceSeconds s)) (s.setMli x)
  have awake : (s.ps.power == Power.holdup) = false := by simp [hp]
  have tl : (startCond .linkloss (some (silenceSeconds s)) (s.setMli x)).tl = s.tl.opened .linkloss s.clock false
      s.tc.clockValid (actionsOf setting .linkloss) (some (silenceSeconds s)) := by
    rw [← awake]; exact startCond_tl .linkloss (some (silenceSeconds s)) (s.setMli x)
  have be := startCond_be .linkloss (some (silenceSeconds s)) (s.setMli x)
  obtain ⟨opens, deemed⟩ := startCond_actions .linkloss (some (silenceSeconds s)) (s.setMli x)
  have linkloss := cond .linkloss
  rw [if_pos rfl] at linkloss
  refine ⟨by rw [linkloss], by rw [linkloss]; rfl, by rw [linkloss]; rfl, be, fun hlen hused => ?_, fun full => ?_,
    opens, deemed, fun d hd => (cond d).trans (if_neg hd), by simp⟩
  · have room : s.tl.hasRoom = true := s.tl.hasRoom_iff.mpr ⟨hlen, hused⟩
    have noticed := startCond_noticed_of_room .linkloss (some (silenceSeconds s)) (s.setMli x) room
    refine ⟨?_, by simp [linkloss, room], told_of_noticed noticed⟩
    rw [tl, Tl.opened_of_room room]; rfl
  · have noRoom : s.tl.hasRoom = false := by
      rw [Bool.eq_false_iff, ne_eq, Tl.hasRoom_iff]
      rintro ⟨_, _⟩
      rcases full with h | h
      · omega
      · simp_all
    obtain ⟨records, counted⟩ := Tl.opened_of_no_room noRoom .linkloss s.clock false
      s.tc.clockValid (actionsOf setting .linkloss) (some (silenceSeconds s))
    exact ⟨by rw [tl]; exact records, by simp [linkloss, noRoom],
      by rw [tl]; exact (congrArg (PerKind.get · Kind.linkloss) counted).trans (PerKind.get_set_self _ _ _)⟩

/-- Settles O44. -/
theorem silenceIsReportedOnce : Obligations.SilenceIsReportedOnce := by
  intro s setting seconds told started
  have unreported := silenceUnreported_iff s
  have free := suppressed_eq_false_iff s
  have noReport : ¬(s.ps.power = .active ∧ s.mli.silenceRunning ∧ silenceUnreported s ∧ suppressed s = false) →
      exec .silenceReport s = .next s := fun h => congrArg _ (silenceReport_of_not_due s h)
  have noExpiry : ¬(s.ps.power = .active ∧ s.mli.suppression = some 0) →
      exec .suppressionTimerExpiry s = .next s := fun h => congrArg _ (suppressionTimerExpiry_of_not_due s h)
  refine ⟨fun h => ⟨noReport (by simp [h]), noExpiry (by simp [h])⟩, fun h => noReport ?_, fun n h => ⟨noReport ?_,
    noExpiry (by simp [h])⟩, fun h => noExpiry (by simp [h]), fun hp running long fresh hs => ?_, fun hp expired => ?_⟩
  · rintro ⟨_, running, long, _⟩
    obtain ⟨long, fresh⟩ := unreported.mp long
    rcases h with h | h | h
    · simp [h] at running
    · omega
    · simp [h] at fresh
  · simp [free, h]
  · have due : exec .silenceReport s = .next (reportSilence s) :=
      congrArg _ (if_pos ⟨hp, running, unreported.mpr ⟨long, fresh⟩, free.mpr hs⟩)
    refine ⟨fun h => by rw [due, reportSilence_of_not_idle s h], fun h => ⟨_, due, ?_, ?_⟩⟩
    · rw [reportSilence_of_idle s h]; simp
    · rw [reportSilence_of_idle s h]; exact silenceStarts s _ hp
  · let stopped := s.setMli { s.mli with suppression := none }
    have due : exec .suppressionTimerExpiry s =
        .next (if silenceUnreported s then reportSilence stopped else stopped) :=
      congrArg _ (if_pos ⟨hp, by simp [timerDue, expired]⟩)
    refine ⟨fun h => ?_, fun long fresh => ?_⟩
    · rw [due, if_neg]
      rw [unreported]; rcases h with h | h <;> simp [h]
    · rw [if_pos (unreported.mpr ⟨long, fresh⟩)] at due
      refine ⟨fun h => by rw [due, reportSilence_of_not_idle stopped h]; rfl, fun h => ⟨_, due, ?_, ?_⟩⟩
      · rw [reportSilence_of_idle stopped h]; simp [stopped]
      · rw [reportSilence_of_idle stopped h]; exact silenceStarts s _ hp

end Sys2Proof.Machine
end

section
/-! The part after reset (the manufacture rows of the reset tables). -/

namespace Sys2Proof.Machine

/-- No rate is set at manufacture (03 R46). -/
theorem reset_rates : ∀ (b : Band) (k : Block), (State.reset.tc.sched.rates.get b).get k = 0 := by decide

/-- Every condition is fresh at manufacture (08 R151). -/
theorem reset_cond (c : CondId) : State.reset.cond c = ⟨.idle, false, none, .none⟩ := by
  cases c with
  | vloss p | reverse p | bypass p => cases p <;> rfl
  | _ => rfl

theorem reset_unrecorded (k : Kind) : State.reset.tl.unrecorded.get k = 0 := by
  cases k <;> rfl

/-- Settles O4: block by block; the values are those of the definitions of the manufacture rows. -/
theorem resetLeavesManufactureValues : Obligations.ResetLeavesManufactureValues := by
  unfold Obligations.ResetLeavesManufactureValues
  refine ⟨?intake, ?billing, ?calendar, ?ledger, ?codes, ?switch, ?limiter, ?tamper, ?log, ?supervisor, ?link, rfl⟩
  case calendar => exact ⟨rfl, rfl, rfl, rfl, rfl, reset_rates, rfl, rfl, rfl, rfl, rfl⟩
  case tamper => exact ⟨reset_cond, rfl, rfl, rfl, rfl, rfl, rfl⟩
  case log => exact ⟨rfl, rfl, rfl, reset_unrecorded, rfl⟩
  case intake | billing | ledger | codes | switch | limiter | supervisor | link => decide

end Sys2Proof.Machine
end

section
/-! The passing of a millisecond (log 1, 3): what is due, in what order it joins the queue, and the fields that move. -/

namespace Sys2Proof.Machine

/-! ### What is due -/

@[simp] theorem mem_dueIf (b : Bool) (x c : Instr) : c ∈ (dueIf b x).flatten ↔ b = true ∧ c = x := by
  cases b <;> simp [dueIf]

theorem mem_ite_flatten (p : Prop) [Decidable p] (l : List (List Instr)) (c : Instr) :
    c ∈ (if p then l else []).flatten ↔ p ∧ c ∈ l.flatten := by
  split <;> simp [*]

theorem timerDue_iff (t : Timer) : timerDue t = true ↔ t = some 0 := by simp [timerDue]

theorem clockRuns_iff (s : State) : clockRuns s = true ↔ s.ps.power = .active ∨ s.ps.power = .holdup := by
  simp [clockRuns]

theorem mem_clockDue (s : State) (c : Instr) : c ∈ (clockDue s).flatten ↔
    ((s.ps.power = .active ∨ s.ps.power = .holdup) ∧ 4096000 ≤ s.tc.phase) ∧
      (c = .clockAdvance ∨ c = .tcEdgeEvaluation ∧ s.clock < 4294967295 ∧ (s.clock + 1) % 600 = 0) := by
  simp only [clockDue, clockRuns_iff, phaseSecond, maxClock, mem_ite_flatten]
  by_cases edge : s.clock < 4294967295 ∧ (s.clock + 1) % 600 = 0 <;> simp [edge]

theorem mem_vmainDue (s : State) (c : Instr) : c ∈ (vmainDue s).flatten ↔ s.ps.vmainTimer = some 0 ∧
    ((c = .holdupEntry s.pins.vback ∧ s.ps.power = .active ∧ s.pins.vmain = false) ∨
      (c = .shelfPowerLoss ∧ s.ps.power = .shelf ∧ s.pins.vmain = false) ∨
      (c = .returnDecision ∧ s.ps.power = .holdup ∧ s.pins.vmain = true) ∨
      (c = .powerUp ∧ (s.ps.power = .dormant ∨ s.ps.power = .off) ∧ s.pins.vmain = true ∧ s.ps.write = none)) := by
  simp only [vmainDue, timerDue_iff]
  split
  · next h => cases hp : s.ps.power <;> simp [h, and_comm, -List.mem_flatten]
  · simp [*]

theorem mem_coilDue (s : State) (c : Instr) : c ∈ (coilDue s).flatten ↔
    (c = .coilPulseEnd ∧ s.sss.phase = .pulse ∧ s.sss.phaseTimer = some 0) ∨
    (c = .coilCutoff ∧ (s.sss.phase = .pulse ∨ s.sss.phase = .clearance) ∧ s.sss.cutoff = some 0) := by
  simp only [coilDue, List.flatten_append, List.mem_append, mem_dueIf, Bool.and_eq_true, Bool.or_eq_true, beq_iff_eq,
    timerDue_iff, and_comm]

theorem frameDue_iff (s : State) : frameDue s = true ↔ ∃ f, s.hlc.rx = some f ∧ 20 < f.gapMs := by
  unfold frameDue
  split <;> simp [*]

theorem groupDue_iff (s : State) : groupDue s = true ↔ ∃ g, s.ce.group = some g ∧ g.timer = 0 := by
  unfold groupDue
  split <;> simp [*]

theorem dueGroups_mem (s : State) (c : Instr) : c ∈ (dueGroups s).flatten ↔
    c ∈ (clockDue s).flatten ∨ c ∈ (vmainDue s).flatten ∨ c ∈ (coilDue s).flatten ∨
      ((∃ f, s.hlc.rx = some f ∧ 20 < f.gapMs) ∧ c = .frameTimeout) ∨
      (s.ps.power = .active ∧ c ∈ (activeDue s).flatten) ∨ (s.ps.power = .holdup ∧ c ∈ (holdupDue s).flatten) := by
  simp only [dueGroups, List.flatten_append, List.mem_append, mem_dueIf, frameDue_iff, mem_ite_flatten, or_assoc]

/-- What joins the queue is what the state of the model says is due, command by command. -/
theorem mem_dueGroups (s : State) (c : Instr) : c ∈ (dueGroups s).flatten ↔ s.due c := by
  rw [dueGroups_mem, mem_clockDue, mem_vmainDue, mem_coilDue]
  simp only [activeDue, holdupDue, List.flatten_append, List.mem_append, mem_dueIf]
  cases c
  case sensorFilterExpiry i => cases i <;> simp [State.due, filterDue]
  case lockoutEnd src => cases src <;> simp [State.due, timerDue_iff]
  all_goals
    simp [State.due, timerDue_iff, groupDue_iff, filterDue, measureDue, silenceUnreported_iff,
      suppressed_eq_false_iff, and_assoc, and_comm, and_left_comm]

/-! ### Each once -/

/-- The commands that the time of each part of the list can make due, with the pin levels they carry. -/
def clockEvents : List Instr := [.clockAdvance, .tcEdgeEvaluation]
def vmainEvents (vback : Bool) : List Instr := [.holdupEntry vback, .shelfPowerLoss, .returnDecision, .powerUp]
def coilEvents : List Instr := [.coilPulseEnd, .coilCutoff]
def holdupEvents : List Instr := [.holdupSample, .deferredReturn]
def activeEvents (loadv : PerPhase Bool) : List Instr :=
  [.silenceReport, .suppressionTimerExpiry, .silenceTick, .sensorFilterExpiry .meterCase, .sensorFilterExpiry .cover,
    .sensorFilterExpiry .mag, .deemedHoldExpiry, .linklossMeasure, .lockoutEnd .keypad, .lockoutEnd .remote,
    .groupTimeout, .settleEnd loadv, .weldRetryExpiry, .recloseTimerExpiry, .recloseWindowExpiry, .periodicCheckpoint,
    .deferredPeriodicWrite]

def timeEvents (vback : Bool) (loadv : PerPhase Bool) : List Instr :=
  clockEvents ++ vmainEvents vback ++ coilEvents ++ [Instr.frameTimeout] ++ activeEvents loadv ++ holdupEvents

theorem timeEvents_nodup (vback : Bool) (loadv : PerPhase Bool) : (timeEvents vback loadv).Nodup := by
  simp [timeEvents, clockEvents, vmainEvents, coilEvents, activeEvents, holdupEvents]

theorem dueIf_sublist (b : Bool) (c : Instr) : (dueIf b c).flatten.Sublist [c] := by
  cases b <;> simp [dueIf]

theorem dueIf_append_sublist (b : Bool) (c : Instr) {l m : List Instr} (h : l.Sublist m) :
    ((dueIf b c).flatten ++ l).Sublist (c :: m) := (dueIf_sublist b c).append h

theorem clockDue_sublist (s : State) : (clockDue s).flatten.Sublist clockEvents := by
  unfold clockDue
  (repeat' split) <;> simp [clockEvents]

theorem vmainDue_sublist (s : State) : (vmainDue s).flatten.Sublist (vmainEvents s.pins.vback) := by
  unfold vmainDue
  split
  · split <;> refine (dueIf_sublist _ _).trans ?_ <;> simp [vmainEvents]
  · simp

theorem coilDue_sublist (s : State) : (coilDue s).flatten.Sublist coilEvents := by
  rw [coilDue, List.flatten_append]
  exact (dueIf_sublist _ _).append (dueIf_sublist _ _)

theorem ite_flatten_sublist (p : Prop) [Decidable p] {l : List (List Instr)} {m : List Instr}
    (h : l.flatten.Sublist m) : (if p then l else []).flatten.Sublist m := by
  split
  · exact h
  · simp

theorem activeDue_sublist (s : State) : (activeDue s).flatten.Sublist (activeEvents s.pins.loadv) := by
  simp only [activeDue, List.flatten_append, List.append_assoc]
  iterate 16 refine dueIf_append_sublist _ _ ?_
  exact dueIf_sublist _ _

theorem holdupDue_sublist (s : State) : (holdupDue s).flatten.Sublist holdupEvents := by
  rw [holdupDue, List.flatten_append]
  exact (dueIf_sublist _ _).append (dueIf_sublist _ _)

/-- No event is due twice. -/
theorem dueGroups_nodup (s : State) : (dueGroups s).flatten.Nodup := by
  refine List.Sublist.nodup ?_ (timeEvents_nodup s.pins.vback s.pins.loadv)
  simp only [dueGroups, List.flatten_append]
  exact (((((clockDue_sublist s).append (vmainDue_sublist s)).append (coilDue_sublist s)).append
    (dueIf_sublist _ _)).append (ite_flatten_sublist _ (activeDue_sublist s))).append
      (ite_flatten_sublist _ (holdupDue_sublist s))

/-! ### The clock's edge stays behind its advance (03 R39, R45) -/

/-- Two neighbours of a joined list are neighbours of one of its parts, unless the second begins the second part. -/
theorem pair_infix_append {α : Type} {x y : α} {a b : List α} (h : [x, y] <:+: a ++ b) (hb : b.head? ≠ some y) :
    [x, y] <:+: a ∨ [x, y] <:+: b := by
  rcases List.infix_append_iff.mp h with h | h | ⟨l, m, e, hl, hm⟩
  · exact .inl h
  · exact .inr h
  · match l, e with
    | [], e => exact .inr (by rw [e]; exact hm.isInfix)
    | [_], e =>
      obtain ⟨-, rfl⟩ : _ ∧ [y] = m := by simpa using e
      obtain ⟨rest, rfl⟩ := hm
      simp at hb
    | _ :: _ :: l, e =>
      obtain ⟨rfl, rfl, nil⟩ : x = _ ∧ y = _ ∧ [] = l ++ m := by simpa using e
      obtain ⟨rfl, rfl⟩ : l = [] ∧ m = [] := by simpa using nil.symm
      exact .inl hl.isInfix

/-- Moving a silence tick behind the MAG filter's expiry parts no neighbours that are none of the three. -/
theorem tickBehindMag_keeps_clock {l : List Instr} (h : clockEvents <:+: l) : clockEvents <:+: tickBehindMag l := by
  unfold tickBehindMag
  dsimp only
  split
  · exact h
  · next mag rest hm =>
    have hmag : mag = .sensorFilterExpiry .mag := by
      have := List.head_dropWhile_not (p := (· != Instr.sensorFilterExpiry .mag))
        (l := l.dropWhile (· != .deemedHoldExpiry)) (by rw [hm]; simp)
      simpa [hm] using this
    subst hmag
    have whole := split_at_hold_and_mag l
    rw [hm] at whole
    have hold : (l.dropWhile (· != .deemedHoldExpiry)).head? ≠ some .tcEdgeEvaluation := fun e => by
      have := List.head?_dropWhile_not (· != Instr.deemedHoldExpiry) l
      simp [e] at this
    rw [← List.takeWhile_append_dropWhile (p := (· != Instr.sensorFilterExpiry .mag))
      (l := l.dropWhile (· != .deemedHoldExpiry)), hm] at hold
    generalize l.takeWhile (· != .deemedHoldExpiry) = a at *
    generalize (l.dropWhile (· != .deemedHoldExpiry)).takeWhile (· != .sensorFilterExpiry .mag) = b at *
    rw [← whole] at h
    rcases pair_infix_append h hold with h | h
    · exact h.trans (List.prefix_append _ _).isInfix
    · refine List.IsInfix.trans ?_ (List.suffix_append _ _).isInfix
      rcases pair_infix_append h (by simp) with h | h
      · exact (h.filter (· != .silenceTick)).trans (List.prefix_append _ _).isInfix
      · refine List.IsInfix.trans ?_ (List.suffix_append _ _).isInfix
        rcases List.infix_cons_iff.mp h with h | h
        · simp at h
        · exact h.trans ((List.suffix_append _ _).trans (List.suffix_cons _ _)).isInfix

/-! ### The draw -/

theorem length_dueIf (b : Bool) (c : Instr) : (dueIf b c).flatten.length = (dueIf b c).length := by
  cases b <;> rfl

theorem length_clockDue (s : State) : (clockDue s).flatten.length =
    (clockDue s).length + if .tcEdgeEvaluation ∈ (clockDue s).flatten then 1 else 0 := by
  unfold clockDue
  (repeat' split) <;> simp_all

theorem length_vmainDue (s : State) : (vmainDue s).flatten.length = (vmainDue s).length := by
  unfold vmainDue
  split
  · split <;> exact length_dueIf _ _
  · rfl

theorem length_ite (p : Prop) [Decidable p] {l : List (List Instr)} (h : l.flatten.length = l.length) :
    (if p then l else []).flatten.length = (if p then l else []).length := by
  split
  · exact h
  · rfl

theorem length_activeDue (s : State) : (activeDue s).flatten.length = (activeDue s).length := by
  simp only [activeDue, List.flatten_append, List.length_append, length_dueIf]

/-- Every group of due events is one command but the clock's advance with the edge it reaches. -/
theorem length_dueGroups (s : State) : (dueGroups s).flatten.length =
    (dueGroups s).length + if .tcEdgeEvaluation ∈ (dueGroups s).flatten then 1 else 0 := by
  have edge : .tcEdgeEvaluation ∈ (dueGroups s).flatten ↔ .tcEdgeEvaluation ∈ (clockDue s).flatten := by
    rw [mem_dueGroups, mem_clockDue]; simp [State.due]
  have holdup : (holdupDue s).flatten.length = (holdupDue s).length := by
    simp only [holdupDue, List.flatten_append, List.length_append, length_dueIf]
  have coil : (coilDue s).flatten.length = (coilDue s).length := by
    simp only [coilDue, List.flatten_append, List.length_append, length_dueIf]
  simp only [edge]
  simp only [dueGroups, List.flatten_append, List.length_append, length_clockDue, length_vmainDue, coil,
    length_dueIf, length_ite _ (length_activeDue s), length_ite _ holdup]
  omega

theorem queueDue_free (s : State) :
    (queueDue s).free = if (dueGroups s).length ≤ 1 then s.free else s.free + 1 := by
  unfold queueDue
  split <;> rfl

theorem queueDue_free_by_pending (s : State) : (queueDue s).free =
    if (queueDue s).pending.length ≤ (if .tcEdgeEvaluation ∈ (queueDue s).pending then 2 else 1) then s.free
    else s.free + 1 := by
  have same := queueDue_perm s
  have length := length_dueGroups s
  simp only [queueDue_free, same.length_eq, same.mem_iff, length]
  congr 1
  split <;> simp

/-- The clock's group stays together in the queue. -/
theorem queueDue_keeps_clock {s : State} (h : clockEvents ∈ dueGroups s) : clockEvents <:+: (queueDue s).pending := by
  unfold queueDue
  split
  · exact List.infix_of_mem_flatten h
  · exact tickBehindMag_keeps_clock (List.infix_of_mem_flatten ((drawnOrder_perm _ _).mem_iff.mpr h))

/-- No silence tick falls between the hold's expiry and a MAG start (08 R135). -/
theorem queueDue_apart (s : State) :
    (queueDue s).pending.filter (· ∈ [.deemedHoldExpiry, .silenceTick, .sensorFilterExpiry .mag]) ≠
      [.deemedHoldExpiry, .silenceTick, .sensorFilterExpiry .mag] := by
  unfold queueDue
  split
  · next few =>
    intro h
    have length := length_dueGroups s
    have filtered := List.length_filter_le (· ∈ [Instr.deemedHoldExpiry, .silenceTick, .sensorFilterExpiry .mag])
      (dueGroups s).flatten
    rw [State.setPending_pending] at h
    rw [h, length] at filtered
    split at filtered <;> simp at filtered <;> omega
  · exact tickBehindMag_apart _

/-! ### The step -/

theorem queueDue_eq (s : State) :
    queueDue s = { s with free := (queueDue s).free, pending := (queueDue s).pending } := by
  unfold queueDue
  split <;> rfl

/-- The order in which events join changes nothing of what is due. -/
theorem queueDue_due (s : State) (c : Instr) : (queueDue s).due c ↔ s.due c := by
  rw [queueDue_eq]; rfl

theorem mem_pending_tick (s : State) (c : Instr) : c ∈ (tick s).pending ↔ (tick s).due c := by
  rw [tick, (queueDue_perm _).mem_iff, mem_dueGroups, queueDue_due]

theorem passMs_clock (s : State) (h : s.ps.power = .active ∨ s.ps.power = .holdup) :
    (passMs s).tc = { s.tc with phase := s.tc.phase + 4096 } ∧ (passMs s).ps.power = s.ps.power := by
  rcases h with h | h <;> simp [passMs, h, Tc.pass, Ps.pass]

/-- A completed second is the clock's advance, with the edge that it reaches behind it. -/
theorem tick_clock (s : State) (hp : s.ps.power = .active ∨ s.ps.power = .holdup)
    (full : 4096000 ≤ s.tc.phase + 4096) : .clockAdvance ∈ (tick s).pending ∧
      (s.clock < 4294967295 → (s.clock + 1) % 600 = 0 → [.clockAdvance, .tcEdgeEvaluation] <:+: (tick s).pending) := by
  obtain ⟨tc, power⟩ := passMs_clock s hp
  have runs : clockRuns (passMs s) ∧ phaseSecond ≤ (passMs s).tc.phase := by
    rw [clockRuns_iff, power, tc]; exact ⟨hp, full⟩
  refine ⟨?_, fun below edge => queueDue_keeps_clock ?_⟩
  · rw [tick, (queueDue_perm _).mem_iff, dueGroups_mem, mem_clockDue, power, tc]
    exact .inl ⟨⟨hp, full⟩, .inl rfl⟩
  · have clock : (passMs s).clock = s.clock := by simp [State.clock, tc]
    have due : clockDue (passMs s) = [clockEvents] := by
      rw [clockDue, if_pos runs, clock, if_pos ⟨below, edge⟩]; rfl
    simp [dueGroups, due]

/-- Settles O2. -/
theorem idleStepPassesOneMillisecond : Obligations.IdleStepPassesOneMillisecond := by
  intro s idle run filter tc coil ps hlc
  have next : step s = .next (tick s) := by simp [step, idle]
  have queued : tick s = { passMs s with free := (tick s).free, pending := (tick s).pending } := queueDue_eq _
  have free := queueDue_free_by_pending (passMs s)
  have drawn : (passMs s).free = s.free := by simp
  rw [drawn] at free
  refine ⟨tick s, next, ?active, ?holdup, ?dormant, ?shelf, ?off, mem_pending_tick s,
    (queueDue_perm _).nodup_iff.mpr (dueGroups_nodup _), tick_clock s, free, queueDue_apart _⟩
  all_goals
    intro power
    refine queued.trans ?_
    generalize (tick s).free = n
    generalize (tick s).pending = l
    simp only [passMs, power]
    rfl

end Sys2Proof.Machine
end

section
/-! The taking of a record (01 R8 to R10, 02 R16 to R34): the price of the Wh, the charge, the registers, the item. -/

namespace Sys2Proof.Machine

/-! ### The price of an item (02 R27, R28) -/

/-- The three blocks by the thresholds, the second of which counts only above the first (02 R27). -/
theorem blockAt_cases (t1 t2 w : Nat) :
    ((t1 = 0 ∨ w < t1) ∧ blockAt t1 t2 w = 0) ∨
    (0 < t1 ∧ t1 ≤ w ∧ (t1 < t2 → w < t2) ∧ blockAt t1 t2 w = 1) ∨
    (0 < t1 ∧ t1 ≤ w ∧ t1 < t2 ∧ t2 ≤ w ∧ blockAt t1 t2 w = 2) := by
  unfold blockAt
  (repeat' split) <;> simp <;> omega

theorem blockAt_second {t1 t2 w : Nat} (pos : 0 < t1) (above : t1 ≤ w) (below : t1 < t2 → w < t2) :
    blockAt t1 t2 w = 1 := by
  rcases blockAt_cases t1 t2 w with ⟨_, _⟩ | ⟨_, _, _, e⟩ | ⟨_, _, _, _, _⟩
  · omega
  · exact e
  · omega

theorem blockAt_third {t1 t2 w : Nat} (pos : 0 < t1) (two : t1 < t2) (above : t2 ≤ w) : blockAt t1 t2 w = 2 := by
  rcases blockAt_cases t1 t2 w with ⟨_, _⟩ | ⟨_, _, _, _⟩ | ⟨_, _, _, _, e⟩
  · omega
  · omega
  · exact e

section
variable (rates : PerBlock Nat) (t1 t2 w n : Nat)

/-- A Wh that ends below T1 costs the first rate. -/
theorem itemCost_succ_first (first : t1 = 0 ∨ w + n < t1) :
    itemCost rates t1 t2 w (n + 1) = itemCost rates t1 t2 w n + rates.k0 := by
  rcases first with single | first
  · simp [itemCost, belowT1, belowT2, blockAt, single, PerBlock.get, Nat.add_mul]
  · have a (k : Nat) (hk : k ≤ n + 1) : belowT1 t1 w k = k := by
      rw [belowT1, if_pos ⟨by omega, by omega⟩]; omega
    simp [itemCost, a n (by omega), a (n + 1) (by omega), belowT2, Nat.add_mul]

/-- Once T1 is reached, a Wh more leaves the part below it as it was. -/
theorem belowT1_reached (pos : 0 < t1) (above : t1 ≤ w + n) :
    belowT1 t1 w (n + 1) = belowT1 t1 w n ∧ belowT1 t1 w n ≤ n ∧ t1 ≤ w + belowT1 t1 w n := by
  refine ⟨?_, ?_, ?_⟩ <;> simp only [belowT1] <;> split <;> omega

theorem itemCost_succ_second (pos : 0 < t1) (above : t1 ≤ w + n) (below : t1 < t2 → w + n < t2) :
    itemCost rates t1 t2 w (n + 1) = itemCost rates t1 t2 w n + rates.k1 := by
  obtain ⟨same, le, reached⟩ := belowT1_reached t1 w n pos above
  simp only [itemCost, same]
  generalize belowT1 t1 w n = a at le reached ⊢
  by_cases two : t1 < t2
  · have b (k : Nat) (hk : k ≤ n + 1) : belowT2 t1 t2 (w + a) (k - a) = k - a := by
      rw [belowT2, if_pos ⟨pos, two, by omega⟩]; omega
    rw [b n (by omega), b (n + 1) (by omega), Nat.succ_sub le]
    simp [Nat.succ_mul]; omega
  · have b (k : Nat) : belowT2 t1 t2 (w + a) k = 0 := if_neg (by omega)
    have block : blockAt t1 t2 (w + a) = 1 := blockAt_second pos reached (by omega)
    simp only [b, Nat.sub_zero, Nat.add_zero, block, Nat.succ_sub le, PerBlock.get]
    simp [Nat.succ_mul]; omega

theorem itemCost_succ_third (pos : 0 < t1) (two : t1 < t2) (above : t2 ≤ w + n) :
    itemCost rates t1 t2 w (n + 1) = itemCost rates t1 t2 w n + rates.k2 := by
  obtain ⟨same, le, reached⟩ := belowT1_reached t1 w n pos (by omega)
  simp only [itemCost, same]
  generalize belowT1 t1 w n = a at le reached ⊢
  have sameB : belowT2 t1 t2 (w + a) (n + 1 - a) = belowT2 t1 t2 (w + a) (n - a) := by
    simp only [belowT2]; split <;> omega
  have reachedB : belowT2 t1 t2 (w + a) (n - a) ≤ n - a ∧ t2 ≤ w + a + belowT2 t1 t2 (w + a) (n - a) := by
    simp only [belowT2]; split <;> omega
  rw [sameB]
  generalize belowT2 t1 t2 (w + a) (n - a) = b at reachedB ⊢
  have block : blockAt t1 t2 (w + a + b) = 2 := blockAt_third pos two reachedB.2
  rw [block, show n + 1 - a - b = (n - a - b) + 1 by omega, Nat.succ_mul, ← Nat.add_assoc]
  rfl

/-- One Wh more costs the rate of the block in which it falls. -/
theorem itemCost_succ :
    itemCost rates t1 t2 w (n + 1) = itemCost rates t1 t2 w n + rates.get (blockAt t1 t2 (w + n)) := by
  rcases blockAt_cases t1 t2 (w + n) with ⟨first, here⟩ | ⟨pos, above, below, here⟩ | ⟨pos, _, two, third, here⟩
  · rw [here]; exact itemCost_succ_first rates t1 t2 w n first
  · rw [here]; exact itemCost_succ_second rates t1 t2 w n pos above below
  · rw [here]; exact itemCost_succ_third rates t1 t2 w n pos two third

@[simp] theorem itemCost_zero : itemCost rates t1 t2 w 0 = 0 := by
  simp [itemCost, belowT1, belowT2]

/-- The Wh of two items in a row cost what they cost as one item. -/
theorem itemCost_add (m : Nat) :
    itemCost rates t1 t2 w (m + n) = itemCost rates t1 t2 w m + itemCost rates t1 t2 (w + m) n := by
  induction n with
  | zero => simp
  | succ n ih => rw [← Nat.add_assoc, itemCost_succ, itemCost_succ, ih, Nat.add_assoc, Nat.add_assoc]

end

/-! ### The charge (04 R56, R57) -/

@[simp] theorem State.setAcct_acct (s : State) (a : Account) : (s.setAcct a).acct = a := rfl

/-- A recomputation leaves the money of the account (04 R66). -/
theorem recompute_money (origin : Origin) (s : State) :
    (recompute origin s).acct.balance = s.acct.balance ∧ (recompute origin s).acct.residue = s.acct.residue ∧
    (recompute origin s).acct.debt = s.acct.debt := by
  have decided : ∀ t : State, (decideCredit origin t).acct = t.acct := fun t => by
    simp only [decideCredit]
    (repeat' split) <;> simp [State.acct, State.holdCredit]
  have held : ∀ t : State, (holdCreditState t).acct.balance = t.acct.balance ∧
      (holdCreditState t).acct.residue = t.acct.residue ∧ (holdCreditState t).acct.debt = t.acct.debt := fun t => by
    simp only [holdCreditState]
    split
    · exact ⟨rfl, rfl, rfl⟩
    · exact ⟨rfl, rfl, rfl⟩
  rw [recompute, decided]
  exact held _

/-- A charge has been taken: the residue in µcents, and balance less debt in cents, have moved by it (04 R56, R57); the
balance keeps its floor, and debt has grown by no more than the charge. -/
structure Charged (s t : State) (cost : Nat) : Prop where
  params : t.params = s.params
  residue : t.acct.residue = (s.acct.residue + cost) % 1000000
  net : t.acct.balance - t.acct.debt = s.acct.balance - s.acct.debt - ((s.acct.residue + cost) / 1000000 : Nat)
  floor : floorOf s.params ≤ t.acct.balance
  debt : t.acct.debt ≤ s.acct.debt + (s.acct.residue + cost) / 1000000

theorem Charged.trans {s t u : State} {x y : Nat} (h : Charged s t x) (h' : Charged t u y) : Charged s u (x + y) := by
  obtain ⟨params, residue, net, floor, debt⟩ := h
  obtain ⟨params', residue', net', floor', debt'⟩ := h'
  have whole : (s.acct.residue + (x + y)) / 1000000 =
      (s.acct.residue + x) / 1000000 + (t.acct.residue + y) / 1000000 := by omega
  exact ⟨params'.trans params, by omega, by rw [whole]; push_cast at *; omega, by rwa [params] at floor', by omega⟩

/-- What holds of the account holds of states with the same account and parameters. -/
theorem Charged.of_same {s s' t t' : State} {x : Nat} (h : Charged s t x) (hs : s'.acct = s.acct)
    (hp : s'.params = s.params) (ht : t'.acct = t.acct) (hp' : t'.params = t.params) : Charged s' t' x := by
  obtain ⟨params, residue, net, floor, debt⟩ := h
  exact ⟨by rw [hp', params, hp], by rw [ht, residue, hs], by rw [ht, net, hs], by rw [hp, ht]; exact floor,
    by rw [ht, hs]; exact debt⟩

theorem Charged.none {s : State} (hr : s.acct.residue < 1000000) (hf : floorOf s.params ≤ s.acct.balance) :
    Charged s s 0 :=
  ⟨rfl, (Nat.mod_eq_of_lt hr).symm, by simp [Nat.div_eq_of_lt hr], hf, by omega⟩

/-- A debit that debt can hold leaves balance less debt short by its amount, wherever the floor cuts it (04 R57). -/
theorem debit_net (c : Nat) (s : State) (hf : floorOf s.params ≤ s.acct.balance)
    (hd : s.acct.debt + c ≤ 99999999) :
    (debit c s).acct.residue = s.acct.residue ∧
    (debit c s).acct.balance - (debit c s).acct.debt = s.acct.balance - s.acct.debt - c ∧
    floorOf s.params ≤ (debit c s).acct.balance ∧ (debit c s).acct.debt ≤ s.acct.debt + c := by
  have cut : s.acct.cutPart (floorOf s.params) c ≤ c := by
    simp only [Account.cutPart]; split <;> omega
  have kept : (s.acct.debited (floorOf s.params) c).debt = s.acct.debt ∧
      (s.acct.debited (floorOf s.params) c).residue = s.acct.residue := by
    simp only [Account.debited]; split <;> exact ⟨rfl, rfl⟩
  have balance : (s.acct.debited (floorOf s.params) c).balance =
      s.acct.balance - c + s.acct.cutPart (floorOf s.params) c ∧
      floorOf s.params ≤ (s.acct.debited (floorOf s.params) c).balance := by
    simp only [Account.debited, Account.cutPart]; split <;> simp <;> omega
  generalize hu : s.setAcct (s.acct.debited (floorOf s.params) c) = u
  have acct : u.acct = s.acct.debited (floorOf s.params) c := by rw [← hu]; rfl
  have room : u.acct.debt + s.acct.cutPart (floorOf s.params) c ≤ maxCents := by
    rw [acct, kept.1]; simp only [maxCents]; omega
  have added : (addDebt .debitCut (s.acct.cutPart (floorOf s.params) c) u).acct =
      { u.acct with debt := u.acct.debt + s.acct.cutPart (floorOf s.params) c } := by
    rw [addDebt, if_pos room]; rfl
  obtain ⟨b, r, d⟩ := recompute_money .ordinary (addDebt .debitCut (s.acct.cutPart (floorOf s.params) c) u)
  rw [debit, hu, b, r, d, added, acct]
  simp only [kept]
  refine ⟨trivial, ?_, balance.2, by omega⟩
  rw [balance.1]; push_cast; omega

theorem charge_charged (cost : Nat) (s : State) (hf : floorOf s.params ≤ s.acct.balance)
    (hd : s.acct.debt + (s.acct.residue + cost) / 1000000 ≤ 99999999) : Charged s (charge cost s) cost := by
  simp only [charge]
  split
  · next zero => exact ⟨rfl, rfl, by rw [zero]; simp, hf, by simp⟩
  · generalize hk : s.setAcct { s.acct with residue := (s.acct.residue + cost) % 1000000 } = kept
    have acct : kept.acct = { s.acct with residue := (s.acct.residue + cost) % 1000000 } := by rw [← hk]; rfl
    have params : kept.params = s.params := by rw [← hk]; rfl
    obtain ⟨residue, net, floor, debt⟩ := debit_net ((s.acct.residue + cost) / 1000000) kept
      (by rw [acct, params]; exact hf) (by rw [acct]; exact hd)
    exact ⟨by simp [params], by rw [residue, acct], by rw [net, acct], by rwa [params] at floor, by rwa [acct] at debt⟩

end Sys2Proof.Machine
end

section
/-! The taking of a record, continued: the registers, the item, the limiter. -/

namespace Sys2Proof.Machine

/-! ### The registers (02 R23 to R25) -/

/-- Two energies billed in a row are billed as their sum, in whole Wh and in the residue. -/
theorem Registers.billed_billed (x : Registers) (e f : Nat) : (x.billed e).billed f = x.billed (e + f) := by
  simp only [Registers.billed, Registers.mk.injEq, satAdd, wh, max48]
  refine ⟨by omega, trivial, trivial, by omega, by omega, trivial, trivial⟩

theorem Registers.carry_add (x : Registers) (e f : Nat) :
    x.carry (e + f) = x.carry e + (x.billed e).carry f := by
  simp only [Registers.carry, Registers.billed, wh]; omega

/-- Measuring a record touches the measured registers alone. -/
theorem Registers.measure_billed (x : Registers) (r : IntervalRecord) :
    (x.measure r).billedResidue = x.billedResidue ∧ (x.measure r).billedWh = x.billedWh ∧
    (x.measure r).cycleWh = x.cycleWh := ⟨rfl, rfl, rfl⟩

/-- Each phase's energy is measured by its sign (02 R24). -/
theorem Registers.measure_phase (x : Registers) (r : IntervalRecord) (p : Phase) :
    (x.measure r).importWh.get p =
      measuredWh (x.importWh.get p) (x.importResidue.get p) (importEnergy (r.p.get p) r.dur) ∧
    (x.measure r).importResidue.get p =
      measuredResidue (x.importResidue.get p) (importEnergy (r.p.get p) r.dur) ∧
    (x.measure r).exportWh.get p =
      measuredWh (x.exportWh.get p) (x.exportResidue.get p) (exportEnergy (r.p.get p) r.dur) ∧
    (x.measure r).exportResidue.get p =
      measuredResidue (x.exportResidue.get p) (exportEnergy (r.p.get p) r.dur) := by
  cases p <;> simp [Registers.measure, Registers.measurePhase]

/-! ### Billed energy (02 R23, R29) -/

theorem billEnergy_be (e : Nat) (s : State) : (billEnergy e s).be = { s.be with reg := s.be.reg.billed e } := by
  simp only [billEnergy]
  split <;> simp

/-- Less than a whole Wh carried out: the registers alone move. -/
theorem billEnergy_of_no_carry {e : Nat} {s : State} (h : s.be.reg.carry e = 0) :
    billEnergy e s = s.setBe { s.be with reg := s.be.reg.billed e } := if_pos h

theorem billEnergy_charged (e : Nat) (s : State) (hr : s.acct.residue < 1000000)
    (hf : floorOf s.params ≤ s.acct.balance)
    (hd : s.acct.debt + (s.acct.residue + energyCost e s) / 1000000 ≤ 99999999) :
    Charged s (billEnergy e s) (energyCost e s) := by
  by_cases carry : s.be.reg.carry e = 0
  · rw [billEnergy_of_no_carry carry, energyCost, carry, itemCost_zero]
    exact (Charged.none hr hf).of_same rfl rfl rfl rfl
  · simp only [billEnergy, carry, if_false]
    exact (charge_charged (energyCost e s) (s.setBe { s.be with reg := s.be.reg.billed e }) hf hd).of_same rfl rfl rfl rfl

/-- The cost of two energies in a row is that of their sum while CYCLE_WH does not saturate (02 R28). -/
theorem energyCost_add (e f : Nat) (s t : State) (hreg : t.be.reg = s.be.reg.billed e) (hp : t.params = s.params)
    (htc : t.tc = s.tc) (hw : s.be.reg.cycleWh + s.be.reg.carry (e + f) ≤ max48) :
    energyCost (e + f) s = energyCost e s + energyCost f t := by
  rw [Registers.carry_add] at hw
  have room : s.be.reg.cycleWh + s.be.reg.carry e ≤ max48 := by omega
  have cycle : (s.be.reg.billed e).cycleWh = s.be.reg.cycleWh + s.be.reg.carry e := Nat.min_eq_right room
  simp only [energyCost, hreg, hp, htc, cycle, Registers.carry_add, itemCost_add]

/-! ### The gap and the record (02 R22 to R34) -/

/-- What a gap and a record bill: their energy as one sum; the record's power is stored and the tick count is 0. -/
theorem billRecord_billGap_be (power m : Nat) (r : IntervalRecord) (s : State) :
    (billRecord power r (billGap m s)).be = { s.be with
      reg := (s.be.reg.billed (gapPower s * 250 * m + power * r.dur)).measure r, bLast := power, ticks := 0 } := by
  simp only [billRecord, State.setBe_be, billEnergy_be, billGap]
  split
  · next none => simp [none]
  · simp [billEnergy_be, Registers.billed_billed]

/-- What a gap and a record cost: the price of the Wh of their sum. -/
theorem billRecord_billGap_charged (power m : Nat) (r : IntervalRecord) (s : State) (hr : s.acct.residue < 1000000)
    (hf : floorOf s.params ≤ s.acct.balance)
    (hw : s.be.reg.cycleWh + s.be.reg.carry (gapPower s * 250 * m + power * r.dur) ≤ max48)
    (hd : s.acct.debt + (s.acct.residue + energyCost (gapPower s * 250 * m + power * r.dur) s) / 1000000 ≤ 99999999) :
    Charged s (billRecord power r (billGap m s)) (energyCost (gapPower s * 250 * m + power * r.dur) s) := by
  suffices billed : Charged s (billEnergy (power * r.dur) (billGap m s))
      (energyCost (gapPower s * 250 * m + power * r.dur) s) from billed.of_same rfl rfl rfl rfl
  by_cases none : m = 0
  · subst none
    simp only [Nat.mul_zero, Nat.zero_add, billGap, if_true] at hd ⊢
    exact billEnergy_charged (power * r.dur) s hr hf hd
  · rw [show billGap m s = billEnergy (gapPower s * 250 * m) s from if_neg none]
    generalize gapPower s * 250 * m = gap at hw hd ⊢
    have split := energyCost_add gap (power * r.dur) s (billEnergy gap s) (by simp [billEnergy_be]) (by simp) (by simp) hw
    rw [split] at hd ⊢
    have first := billEnergy_charged gap s hr hf (by omega)
    refine first.trans (billEnergy_charged (power * r.dur) (billEnergy gap s) ?_ (by simpa using first.floor) ?_)
    · rw [first.residue]; exact Nat.mod_lt _ (by decide)
    · have residue := first.residue
      have debt := first.debt
      omega

/-- Less than a whole Wh carried out in all: the switch is left alone. -/
theorem billRecord_billGap_sss (power m : Nat) (r : IntervalRecord) (s : State)
    (h : s.be.reg.billedResidue + (gapPower s * 250 * m + power * r.dur) < wh) :
    (billRecord power r (billGap m s)).sss = s.sss := by
  have small (e : Nat) (t : State) (lt : t.be.reg.billedResidue + e < wh) : (billEnergy e t).sss = t.sss := by
    rw [billEnergy_of_no_carry (Nat.div_eq_of_lt lt)]; rfl
  have record : (billRecord power r (billGap m s)).sss = (billEnergy (power * r.dur) (billGap m s)).sss := rfl
  rw [record]
  by_cases none : m = 0
  · rw [show billGap m s = s from if_pos none]
    exact small _ s (by omega)
  · rw [show billGap m s = billEnergy (gapPower s * 250 * m) s from if_neg none, small, small _ s (by omega)]
    have kept : (s.be.reg.billedResidue + gapPower s * 250 * m) % wh = s.be.reg.billedResidue + gapPower s * 250 * m :=
      Nat.mod_eq_of_lt (by omega)
    simp only [billEnergy_be, Registers.billed, kept]
    omega

/-! ### The observations leave all of BE but the runs (08 R136) -/

/-- BE apart from the counts of the record conditions. -/
def Be.apartFromRuns (x : Be) : Be := { x with runs := Runs.zero }

@[simp] theorem startCond_be_record (c : RecordCond) (measure : Option Int) (s : State) :
    (startCond c.cond measure s).be = s.be := by
  rw [startCond_be]; cases c <;> rfl

@[simp] theorem endCond_be_record (c : RecordCond) (s : State) : (endCond c.cond s).be = s.be := by
  rw [endCond_be]; cases c <;> rfl

@[simp] theorem setRun_be (s : State) (c : RecordCond) (n : Nat) :
    (s.setRun c n).be.apartFromRuns = s.be.apartFromRuns := rfl

@[simp] theorem setCondState_be (s : State) (c : CondId) (x : CondState) : (s.setCondState c x).be = s.be := rfl

theorem observe_be (o : Observation) (s : State) : (observe o s).be.apartFromRuns = s.be.apartFromRuns := by
  simp only [observe]
  (repeat' split) <;> simp

/-! ### The item (02 sections 2.1 and 2.6) -/

@[simp] theorem checkAt_gapPower (place here : Nat) (r : IntervalRecord) (s : State) :
    gapPower (checkAt place here r s) = gapPower s := by simp [gapPower]

theorem takeItem_be (place : Nat) (missing : Option Nat) (r : IntervalRecord) (s : State) :
    (takeItem place missing r s).be.apartFromRuns = Be.apartFromRuns { s.be with
      reg := (s.be.reg.billed
        (gapPower s * 250 * gapIntervals missing s.be.ticks + intervalPower s r * r.dur)).measure r
      bLast := intervalPower s r, ticks := 0 } := by
  simp only [takeItem, checkAt_frame]
  rw [foldl_keeps (fun t : State => t.be.apartFromRuns) _ (fun t x => observe_be x t)]
  simp [billRecord_billGap_be]

theorem takeItem_cl (place : Nat) (missing : Option Nat) (r : IntervalRecord) (s : State) :
    (takeItem place missing r s).cl = (billRecord (intervalPower s r) r
      (billGap (gapIntervals missing s.be.ticks) (checkAt place 0 r s))).cl := by
  simp only [takeItem, checkAt_frame]
  rw [foldl_keeps State.cl _ (fun t x => by simp)]
  simp

theorem takeItem_charged (place : Nat) (missing : Option Nat) (r : IntervalRecord) (s : State) (e : Nat)
    (he : e = gapPower s * 250 * gapIntervals missing s.be.ticks + intervalPower s r * r.dur)
    (hr : s.acct.residue < 1000000) (hf : floorOf s.params ≤ s.acct.balance)
    (hw : s.be.reg.cycleWh + s.be.reg.carry e ≤ max48)
    (hd : s.acct.debt + (s.acct.residue + energyCost e s) / 1000000 ≤ 99999999) :
    Charged s (takeItem place missing r s) (energyCost e s) := by
  have acct : (checkAt place 0 r s).acct = s.acct := by simp [State.acct]
  have cost : energyCost e (checkAt place 0 r s) = energyCost e s := by simp [energyCost]
  have charged := billRecord_billGap_charged (intervalPower s r) (gapIntervals missing s.be.ticks) r
    (checkAt place 0 r s)
  rw [checkAt_gapPower, ← he, cost, acct] at charged
  exact (charged hr (by simpa using hf) (by simpa using hw) hd).of_same acct.symm (by simp)
    (congrArg Cl.acct (takeItem_cl place missing r s)) (by simp)

/-! ### The limiter (07 R123 to R127) -/

theorem trip_ll (s : State) : (trip s).ll = { s.ll with
    overload := 0, watch := .off, window := none, reclose := .wait, recloseTimer := secondsTimer s.params.recloseS } := by
  simp [trip]

theorem lapseTest_ll (s : State) :
    (lapseTest s).ll = if s.ll.tempExpiry ≤ s.clock then { s.ll with tempLimit := 0 } else s.ll := by
  simp only [lapseTest]
  split <;> simp

/-- What an offer leaves of the limiter depends on the limiter, the parameters, the clock and the contactor. -/
theorem offerLoad_ll_congr (power : Nat) {s t : State} (hll : t.ll = s.ll) (hp : t.params = s.params)
    (htc : t.tc = s.tc) (hsss : t.sss = s.sss) : (offerLoad power t).ll = (offerLoad power s).ll := by
  have lapse : (lapseTest t).ll = (lapseTest s).ll := by
    simp only [lapseTest_ll, State.clock, hll, htc]
    rfl
  have compare : (compareLoad power (lapseTest t)).ll = (compareLoad power (lapseTest s)).ll := by
    simp only [compareLoad, State.limit, lapse, lapseTest_frame, hp]
    (repeat' split) <;> simp [trip_ll, hp]
  simp only [offerLoad, lapseTest_frame, hsss, watchLoad, lapse]
  split
  · split <;> simp [lapse, compare]
  · simp

/-- With no check due and no whole Wh carried out, the limiter is left as the offer leaves it. -/
theorem takeItem_ll (missing : Option Nat) (r : IntervalRecord) (s : State)
    (h : s.be.reg.billedResidue +
      (gapPower s * 250 * gapIntervals missing s.be.ticks + intervalPower s r * r.dur) < wh) :
    (takeItem 4 missing r s).ll = (offerLoad (intervalPower s r) s).ll := by
  have unchecked : ∀ here, here < 4 → ∀ t, checkAt 4 here r t = t := fun here lt t => if_neg (by omega)
  simp only [takeItem, unchecked 0 (by decide), unchecked 1 (by decide), unchecked 2 (by decide),
    unchecked 3 (by decide)]
  rw [foldl_keeps State.ll _ (fun t x => by simp)]
  exact offerLoad_ll_congr _ (by simp) (by simp) (by simp) (billRecord_billGap_sss _ _ r s h)

/-! ### The take (01 R8 to R10) -/

/-- The state in which a record's item is taken: LOADV read, MLI's record handed over, free values drawn. -/
def State.handedOver (s : State) (loadv : PerPhase Bool) (r : IntervalRecord) (free : Nat) : State :=
  ((s.setPins { s.pins with loadv := loadv }).setMli (s.mli.taken r)).setFree free

/-- A take in ACTIVE is the item of the head record; with the position verified no check is due. -/
theorem recordTake_eq {s : State} {r : IntervalRecord} {rest : List IntervalRecord} (loadv : PerPhase Bool)
    (ha : s.ps.power = .active) (hq : s.mli.queue = r :: rest) :
    ∃ place free, recordTake loadv s = takeItem place (s.mli.missing r) r (s.handedOver loadv r free) ∧
      (s.sss.verified ≠ .unknown → place = 4) := by
  simp only [recordTake, ha, hq]
  split
  · next due =>
    refine ⟨_, _, rfl, fun verified => absurd due ?_⟩
    simp [checkDue, Sss.unverified, verified]
  · exact ⟨4, _, rfl, fun _ => rfl⟩

/-- Settles O45: the item bills the gap and the record as one energy, whose Wh are priced together. -/
theorem recordIsBilled : Obligations.RecordIsBilled := by
  intro s loadv r rest ha hq missing gap e cost
  obtain ⟨place, free, take, unchecked⟩ := recordTake_eq loadv ha hq
  generalize hu : s.handedOver loadv r free = u at take
  generalize hx : gapPower u * 250 * gapIntervals (s.mli.missing r) u.be.ticks + intervalPower u r * r.dur = x
  have params : u.params = s.params := by rw [← hu]; rfl
  have be : u.be = s.be := by rw [← hu]; rfl
  have power : intervalPower u r = intervalPower s r := by rw [← hu]; rfl
  have gaps : gapIntervals (s.mli.missing r) s.be.ticks = missing - s.be.ticks := by
    simp only [missing, Mli.missing]
    split <;> simp [gapIntervals]
  have energy : e = s.be.reg.billedResidue + x := by
    have deemed : gapPower u = if s.tm.deemed then max s.be.bLast s.params.deemedW else s.be.bLast := by rw [← hu]; rfl
    have order : gap = gapPower u * 250 * gapIntervals (s.mli.missing r) u.be.ticks := by
      rw [be, gaps, deemed]
      simp only [gap]
      ring
    rw [← hx, ← order, power, ← Nat.add_assoc]
  have billed := takeItem_be place (s.mli.missing r) r u
  rw [hx, be, power, ← take] at billed
  have reg : (recordTake loadv s).be.reg = (s.be.reg.billed x).measure r := congrArg Be.reg billed
  have tickTimer : (recordTake loadv s).be.tickTimer = s.be.tickTimer := (congrArg Be.tickTimer billed :)
  obtain ⟨_, mli, _, _, _, pins, _, _⟩ := takeItem_frame place (s.mli.missing r) r u
  rw [← take, ← hu] at mli pins
  have paid : cost = energyCost x u := by
    simp only [cost, energy]; rw [← hu]; rfl
  refine ⟨recordTake loadv s, rfl, ?_, ?_, ?_, ?_, ?_, congrArg Be.bLast billed, congrArg Be.ticks billed,
    tickTimer, ?_, ?_, by simp, by simp, by simp, by simp, pins⟩
  · rw [mli]
    simp [State.handedOver, Mli.taken, hq]
  · rw [reg, energy]; rfl
  · rw [reg, energy]; rfl
  · rw [reg, energy]; rfl
  · intro p
    obtain ⟨importWh, importResidue, exportWh, exportResidue⟩ := (s.be.reg.billed x).measure_phase r p
    rw [reg, importWh, importResidue, exportWh, exportResidue]
    exact ⟨rfl, rfl, rfl, rfl⟩
  · intro _ residue cycle floor debt
    have acct : u.acct = s.acct := by rw [← hu]; rfl
    have charged := takeItem_charged place (s.mli.missing r) r u x hx.symm
    rw [acct, be, params, ← paid, ← take] at charged
    rw [energy] at cycle
    have done := charged residue floor cycle debt
    exact ⟨by rw [done.residue, acct], by rw [done.net, acct]⟩
  · intro verified small
    rw [take, unchecked verified, takeItem_ll (s.mli.missing r) r u (by rw [hx, be, ← energy]; exact small), power]
    refine offerLoad_ll_congr _ ?_ params ?_ ?_ <;> rw [← hu] <;> rfl
end Sys2Proof.Machine
end

section
/-! Prices and powers (02 R18 to R28): the split form against one Wh at a time, the interval billed power. -/

namespace Sys2Proof.Machine

/-! ### The cost of an item, Wh by Wh (02 R27, R28) -/

/-- The rate of a block by the thresholds, written out (02 R27). -/
theorem rate_blockAt (rates : PerBlock Nat) (t1 t2 w : Nat) : rates.get (blockAt t1 t2 w) =
    if t1 = 0 ∨ w < t1 then rates.k0 else if t1 < t2 ∧ t2 ≤ w then rates.k2 else rates.k1 := by
  rcases blockAt_cases t1 t2 w with ⟨first, here⟩ | ⟨pos, above, below, here⟩ | ⟨pos, above, two, third, here⟩
  · rw [here, if_pos first]; rfl
  · rw [here, if_neg (by omega), if_neg (by omega)]; rfl
  · rw [here, if_neg (by omega), if_pos ⟨two, third⟩]; rfl

/-- Settles O19, by induction on the number of Wh: one more costs the rate of the block in which it falls. -/
theorem splitCostIsTheSumPerWh : Obligations.SplitCostIsTheSumPerWh := by
  intro rates t1 t2 w n
  induction n with
  | zero => simp
  | succ n ih => rw [itemCost_succ, ih, rate_blockAt, List.range_succ, List.map_append, List.sum_append,
      List.map_singleton, List.sum_singleton]

/-! ### The interval billed power (02 R18 to R21) -/

/-- The base power under the three policies (02 R18). -/
theorem basePower_eq (policy : Nat) (p : Int) : basePower policy p =
    if policy = 0 then |p| else if policy = 1 then (if 0 ≤ p then p else 0) else p := by
  match policy with
  | 0 => exact Int.natCast_natAbs p
  | 1 => exact max_def 0 p
  | n + 2 => rfl

theorem basePower_range (policy : Nat) (p : Int) (low : -32000 ≤ p) (high : p ≤ 32000) :
    -32000 ≤ basePower policy p ∧ basePower policy p ≤ 32000 ∧ (policy ≤ 1 → 0 ≤ basePower policy p) := by
  match policy with
  | 0 => simp only [basePower]; omega
  | 1 => simp only [basePower]; omega
  | n + 2 => simp only [basePower]; omega

theorem substitutePower_le (vNom i : Nat) (hv : vNom ≤ 300) (hi : i ≤ 100000) : substitutePower vNom i ≤ 30000 :=
  Nat.div_le_of_le_mul (by calc
    vNom * i ≤ 300 * 100000 := Nat.mul_le_mul hv hi
    _ = 1000 * 30000 := rfl)

/-- The billed power of a phase lies in the range of its base power: a substitute power is at most 30,000 W. -/
theorem phaseBilled_range (s : State) (r : IntervalRecord) (p : Phase) (hv : s.params.vNom ≤ 300)
    (low : -32000 ≤ r.p.get p) (high : r.p.get p ≤ 32000) (hi : r.i.get p ≤ 100000) :
    -32000 ≤ phaseBilled s r p ∧ phaseBilled s r p ≤ 32000 ∧ (s.params.dirPolicy ≤ 1 → 0 ≤ phaseBilled s r p) := by
  obtain ⟨baseLow, baseHigh, basePos⟩ := basePower_range s.params.dirPolicy (r.p.get p) low high
  have substitute := substitutePower_le s.params.vNom (r.i.get p) hv hi
  simp only [phaseBilled, billedPhase]
  split
  · exact ⟨le_max_of_le_left baseLow, max_le baseHigh (by omega), fun h => le_max_of_le_left (basePos h)⟩
  · exact ⟨baseLow, baseHigh, basePos⟩

/-- Settles O17: the ranges of the phases add up, and DEEMED_W lies within their sum's. -/
theorem intervalPowerIsTheFlooredSum : Obligations.IntervalPowerIsTheFlooredSum := by
  intro s r hv hpolicy hdeemed hr base substitute billed sum
  have hbase : ∀ p, base p = basePower s.params.dirPolicy (r.p.get p) := fun p => (basePower_eq _ _).symm
  have hbilled : ∀ p, phaseBilled s r p = billed p := fun p => by
    simp only [phaseBilled, billedPhase, billed, hbase]; rfl
  have range : ∀ p, -32000 ≤ billed p ∧ billed p ≤ 32000 ∧ (s.params.dirPolicy ≤ 1 → 0 ≤ billed p) := fun p =>
    hbilled p ▸ phaseBilled_range s r p hv (hr p).1 (hr p).2.1 (hr p).2.2
  have power : intervalPower s r = if s.tm.deemed then max sum.toNat s.params.deemedW else sum.toNat := by
    simp only [intervalPower, atLeastDeemed, hbilled]; rfl
  have hsum : sum = billed .p1 + billed .p2 + billed .p3 := rfl
  obtain ⟨low1, high1, pos1⟩ := range .p1
  obtain ⟨low2, high2, pos2⟩ := range .p2
  obtain ⟨low3, high3, pos3⟩ := range .p3
  refine ⟨fun p => ?_, fun deemed => ?_, fun deemed => ?_, ?_, fun h => ?_, fun _ => ?_⟩
  · obtain ⟨low, high, pos⟩ := basePower_range s.params.dirPolicy (r.p.get p) (hr p).1 (hr p).2.1
    exact ⟨hbilled p, substitutePower_le _ _ hv (hr p).2.2, hbase p ▸ low, hbase p ▸ high, hbase p ▸ pos⟩
  · rw [power, deemed, if_neg Bool.false_ne_true]; omega
  · rw [power, deemed, if_pos rfl]; omega
  · rw [power]; split <;> omega
  · have := pos1 h; have := pos2 h; have := pos3 h; omega
  · omega

end Sys2Proof.Machine
end

section
/-! The four requests that report registers (02 R38, 03 R54, 04 R74, 12 R181): each is answered at once, and its reply
is read field by field from the front. -/

namespace Sys2Proof.Machine

/-! ### Requests of a ready link -/

/-- A reply made on a ready link is begun at once, and nothing else moves. -/
theorem handReply_of_ready {s : State} (hs : s.ready) (r : Reply) : handReply r s = s.replying r := by
  obtain ⟨-, slot, sending⟩ := hs
  have sent : s.hlc.handReply r = { s.hlc with sending := some r } := by
    simp only [Hlc.handReply, Hlc.transmit, sending, ← slot]
  rw [handReply, sent]; rfl

/-- A request that passes its checks on a ready link is executed (12 R180). -/
theorem takeFrame_of_ready {s : State} (hs : s.ready) {kind : Byte} {payload : List Byte}
    (fits : payload.length ≤ 63) (request : kind.toNat < 0x80) (passes : refusal kind payload s.ps.power = none) :
    takeFrame kind payload s = runRequest kind payload s := by
  obtain ⟨served, slot, -⟩ := hs
  simp [takeFrame, frameDelivered, takeRequest, served, fits, request, slot, passes]

/-- A request that asks for a report alone is answered with it. -/
theorem takeFrame_report {s : State} (hs : s.ready) {kind : Byte} (result : List Byte) (request : kind.toNat < 0x80)
    (passes : refusal kind [] s.ps.power = none) (run : runRequest kind [] s = replyOk kind result s) :
    takeFrame kind [] s = s.replying (replyTo kind .ok result) := by
  rw [takeFrame_of_ready hs (payload := []) (Nat.zero_le 63) request passes, run, replyOk, handReply_of_ready hs]

/-! ### Fields -/

/-- The two flags of a ledger reply, read back from their byte. -/
theorem ledgerFlags (x y : Bool) :
    (bitField [x, y] % 256 ^ 1).testBit 0 = x ∧ (bitField [x, y] % 256 ^ 1).testBit 1 = y := by
  cases x <;> cases y <;> decide

/-- A credit state is sent as its place in the list of 12 R181. -/
theorem CreditState.number_sent (c : CreditState) :
    c.number % 256 ^ 1 = [CreditState.inCredit, .low, .offer, .emergency, .exhausted, .floor].idxOf c := by
  cases c <;> rfl

/-- The block in force, written out (02 R27). -/
theorem blockInForce_eq (s : State) : s.blockInForce =
    if s.params.t1 = 0 ∨ s.be.reg.cycleWh < s.params.t1 * 1000 then 0
    else if s.params.t1 < s.params.t2 ∧ s.params.t2 * 1000 ≤ s.be.reg.cycleWh then 2 else 1 := by
  have h := blockAt_cases s.params.t1Wh s.params.t2Wh s.be.reg.cycleWh
  simp only [Params.t1Wh, Params.t2Wh] at h
  rcases h with ⟨first, here⟩ | ⟨pos, above, below, here⟩ | ⟨pos, above, two, third, here⟩
  · exact here.trans (if_pos (by omega)).symm
  · exact here.trans (by rw [if_neg (by omega), if_neg (by omega)])
  · exact here.trans (by rw [if_neg (by omega), if_pos (by omega)])

theorem register_sent {x : Nat} (h : x ≤ max48) : x % 256 ^ 6 = x :=
  Nat.mod_eq_of_lt (lt_of_le_of_lt h (by decide))

theorem bool_sent (b : Bool) : b.toNat % 256 ^ 1 = b.toNat := by cases b <;> rfl

/-- Settles O23: each reply is walked from its front, and what the state's ranges let fit is read back. -/
theorem registersAreReported : Obligations.RegistersAreReported := by
  intro s hs
  refine ⟨fun params sound low high crIn crRecovered crCharged crRaised crDeferred => ?_,
    fun phases billed cycle last => ?_, fun rates cycle => ?_, fun clock trim => ?_⟩
  · obtain ⟨floor, top, residue, debt, -⟩ := sound
    obtain ⟨eAllow, fAllow⟩ := params.allowances
    obtain ⟨available, accepted⟩ := ledgerFlags s.acct.available s.acct.accepted
    have acct : s.cl.acct = s.acct := rfl
    have floorLow : -130000 ≤ floorOf s.params ∧ floorOf s.params ≤ 0 := by simp only [floorOf]; omega
    simp only [maxCents] at top debt
    refine ⟨_, congrArg Host.Outcome.next (takeFrame_report hs (ledgerReply s) (by decide) rfl rfl), rfl, ?_⟩
    simp (disch := decide) only [replyTo, ledgerReply, acct, bytesOfInt, List.append_assoc, fieldAt_cons,
      fieldAt_head, fieldAt_skip, fieldAt_here, fieldAt_last, Nat.reduceSub]
    exact ⟨by simp, rfl, signedOf_mod _ (by omega) (by omega), signedOf_mod _ (by omega) (by omega),
      Nat.mod_eq_of_lt (by omega), Nat.mod_eq_of_lt (by omega), available, accepted, s.acct.state.number_sent,
      signedOf_mod _ (by omega) (by omega), register_sent crIn, register_sent crRecovered, register_sent crCharged,
      register_sent crRaised, register_sent crDeferred⟩
  · refine ⟨_, congrArg Host.Outcome.next (takeFrame_report hs (energyReply s) (by decide) rfl rfl), rfl, ?_⟩
    simp (disch := decide) only [replyTo, energyReply, List.append_assoc, fieldAt_cons, fieldAt_head, fieldAt_skip,
      fieldAt_here, fieldAt_last, Nat.reduceSub]
    exact ⟨by simp, rfl, register_sent billed, register_sent cycle, register_sent (phases .p1).1,
      register_sent (phases .p2).1, register_sent (phases .p3).1, register_sent (phases .p1).2,
      register_sent (phases .p2).2, register_sent (phases .p3).2, Nat.mod_eq_of_lt (by omega)⟩
  · have rate : s.rateInForce ≤ 100000000 := rates _ _
    refine ⟨_, congrArg Host.Outcome.next (takeFrame_report hs (tariffReply s) (by decide) rfl rfl), rfl, ?_⟩
    simp (disch := decide) only [replyTo, tariffReply, List.append_assoc, fieldAt_cons, fieldAt_head, fieldAt_skip,
      fieldAt_here, fieldAt_last, Nat.reduceSub, ← blockInForce_eq]
    exact ⟨by simp, rfl, Nat.mod_eq_of_lt (by omega), Nat.mod_eq_of_lt (by omega), Nat.mod_eq_of_lt (by omega),
      bool_sent _, Nat.mod_eq_of_lt (by omega)⟩
  · refine ⟨_, congrArg Host.Outcome.next (takeFrame_report hs (timeReply s) (by decide) rfl rfl), rfl, ?_⟩
    simp (disch := decide) only [replyTo, timeReply, dayOf, weekdayOf, minuteOfDay, secondOfDay, Tc.remaining,
      List.append_assoc, fieldAt_cons, fieldAt_head, fieldAt_skip, fieldAt_here, fieldAt_last, Nat.reduceSub]
    exact ⟨by simp, rfl, Nat.mod_eq_of_lt (by omega), bool_sent _, Nat.mod_eq_of_lt (by omega),
      Nat.mod_eq_of_lt (by omega), Nat.mod_eq_of_lt (by omega), Nat.mod_eq_of_lt (by omega)⟩

end Sys2Proof.Machine
end

section
/-! The silence tick (02 R32, R33) and what a charge leaves of the account (04 R56, R57, R66). -/

namespace Sys2Proof.Machine

/-! ### The account after a recomputation and a charge -/

@[simp] theorem decideCredit_acct (origin : Origin) (s : State) : (decideCredit origin s).acct = s.acct := by
  simp only [decideCredit]
  (repeat' split) <;> simp [State.acct, State.holdCredit]

/-- The account a recomputation leaves: its flags, then its state (04 R66). -/
def Account.settled (a : Account) (p : Params) : Account :=
  { a.withFlags p with state := creditStateOf p (a.withFlags p) }

theorem recompute_acct (origin : Origin) (s : State) : (recompute origin s).acct = s.acct.settled s.params := by
  have held : ∀ t : State, (holdCreditState t).acct = { t.acct with state := creditStateOf t.params t.acct } :=
    fun t => by
    simp only [holdCreditState]
    split
    · next same => rw [same]
    · rfl
  rw [recompute, decideCredit_acct, held]
  rfl

/-- The credit state is that of the account it stands in: it does not depend on itself (04 R67). -/
theorem Account.settled_state (a : Account) (p : Params) : (a.settled p).state = creditStateOf p (a.settled p) := rfl

/-- An addition to debt stops at the greatest debt (04 R58). -/
theorem addDebt_acct (cause : DebtCause) (x : Nat) (s : State) : ∃ noted, (addDebt cause x s).acct =
    { s.acct with debt := min maxCents (s.acct.debt + x), satNoted := noted } := by
  simp only [addDebt]
  split
  · next fits => exact ⟨s.acct.satNoted, by rw [Nat.min_eq_right fits]; rfl⟩
  · next full =>
    refine ⟨true, ?_⟩
    rw [Nat.min_eq_left (by omega)]
    split <;> rfl

/-- A charge of less than a cent moves the residue alone (04 R56). -/
theorem charge_acct_of_no_cent (cost : Nat) (s : State) (h : (s.acct.residue + cost) / 1000000 = 0) :
    (charge cost s).acct = { s.acct with residue := (s.acct.residue + cost) % 1000000 } := by
  simp only [charge, if_pos h]; rfl

/-- A debit goes down to the floor, its cut part joins debt, and a recomputation follows (04 R57). -/
theorem debit_acct (c : Nat) (s : State) : ∃ noted, (debit c s).acct = Account.settled
    { s.acct.debited (floorOf s.params) c with
      debt := min maxCents (s.acct.debt + s.acct.cutPart (floorOf s.params) c), satNoted := noted } s.params := by
  obtain ⟨noted, added⟩ := addDebt_acct .debitCut (s.acct.cutPart (floorOf s.params) c)
    (s.setAcct (s.acct.debited (floorOf s.params) c))
  have debt : (s.acct.debited (floorOf s.params) c).debt = s.acct.debt := by
    simp only [Account.debited]; split <;> rfl
  refine ⟨noted, ?_⟩
  rw [debit, recompute_acct, added, State.setAcct_acct, debt, (addDebt_frame _ _ _).1]
  rfl

/-- What a charge of c cents leaves: a debit of c cents with the residue of the sum in µcents (04 R56). -/
theorem charge_acct (cost : Nat) (s : State) (h : 0 < (s.acct.residue + cost) / 1000000) :
    ∃ noted, (charge cost s).acct = Account.settled
      { s.acct.debited (floorOf s.params) ((s.acct.residue + cost) / 1000000) with
        residue := (s.acct.residue + cost) % 1000000
        debt := min maxCents
          (s.acct.debt + s.acct.cutPart (floorOf s.params) ((s.acct.residue + cost) / 1000000))
        satNoted := noted } s.params := by
  obtain ⟨noted, debited⟩ := debit_acct ((s.acct.residue + cost) / 1000000)
    (s.setAcct { s.acct with residue := (s.acct.residue + cost) % 1000000 })
  refine ⟨noted, ?_⟩
  simp only [charge, if_neg (Nat.ne_of_gt h)]
  rw [debited]
  simp only [State.setAcct_acct, (State_setAcct_frame _ _).1, Account.debited, Account.cutPart]
  split <;> rfl

/-! ### The tick (02 R32, R33) -/

/-- The state in which a tick's energy is billed: counted, its timer started again. -/
def tickCounted (s : State) : State := s.setBe { s.be with tickTimer := some 250, ticks := satAdd 255 s.be.ticks 1 }

theorem silenceTick_of_due {s : State} (active : s.ps.power = .active) (lost : (s.cond .linkloss).state = .active)
    (due : s.be.tickTimer = some 0) : silenceTick s = billEnergy (gapPower s * 250) (tickCounted s) := by
  simp [silenceTick, active, lost, due, timerDue, tickCounted]

/-- A whole Wh carried out is charged, at the price of the state as it was (02 R29). -/
theorem billEnergy_acct {e : Nat} {s : State} (h : 0 < s.be.reg.carry e) :
    ∃ u : State, (billEnergy e s).acct = (charge (energyCost e s) u).acct ∧ u.acct = s.acct ∧ u.params = s.params :=
  ⟨s.setBe { s.be with reg := s.be.reg.billed e }, by rw [billEnergy, if_neg (Nat.ne_of_gt h)], rfl, rfl⟩

theorem Account.debited_within {a : Account} {floor : Int} {c : Nat} (h : floor ≤ a.balance - c) :
    a.debited floor c = { a with balance := a.balance - c, crCharged := satAdd max48 a.crCharged c } ∧
    a.cutPart floor c = 0 := ⟨if_pos h, if_pos h⟩

theorem Account.debited_cut {a : Account} {floor : Int} {c : Nat} (h : a.balance - c < floor) :
    a.debited floor c = { a with
      balance := floor
      crCharged := satAdd max48 a.crCharged (a.balance - floor).toNat
      crDeferred := satAdd max48 a.crDeferred (c - (a.balance - floor).toNat) } ∧
    a.cutPart floor c = c - (a.balance - floor).toNat := ⟨if_neg (by omega), if_neg (by omega)⟩

/-- Settles O46: the tick's energy is billed; with no whole Wh the registers alone move, else the ledger is charged,
below a cent, within the floor or cut at it. -/
theorem silenceTickIsBilled : Obligations.SilenceTickIsBilled := by
  intro s active lost due e n cost c
  have take : exec .silenceTick s = .next (billEnergy (gapPower s * 250) (tickCounted s)) :=
    congrArg Host.Outcome.next (silenceTick_of_due active lost due)
  have carry : (tickCounted s).be.reg.carry (gapPower s * 250) = n := rfl
  have price : energyCost (gapPower s * 250) (tickCounted s) = cost := rfl
  refine ⟨_, take, billEnergy_be _ _, fun none => ?_, fun whole => ?_, by simp [tickCounted]⟩
  · rw [billEnergy_of_no_carry (carry.trans none)]
    exact ⟨rfl, rfl, rfl⟩
  obtain ⟨u, charged, acct, params⟩ := billEnergy_acct (carry ▸ whole)
  rw [price] at charged
  replace acct : u.acct = s.acct := acct
  replace params : u.params = s.params := params
  have cents : (u.acct.residue + cost) / 1000000 = c := by rw [acct]
  by_cases cent : c = 0
  · rw [charged, charge_acct_of_no_cent cost u (cents.trans cent), acct]
    exact ⟨rfl, fun _ => ⟨rfl, rfl⟩, by omega, by omega, by omega⟩
  obtain ⟨noted, settled⟩ := charge_acct cost u (by omega)
  rw [cents, acct, params] at settled
  rw [charged, settled]
  refine ⟨rfl, fun none => absurd none cent, fun _ within debt => ?_, fun _ below floor debt => ?_,
    fun _ => Account.settled_state _ _⟩
  · obtain ⟨debited, uncut⟩ := Account.debited_within within
    rw [debited, uncut]
    exact ⟨rfl, Nat.min_eq_right debt, rfl, rfl⟩
  · obtain ⟨debited, cut⟩ := Account.debited_cut below
    rw [debited, cut]
    exact ⟨rfl, rfl, rfl, rfl⟩

end Sys2Proof.Machine
end

section
/-! Observations of a record (02 R35, 08 R136, R137): what one observation does to its own condition, to the others and
to the tamper log, and what the ten of a record do together. -/

namespace Sys2Proof.Machine

/-! ### The tamper log by place (09 R154 to R156) -/

theorem Tl.opened_keeps {x : Tl} {j : Nat} {z : TamperRecord} (hz : x.records[j]? = some z) (c : CondId) (start : Nat)
    (inHoldup valid : Bool) (a : Actions) (m : Option Int) :
    (x.opened c start inHoldup valid a m).records[j]? = some z := by
  simp only [Tl.opened]
  split
  · obtain ⟨lt, -⟩ := List.getElem?_eq_some_iff.mp hz
    exact (List.getElem?_append_left lt).trans hz
  · exact hz

/-- A measure reaches the ongoing records of its serial alone (09 R155). -/
theorem Tl.measure_at {x : Tl} {j : Nat} {z : TamperRecord} (hz : x.records[j]? = some z) (record : Ongoing) (m : Int) :
    (x.measure record m).records[j]? =
      some (if record = .serial z.serial ∧ z.stop = none then z.measured m else z) := by
  cases record <;> simp [Tl.measure, hz, eq_comm]

/-- An end reaches the ongoing records of its serial alone (09 R156). -/
theorem Tl.endOccurrence_at {x : Tl} {j : Nat} {z : TamperRecord} (hz : x.records[j]? = some z) (record : Ongoing)
    (stop : Nat) : (x.endOccurrence record stop).records[j]? =
      some (if record = .serial z.serial ∧ z.stop = none then { z with stop := some stop } else z) := by
  cases record <;> simp [Tl.endOccurrence, Tl.close, hz, eq_comm]

/-- Measures and ends give no serial out and neither add nor remove a record. -/
theorem Tl.measure_counts (x : Tl) (record : Ongoing) (m : Int) :
    (x.measure record m).records.length = x.records.length ∧ (x.measure record m).nextSerial = x.nextSerial ∧
    (x.measure record m).usedUp = x.usedUp := by
  cases record <;> simp [Tl.measure]

theorem Tl.endOccurrence_counts (x : Tl) (record : Ongoing) (stop : Nat) :
    (x.endOccurrence record stop).records.length = x.records.length ∧
    (x.endOccurrence record stop).nextSerial = x.nextSerial ∧
    (x.endOccurrence record stop).usedUp = x.usedUp := by
  cases record <;> simp [Tl.endOccurrence, Tl.close]

/-- Room for n records more, and serials for them (09 R154). -/
def Tl.RoomFor (x : Tl) (n : Nat) : Prop :=
  x.records.length + n ≤ 64 ∧ x.usedUp = false ∧ x.nextSerial + n ≤ 4294967295

theorem Tl.RoomFor.hasRoom {x : Tl} {n : Nat} (h : x.RoomFor (n + 1)) : x.hasRoom = true := by
  obtain ⟨records, unused, -⟩ := h
  exact x.hasRoom_iff.mpr ⟨by omega, unused⟩

theorem Tl.RoomFor.opened {x : Tl} {n : Nat} (h : x.RoomFor (n + 1)) (c : CondId) (start : Nat)
    (inHoldup valid : Bool) (a : Actions) (m : Option Int) : (x.opened c start inHoldup valid a m).RoomFor n := by
  rw [Tl.opened_of_room h.hasRoom]
  obtain ⟨records, -, serials⟩ := h
  refine ⟨?_, ?_, ?_⟩
  · simp only [Tl.append, List.length_append, List.length_singleton]; omega
  · simp only [Tl.append, beq_eq_false_iff_ne]; omega
  · simp only [Tl.append]; split <;> omega

theorem Tl.opened_nextSerial_le (x : Tl) (c : CondId) (start : Nat) (inHoldup valid : Bool) (a : Actions)
    (m : Option Int) : x.nextSerial ≤ (x.opened c start inHoldup valid a m).nextSerial := by
  simp only [Tl.opened, Tl.append]
  (repeat' split) <;> simp

theorem endCond_tl (c : CondId) (s : State) :
    (endCond c s).tl = s.tl.endOccurrence (s.cond c).ongoing s.clock := by
  simp [endCond]

/-! ### One observation -/

@[simp] theorem setRun_cond (s : State) (c : RecordCond) (n : Nat) (d : CondId) :
    (s.setRun c n).cond d = s.cond d := rfl

@[simp] theorem setRun_runs (s : State) (c : RecordCond) (n : Nat) : (s.setRun c n).be.runs = s.be.runs.set c n := rfl

@[simp] theorem setCondState_cond (s : State) (c d : CondId) (x : CondState) :
    (s.setCondState c x).cond d = if d = c then { s.cond c with state := x } else s.cond d := by
  simp [State.setCondState]

@[simp] theorem handObserved_cond (o : Observation) (s : State) (d : CondId) :
    (handObserved o s).cond d = s.cond d := by simp [State.cond]

@[simp] theorem Runs.get_set (t : Runs) (c d : RecordCond) (n : Nat) :
    (t.set c n).get d = if d = c then n else t.get d := by
  cases c <;> cases d <;> simp [Runs.set, Runs.get]

theorem RecordCond.cond_injective {c d : RecordCond} (h : c.cond = d.cond) : c = d := by
  cases c <;> cases d <;> simp_all [RecordCond.cond]

section
variable (o : Observation) (s : State)

/-- What an observation can do to the tamper log: nothing, a start's record, a measure, an end. -/
theorem observe_tl :
    (observe o s).tl = s.tl ∨
    (∃ inHoldup a, (observe o s).tl = s.tl.opened o.cond.cond s.clock inHoldup s.tc.clockValid a o.measure) ∨
    (∃ m, (observe o s).tl = s.tl.measure (s.cond o.cond.cond).ongoing m) ∨
    (observe o s).tl = s.tl.endOccurrence (s.cond o.cond.cond).ongoing s.clock := by
  simp only [observe]
  split
  · exact .inl (by simp)
  · exact .inl (by simp)
  · split
    · exact .inr (.inl ⟨_, _, startCond_tl _ _ _⟩)
    · exact .inl (by simp)
  · exact .inl (by simp)
  · simp only [handObserved]
    split
    · exact .inr (.inr (.inl ⟨_, rfl⟩))
    · exact .inl (by simp)
  · split
    · exact .inr (.inr (.inr (endCond_tl _ _)))
    · exact .inl (by simp)

/-- A record that the observed condition does not hold stays at its place. -/
theorem observe_keeps_record {j : Nat} {z : TamperRecord} (hz : s.tl.records[j]? = some z)
    (other : (s.cond o.cond.cond).ongoing ≠ .serial z.serial) : (observe o s).tl.records[j]? = some z := by
  rcases observe_tl o s with e | ⟨_, _, e⟩ | ⟨_, e⟩ | e
  · rw [e, hz]
  · rw [e, Tl.opened_keeps hz]
  · rw [e, Tl.measure_at hz, if_neg (by simp [other])]
  · rw [e, Tl.endOccurrence_at hz, if_neg (by simp [other])]

theorem observe_nextSerial_le : s.tl.nextSerial ≤ (observe o s).tl.nextSerial := by
  rcases observe_tl o s with e | ⟨_, _, e⟩ | ⟨_, e⟩ | e
  · rw [e]
  · rw [e]; exact Tl.opened_nextSerial_le _ _ _ _ _ _ _
  · rw [e, (Tl.measure_counts _ _ _).2.1]
  · rw [e, (Tl.endOccurrence_counts _ _ _).2.1]

/-- An observation takes the room of one record at most. -/
theorem observe_room {n : Nat} (h : s.tl.RoomFor (n + 1)) : (observe o s).tl.RoomFor n := by
  have less : s.tl.RoomFor n := by
    obtain ⟨records, unused, serials⟩ := h
    exact ⟨by omega, unused, by omega⟩
  rcases observe_tl o s with e | ⟨_, _, e⟩ | ⟨m, e⟩ | e
  · rw [e]; exact less
  · rw [e]; exact h.opened _ _ _ _ _ _
  · obtain ⟨records, serial, used⟩ := s.tl.measure_counts (s.cond o.cond.cond).ongoing m
    rw [e, Tl.RoomFor, records, serial, used]; exact less
  · obtain ⟨records, serial, used⟩ := s.tl.endOccurrence_counts (s.cond o.cond.cond).ongoing s.clock
    rw [e, Tl.RoomFor, records, serial, used]; exact less

/-- An observation touches its own condition and run counter alone. -/
theorem observe_cond_of_ne {d : CondId} (h : d ≠ o.cond.cond) : (observe o s).cond d = s.cond d := by
  simp only [observe]
  (repeat' split) <;> simp [h, startCond_cond, endCond_cond]

theorem observe_run_of_ne {c : RecordCond} (h : c ≠ o.cond) : (observe o s).be.runs.get c = s.be.runs.get c := by
  simp only [observe]
  (repeat' split) <;> simp [h]

end

/-! ### The filter of eight (08 R136) -/

section
variable {o : Observation} {s : State}

theorem observe_of_idle (hx : (s.cond o.cond.cond).state = .idle) : observe o s =
    if o.shows then (s.setRun o.cond 1).setCondState o.cond.cond .pending else s.setRun o.cond 0 := by
  cases hs : o.shows <;> simp [observe, hx, hs]

theorem observe_of_pending (hx : (s.cond o.cond.cond).state = .pending) : observe o s =
    if o.shows then
      if 7 ≤ s.be.runs.get o.cond then startCond o.cond.cond o.measure (s.setRun o.cond 0)
      else s.setRun o.cond (s.be.runs.get o.cond + 1)
    else (s.setRun o.cond 0).setCondState o.cond.cond .idle := by
  cases hs : o.shows <;> simp [observe, hx, hs]

theorem observe_of_active (hx : (s.cond o.cond.cond).state = .active) : observe o s =
    if o.shows then handObserved o (s.setRun o.cond 0)
    else if 7 ≤ s.be.runs.get o.cond then endCond o.cond.cond (s.setRun o.cond 0)
    else s.setRun o.cond (s.be.runs.get o.cond + 1) := by
  cases hs : o.shows <;> simp [observe, hx, hs]

/-- What one observation makes of a condition and its run counter, by the condition's state (08 R136). -/
structure Filtered (shows : Prop) (clock setting : Nat) (x y : Cond) (n m : Nat) : Prop where
  begins : x.state = .idle → shows → y = { x with state := .pending } ∧ m = 1
  rests : x.state = .idle → ¬shows → y = x ∧ m = 0
  waits : x.state = .pending → shows → n < 7 → y = x ∧ m = n + 1
  starts : x.state = .pending → shows → 7 ≤ n → y.state = .active ∧ y.latch = (x.latch || setting.testBit 2) ∧ m = 0
  drops : x.state = .pending → ¬shows → y = { x with state := .idle } ∧ m = 0
  goesOn : x.state = .active → shows → y = x ∧ m = 0
  fades : x.state = .active → ¬shows → n < 7 → y = x ∧ m = n + 1
  ends : x.state = .active → ¬shows → 7 ≤ n →
    y = { x with state := .idle, lastEnd := some clock, ongoing := .none } ∧ m = 0

theorem observe_filtered (o : Observation) (s : State) : Filtered (o.shows = true) s.clock
    (s.params.actions.get o.cond.cond.kind) (s.cond o.cond.cond) ((observe o s).cond o.cond.cond)
    (s.be.runs.get o.cond) ((observe o s).be.runs.get o.cond) where
  begins hx hs := by simp [observe_of_idle hx, hs]
  rests hx hs := by simp [observe_of_idle hx, hs]
  waits hx hs hn := by simp [observe_of_pending hx, hs, Nat.not_le.mpr hn]
  starts hx hs hn := by simp [observe_of_pending hx, hs, hn, startCond_cond, latchIn]
  drops hx hs := by simp [observe_of_pending hx, hs]
  goesOn hx hs := by simp [observe_of_active hx, hs]
  fades hx hs hn := by simp [observe_of_active hx, hs, Nat.not_le.mpr hn]
  ends hx hs hn := by simp [observe_of_active hx, hs, hn, endCond_cond, State.clock]

end

/-! ### The ten observations of a record (02 R35) -/

/-- The ten conditions decided from records, in the order of their observations (log 8). -/
def recordConds : List RecordCond :=
  [.neutral, .vloss .p1, .vloss .p2, .vloss .p3, .reverse .p1, .reverse .p2, .reverse .p3, .bypass .p1, .bypass .p2,
    .bypass .p3]

theorem recordConds_nodup : recordConds.Nodup := by decide

theorem mem_recordConds (c : RecordCond) : c ∈ recordConds := by
  cases c with
  | neutral => decide
  | vloss p | reverse p | bypass p => cases p <;> decide

/-- The observation of each condition that a record gives. -/
def observationOf (p : Params) (opened : Bool) (r : IntervalRecord) : RecordCond → Observation
  | .neutral => neutralObs p r
  | .vloss ph => vlossObs p r ph
  | .reverse ph => reverseObs p r ph
  | .bypass ph => bypassObs opened r ph

theorem observations_eq (p : Params) (opened : Bool) (r : IntervalRecord) :
    observations p opened r = recordConds.map (observationOf p opened r) := rfl

theorem observationOf_cond (p : Params) (opened : Bool) (r : IntervalRecord) (c : RecordCond) :
    (observationOf p opened r c).cond = c := by cases c <;> rfl

/-- Observations of a list of conditions, one after the other. -/
def observeAll (f : RecordCond → Observation) (l : List RecordCond) (s : State) : State :=
  l.foldl (fun t c => observe (f c) t) s

section
variable {f : RecordCond → Observation} (hf : ∀ c, (f c).cond = c) {l : List RecordCond} {s : State}

theorem observeAll_frame (f : RecordCond → Observation) (l : List RecordCond) (s : State) :
    (observeAll f l s).params = s.params ∧ (observeAll f l s).tc = s.tc ∧ (observeAll f l s).ps = s.ps :=
  ⟨foldl_keeps State.params _ (fun t c => by simp) l s, foldl_keeps State.tc _ (fun t c => by simp) l s,
    foldl_keeps State.ps _ (fun t c => by simp) l s⟩

theorem observeAll_nextSerial_le : s.tl.nextSerial ≤ (observeAll f l s).tl.nextSerial := by
  induction l generalizing s with
  | nil => exact le_rfl
  | cons c l ih => exact (observe_nextSerial_le (f c) s).trans ih

theorem observeAll_room {n : Nat} (h : s.tl.RoomFor (n + l.length)) : (observeAll f l s).tl.RoomFor n := by
  induction l generalizing s with
  | nil => exact h
  | cons c l ih => exact ih (observe_room (f c) s h)

include hf

theorem observeAll_apart {c : RecordCond} (hc : c ∉ l) : (observeAll f l s).cond c.cond = s.cond c.cond ∧
    (observeAll f l s).be.runs.get c = s.be.runs.get c := by
  induction l generalizing s with
  | nil => exact ⟨rfl, rfl⟩
  | cons d l ih =>
    obtain ⟨hd, hl⟩ := not_or.mp (mt List.mem_cons.mpr hc)
    obtain ⟨cond, run⟩ := ih (s := observe (f d) s) hl
    have ne : c.cond ≠ (f d).cond.cond := fun e => hd (RecordCond.cond_injective (e.trans (by rw [hf])))
    exact ⟨cond.trans (observe_cond_of_ne _ _ ne), run.trans (observe_run_of_ne _ _ (by rwa [hf]))⟩

/-- A record that none of the conditions observed holds stays at its place. -/
theorem observeAll_keeps_record (hl : l.Nodup) {j : Nat} {z : TamperRecord} (hz : s.tl.records[j]? = some z)
    (others : ∀ d ∈ l, (s.cond d.cond).ongoing ≠ .serial z.serial) : (observeAll f l s).tl.records[j]? = some z := by
  induction l generalizing s with
  | nil => exact hz
  | cons c l ih =>
    obtain ⟨hc, hl⟩ := List.nodup_cons.mp hl
    refine ih hl (observe_keeps_record (f c) s hz (by rw [hf]; exact others c (by simp))) fun d hd => ?_
    have ne : d.cond ≠ (f c).cond.cond := fun e => hc (RecordCond.cond_injective (e.trans (by rw [hf])) ▸ hd)
    rw [observe_cond_of_ne _ _ ne]
    exact others d (by simp [hd])

end

/-- A condition's observation among those of its record: u is the state that makes it, t the state after all ten. -/
structure Among (o : Observation) (s u t : State) : Prop where
  params : u.params = s.params
  tc : u.tc = s.tc
  ps : u.ps = s.ps
  cond : u.cond o.cond.cond = s.cond o.cond.cond
  run : u.be.runs.get o.cond = s.be.runs.get o.cond
  condAfter : t.cond o.cond.cond = (observe o u).cond o.cond.cond
  runAfter : t.be.runs.get o.cond = (observe o u).be.runs.get o.cond
  serials : s.tl.nextSerial ≤ u.tl.nextSerial
  room : s.tl.RoomFor 10 → u.tl.RoomFor 1
  before : ∀ (j : Nat) (z : TamperRecord), (∀ d, d ≠ o.cond.cond → (s.cond d).ongoing ≠ .serial z.serial) →
    s.tl.records[j]? = some z → u.tl.records[j]? = some z
  after : ∀ (j : Nat) (z : TamperRecord), (∀ d, d ≠ o.cond.cond → (s.cond d).ongoing ≠ .serial z.serial) →
    (observe o u).tl.records[j]? = some z → t.tl.records[j]? = some z

/-- Each condition is observed once, with observations of other conditions before it and behind it. -/
theorem observeAll_among {f : RecordCond → Observation} (hf : ∀ c, (f c).cond = c) (c : RecordCond) (s : State) :
    ∃ u, Among (f c) s u (observeAll f recordConds s) := by
  obtain ⟨pre, post, split⟩ := List.append_of_mem (mem_recordConds c)
  have nodup := recordConds_nodup
  rw [split, List.nodup_append, List.nodup_cons] at nodup
  obtain ⟨hpre, ⟨notPost, hpost⟩, disjoint⟩ := nodup
  have notPre : c ∉ pre := fun h => disjoint c h c (by simp) rfl
  have length : pre.length + (post.length + 1) = 10 := by
    rw [← List.length_cons (a := c), ← List.length_append, ← split]; rfl
  have all : observeAll f recordConds s = observeAll f post (observe (f c) (observeAll f pre s)) := by
    rw [split]; simp [observeAll]
  have apart (d : RecordCond) (h : d.cond ≠ c.cond) : (observe (f c) (observeAll f pre s)).cond d.cond =
      (observeAll f pre s).cond d.cond := observe_cond_of_ne _ _ (by rwa [hf])
  obtain ⟨params, tc, ps⟩ := observeAll_frame f pre s
  obtain ⟨cond, run⟩ := observeAll_apart hf (s := s) notPre
  obtain ⟨condAfter, runAfter⟩ := observeAll_apart hf (s := observe (f c) (observeAll f pre s)) notPost
  refine ⟨observeAll f pre s, params, tc, ps, ?_, ?_, ?_, ?_, observeAll_nextSerial_le, ?_, ?_, ?_⟩
  · rw [hf, cond]
  · rw [hf, run]
  · rw [hf, all, condAfter]
  · rw [hf, all, runAfter]
  · intro h
    obtain ⟨records, unused, serials⟩ := observeAll_room (f := f) (l := pre) (n := post.length + 1)
      (by rwa [Nat.add_comm, length])
    exact ⟨by omega, unused, by omega⟩
  · intro j z others hz
    refine observeAll_keeps_record hf hpre hz fun d hd => others d.cond fun e => notPre ?_
    rw [hf] at e
    exact RecordCond.cond_injective e ▸ hd
  · intro j z others hz
    rw [all]
    refine observeAll_keeps_record hf hpost hz fun d hd => ?_
    have ne : d ≠ c := fun e => notPost (e ▸ hd)
    have notMem : d ∉ pre := fun h => disjoint d h d (by simp [hd]) rfl
    have neCond : d.cond ≠ c.cond := fun e => ne (RecordCond.cond_injective e)
    rw [apart d neCond, (observeAll_apart hf notMem).1]
    exact others d.cond (by rwa [hf])

/-! ### The log at an observation (08 R137, 09 R154, R155) -/

/-- The record a start opens (08 R140). -/
def openedRecord (serial : Nat) (o : Observation) (s : State) : TamperRecord :=
  ⟨serial, o.cond.cond, s.clock, none, s.ps.power == .holdup, s.tc.clockValid,
    actionsOf (s.params.actions.get o.cond.cond.kind) o.cond.cond, o.measure⟩

section
variable {o : Observation} {s : State}

/-- A start's condition holds the serial of the record it has opened, where there is room for one. -/
theorem observe_opens (hx : (s.cond o.cond.cond).state = .pending) (hs : o.shows = true)
    (hn : 7 ≤ s.be.runs.get o.cond) : ((observe o s).cond o.cond.cond).ongoing =
      (if s.tl.hasRoom then .serial s.tl.nextSerial else .unrecorded) ∧
    (s.tl.hasRoom = true →
      (observe o s).tl.records[s.tl.records.length]? = some (openedRecord s.tl.nextSerial o s)) := by
  rw [observe_of_pending hx, if_pos hs, if_pos hn]
  refine ⟨by simp [startCond_cond], fun room => ?_⟩
  have opened := Tl.opened_of_room room o.cond.cond s.clock (s.ps.power == .holdup) s.tc.clockValid
    (actionsOf (s.params.actions.get o.cond.cond.kind) o.cond.cond) o.measure
  rw [startCond_tl]
  exact (congrArg (fun x : Tl => x.records[s.tl.records.length]?) opened).trans List.getElem?_concat_length

/-- What an observation of an ACTIVE condition makes of its ongoing record: the measure handed, the end
(09 R155, R156). -/
theorem observe_record {j : Nat} {z : TamperRecord} (hx : (s.cond o.cond.cond).state = .active)
    (held : (s.cond o.cond.cond).ongoing = .serial z.serial) (hz : s.tl.records[j]? = some z)
    (ongoing : z.stop = none) :
    (observe o s).tl.records[j]? = some
      (if o.shows then o.measure.elim z z.measured
       else if 7 ≤ s.be.runs.get o.cond then { z with stop := some s.clock } else z) := by
  rw [observe_of_active hx]
  split
  · simp only [handObserved]
    split
    · next m hm =>
      have reached := Tl.measure_at hz (s.cond o.cond.cond).ongoing m
      rw [if_pos ⟨held, ongoing⟩] at reached
      rw [hm]; exact reached
    · next hm => rw [hm]; exact hz
  · split
    · rw [endCond_tl]
      have reached := Tl.endOccurrence_at hz (s.cond o.cond.cond).ongoing s.clock
      rw [if_pos ⟨held, ongoing⟩] at reached
      exact reached
    · exact hz

end

/-- The worse of two measures of a record-based condition: the most negative power for REVERSE, else the greatest; VLOSS
has none (09 R155). -/
def RecordCond.worse : RecordCond → Int → Int → Int
  | .neutral, held, new => max held new
  | .vloss _, held, _ => held
  | .reverse _, held, new => min held new
  | .bypass _, held, new => max held new

theorem TamperRecord.measured_eq (z : TamperRecord) (c : RecordCond) (hc : z.cond = c.cond) (m : Int)
    (measured : c.cond.kind ≠ .vloss) :
    z.measured m = { z with extreme := z.extreme.map fun held => c.worse held m } := by
  obtain ⟨serial, cond, start, stop, inHoldup, valid, actions, extreme⟩ := z
  obtain rfl : cond = c.cond := hc
  cases extreme with
  | none => rfl
  | some held => cases c with
    | vloss p => exact absurd rfl measured
    | neutral | reverse p | bypass p =>
      simp only [TamperRecord.measured, worseMeasure, RecordCond.cond, CondId.kind, RecordCond.worse, decide_eq_true_eq]
      split <;> simp <;> omega

/-- A record's own measure, handed where there is one. -/
theorem observationOf_measured (p : Params) (opened : Bool) (r : IntervalRecord) (c : RecordCond) (z : TamperRecord)
    (hc : z.cond = c.cond) : (observationOf p opened r c).measure.elim z z.measured =
      { z with
        extreme := z.extreme.map fun held => (observationOf p opened r c).measure.elim held (c.worse held) } := by
  cases c with
  | vloss ph => simp [observationOf, vlossObs]
  | neutral => exact z.measured_eq .neutral hc _ (by decide)
  | reverse ph => exact z.measured_eq (.reverse ph) hc _ (by simp [RecordCond.cond, CondId.kind])
  | bypass ph => exact z.measured_eq (.bypass ph) hc _ (by simp [RecordCond.cond, CondId.kind])

/-! ### The observations of a take (02 R16) -/

theorem Among.of_same {o : Observation} {s s' u t t' : State} (h : Among o s u t) (params : s.params = s'.params)
    (tc : s.tc = s'.tc) (ps : s.ps = s'.ps) (tm : s.tm = s'.tm) (tl : s.tl = s'.tl) (runs : s.be.runs = s'.be.runs)
    (tm' : t'.tm = t.tm) (tl' : t'.tl = t.tl) (be' : t'.be = t.be) : Among o s' u t' := by
  have cond (d : CondId) : s.cond d = s'.cond d := congrArg (fun x : Tm => x.conds.get d) tm
  have cond' (d : CondId) : t'.cond d = t.cond d := congrArg (fun x : Tm => x.conds.get d) tm'
  exact {
    params := h.params.trans params
    tc := h.tc.trans tc
    ps := h.ps.trans ps
    cond := h.cond.trans (cond _)
    run := h.run.trans (by rw [runs])
    condAfter := (cond' _).trans h.condAfter
    runAfter := by rw [be']; exact h.runAfter
    serials := tl ▸ h.serials
    room := tl ▸ h.room
    before := fun j z others => tl ▸ h.before j z (by simpa only [cond] using others)
    after := fun j z others => tl' ▸ h.after j z (by simpa only [cond] using others) }

/-- The item of a record observes the ten conditions of the tamper monitor as the take found it. -/
theorem takeItem_among (place : Nat) (missing : Option Nat) (r : IntervalRecord) (s : State) (c : RecordCond) :
    ∃ u, Among (observationOf s.params (s.sss.contactor == .opened && !s.sss.unverified) r c) s u
      (takeItem place missing r s) := by
  let f := observationOf s.params (s.sss.contactor == .opened && !s.sss.unverified) r
  generalize hw : checkAt place 2 r (offerLoad (intervalPower s r) (checkAt place 1 r (billRecord (intervalPower s r) r
    (billGap (gapIntervals missing s.be.ticks) (checkAt place 0 r s))))) = w
  have take : takeItem place missing r s = checkAt place 3 r (observeAll f recordConds w) := by
    rw [← hw, takeItem, observations_eq, List.foldl_map]; rfl
  obtain ⟨u, among⟩ := observeAll_among (f := f) (observationOf_cond _ _ _) c w
  refine ⟨u, among.of_same ?_ ?_ ?_ ?_ ?_ ?_ ?_ ?_ ?_⟩
  · simp [← hw]
  · simp [← hw]
  · simp [← hw]
  · simp [← hw]
  · simp [← hw]
  · simp [← hw, billRecord_billGap_be]
  · simp [take]
  · simp [take]
  · simp [take]

/-- With the position verified a take is the record's ten observations, BYPASS by the contactor of the taking. -/
theorem recordTake_among {s : State} {r : IntervalRecord} {rest : List IntervalRecord} (loadv : PerPhase Bool)
    (ha : s.ps.power = .active) (hq : s.mli.queue = r :: rest) (hv : s.sss.verified ≠ .unknown) (c : RecordCond) :
    ∃ u, Among (observationOf s.params (s.sss.contactor == .opened) r c) s u (recordTake loadv s) := by
  obtain ⟨place, free, take, -⟩ := recordTake_eq loadv ha hq
  obtain ⟨u, among⟩ := takeItem_among place (s.mli.missing r) r (s.handedOver loadv r free) c
  have opened : ((s.handedOver loadv r free).sss.contactor == .opened && !(s.handedOver loadv r free).sss.unverified) =
      (s.sss.contactor == .opened) := by
    simp [State.handedOver, Sss.unverified, hv]
  rw [opened] at among
  exact ⟨u, take ▸ among.of_same rfl rfl rfl rfl rfl rfl rfl rfl rfl⟩

/-! ### What a take's observation leaves -/

section
variable {o : Observation} {s u t : State} (h : Among o s u t)
include h

theorem Among.clock : u.clock = s.clock := congrArg (fun x : Tc => x.sched.clock) h.tc

theorem Among.filtered : Filtered (o.shows = true) s.clock (s.params.actions.get o.cond.cond.kind)
    (s.cond o.cond.cond) (t.cond o.cond.cond) (s.be.runs.get o.cond) (t.be.runs.get o.cond) := by
  have own := observe_filtered o u
  rw [h.clock, h.params, h.cond, h.run, ← h.condAfter, ← h.runAfter] at own
  exact own

/-- A start's record stays in the log to the end of the take: no other condition holds its serial. -/
theorem Among.opens (hx : (s.cond o.cond.cond).state = .pending) (hs : o.shows = true)
    (hn : 7 ≤ s.be.runs.get o.cond) (given : ∀ d k, (s.cond d).ongoing = .serial k → k < s.tl.nextSerial) :
    (s.tl.RoomFor 10 → ∃ k, (t.cond o.cond.cond).ongoing = .serial k) ∧
    ∀ k, (t.cond o.cond.cond).ongoing = .serial k → openedRecord k o s ∈ t.tl.records := by
  obtain ⟨answer, stored⟩ := observe_opens (h.cond ▸ hx) hs (h.run ▸ hn)
  rw [← h.condAfter] at answer
  refine ⟨fun room => ⟨u.tl.nextSerial, by rw [answer, if_pos (h.room room).hasRoom]⟩, fun k hk => ?_⟩
  rw [answer] at hk
  split at hk
  · next room =>
    obtain rfl := Ongoing.serial.inj hk
    have same : openedRecord u.tl.nextSerial o u = openedRecord u.tl.nextSerial o s := by
      simp only [openedRecord, h.clock, h.ps, h.tc, h.params]
    refine List.mem_of_getElem? (h.after _ _ (fun d _ held => ?_) (same ▸ stored room))
    exact absurd (given d _ held) (Nat.not_lt.mpr h.serials)
  · exact absurd hk (by simp)

theorem Among.record {j : Nat} {z : TamperRecord} (hx : (s.cond o.cond.cond).state = .active)
    (held : (s.cond o.cond.cond).ongoing = .serial z.serial)
    (others : ∀ d, d ≠ o.cond.cond → (s.cond d).ongoing ≠ .serial z.serial) (hz : s.tl.records[j]? = some z)
    (ongoing : z.stop = none) : t.tl.records[j]? = some
      (if o.shows then o.measure.elim z z.measured
       else if 7 ≤ s.be.runs.get o.cond then { z with stop := some s.clock } else z) := by
  have own := observe_record (h.cond ▸ hx) (h.cond ▸ held) (h.before j z others hz) ongoing
  rw [h.run, h.clock] at own
  have serial : ∀ m, (z.measured m).serial = z.serial := fun m => by
    simp only [TamperRecord.measured]
    (repeat' split) <;> rfl
  refine h.after j _ ?_ own
  suffices same : (if o.shows then o.measure.elim z z.measured
      else if 7 ≤ s.be.runs.get o.cond then { z with stop := some s.clock } else z).serial = z.serial by
    rw [same]; exact others
  cases o.measure <;> simp only [Option.elim] <;> (repeat' split) <;> simp [serial]

end

end Sys2Proof.Machine
end

section
/-! The conditions of a record and the position check (02 R35, 06 R118, 08 R136, 09 R154, R155). -/

namespace Sys2Proof.Machine

/-! ### The check by itself (06 R118) -/

theorem anyVerifiable_iff (vNom : Nat) (r : IntervalRecord) :
    anyVerifiable vNom r = true ↔ ∃ p, vNom * 10 ≤ 2 * r.v.get p := by
  have phases : ∀ p, p ∈ allPhases := fun p => by cases p <;> decide
  simp [anyVerifiable, verifiable, phases, Nat.mul_comm]

theorem loadOnVerifiable_iff (vNom : Nat) (r : IntervalRecord) (loadv : PerPhase Bool) :
    loadOnVerifiable vNom r loadv = true ↔ ∀ p, vNom * 10 ≤ 2 * r.v.get p → loadv.get p = true := by
  have phases : ∀ p, p ∈ allPhases := fun p => by cases p <;> decide
  simp [loadOnVerifiable, verifiable, phases, Nat.mul_comm, imp_iff_not_or]

theorem checkDue_iff (r : IntervalRecord) (s : State) : checkDue r s = true ↔
    s.sss.verified = .unknown ∧ (∃ p, s.params.vNom * 10 ≤ 2 * r.v.get p) ∧
      (s.sss.contactor = .closed ∨ s.sss.contactor = .opened ∨ s.sss.contactor = .armed) := by
  simp [checkDue, Sss.unverified, anyVerifiable_iff, and_assoc, or_assoc]

/-- A SUPPLY notice joins the queue, or is dropped (06 R121, 12 R182). -/
theorem raiseSupply_eq (s : State) : raiseSupply s = s.setHlc
    (if s.hlc.queue.length < 16 then
      { s.hlc with queue := s.hlc.queue ++ [⟨.supply s.sss.contactor s.sss.unverified, s.clock⟩] }
     else { s.hlc with overflow := true }) := rfl

theorem positionCheck_of_not_due {r : IntervalRecord} {s : State} (h : ¬checkDue r s = true) : positionCheck r s = s :=
  if_neg h

/-- A check of a rest position with the contacts open (06 R118). -/
theorem positionCheck_of_open {r : IntervalRecord} {s : State} (due : checkDue r s = true)
    (rest : s.sss.contactor = .opened ∨ s.sss.contactor = .armed) : positionCheck r s =
      if anyLoad s.pins.loadv then startOpening 1 s else raiseSupply (s.setSss { s.sss with verified := .opened }) := by
  have notClosed : s.sss.contactor ≠ .closed := by rcases rest with e | e <;> simp [e]
  simp only [positionCheck, if_pos due, if_neg notClosed]

theorem positionCheck_of_closed {r : IntervalRecord} {s : State} (due : checkDue r s = true)
    (closed : s.sss.contactor = .closed) : positionCheck r s =
      if loadOnVerifiable s.params.vNom r s.pins.loadv then
        raiseSupply (verifiedClose (s.setSss { s.sss with verified := .closed }))
      else if s.sss.reasons.isEmpty then startClosing s else s := by
  simp only [positionCheck, if_pos due, if_pos closed]

theorem startClosing_of_empty {s : State} (h : s.sss.reasons.isEmpty = true) : startClosing s =
    s.setSss { s.sss with
      attempts := 1, phase := .pulse, phaseTimer := some s.params.coilMs, cutoff := some 250, openNext := false
      verified := .unknown, contactor := .closing, origin := .ordinary } := by
  rw [startClosing, closeAttempt, if_pos (by exact h)]; rfl

/-! ### What the reasons of a take leave of open contacts (06 R106 to R109) -/

/-- A view of the sequencer that additions of reasons and ordinary removals keep, with the contactor not CLOSED. -/
structure KeptByReasons (P : Sss → Prop) : Prop where
  notClosed : ∀ x, P x → x.contactor ≠ .closed
  add : ∀ r s, P s.sss → P (addReason r s).sss
  remove : ∀ r s, P s.sss → P (removeReason r .ordinary s).sss

/-- The contactor rests with its contacts open, the position as given. -/
def RestsOpen (v : Position) (x : Sss) : Prop := x.verified = v ∧ (x.contactor = .opened ∨ x.contactor = .armed)

/-- The pulse of a check's opening is in progress (06 R118). -/
def CheckPulse (coilMs : Nat) (x : Sss) : Prop :=
  x.contactor = .opening ∧ x.phase = .pulse ∧ x.attempts = 1 ∧ x.pulseLimit = 1 ∧ x.phaseTimer = some coilMs ∧
    x.verified = .unknown

theorem restsOpen_kept (v : Position) : KeptByReasons (RestsOpen v) where
  notClosed x := by rintro ⟨-, e | e⟩ <;> simp [e]
  add r s := by
    rintro ⟨hv, opened | armed⟩
    · simp only [addReason, actOnAddition, State.setSss_sss, opened]
      (repeat' split) <;> simp [RestsOpen, hv, opened]
    · simp only [addReason, actOnAddition, State.setSss_sss, armed]
      (repeat' split) <;> simp [RestsOpen, hv, armed]
  remove r s := by
    rintro ⟨hv, opened | armed⟩
    · simp only [removeReason, actOnEmptied, becomeArmed, closesAtOnce, State.setSss_sss, opened, reduceCtorEq,
        if_false]
      (repeat' split) <;> simp [RestsOpen, hv, opened]
    · simp only [removeReason, actOnEmptied, closesAtOnce, State.setSss_sss, armed, reduceCtorEq, if_false]
      (repeat' split) <;> simp [RestsOpen, hv, armed]

theorem checkPulse_kept (coilMs : Nat) : KeptByReasons (CheckPulse coilMs) where
  notClosed x := by rintro ⟨e, -⟩; simp [e]
  add r s := by
    rintro ⟨e, h⟩
    simp only [addReason, actOnAddition, State.setSss_sss, e]
    (repeat' split) <;> simp [CheckPulse, h, e]
  remove r s := by
    rintro ⟨e, h⟩
    simp only [removeReason, actOnEmptied, State.setSss_sss, e]
    (repeat' split) <;> simp [CheckPulse, h, e]

section
variable {P : Sss → Prop} (kept : KeptByReasons P)
include kept

theorem KeptByReasons.recompute {s : State} (h : P s.sss) : P (recompute .ordinary s).sss := by
  have held : (holdCreditState (s.setAcct (s.acct.withFlags s.params))).sss = s.sss := by simp
  rw [← held] at h
  simp only [Machine.recompute, decideCredit]
  (repeat' split)
  · exact h
  · exact kept.add _ _ h
  · exact kept.remove _ _ h
  · exact h

theorem KeptByReasons.billEnergy (e : Nat) {s : State} (h : P s.sss) : P (billEnergy e s).sss := by
  simp only [Machine.billEnergy, charge, debit]
  (repeat' split)
  · exact h
  · exact h
  · exact kept.recompute (by simpa using h)

theorem KeptByReasons.bill (power m : Nat) (r : IntervalRecord) {s : State} (h : P s.sss) :
    P (billRecord power r (billGap m s)).sss := by
  refine kept.billEnergy (s := billGap m s) _ ?_
  simp only [billGap]
  split
  · exact h
  · exact kept.billEnergy _ h

/-- The limiter does not trip while the contactor is not CLOSED (07 R125). -/
theorem KeptByReasons.offerLoad (power : Nat) {s : State} (h : P s.sss) : P (offerLoad power s).sss := by
  simp only [Machine.offerLoad, lapseTest_frame, if_neg (kept.notClosed _ h), State.setLl_sss]
  exact h

theorem KeptByReasons.evaluateTamper {s : State} (h : P s.sss) : P (evaluateTamper s).sss := by
  simp only [Machine.evaluateTamper, holdTamper]
  (repeat' split)
  · exact h
  · exact kept.add _ _ h
  · exact kept.remove _ _ h
  · exact h

theorem KeptByReasons.observe (o : Observation) {s : State} (h : P s.sss) : P (observe o s).sss := by
  simp only [Machine.observe]
  (repeat' split)
  · simpa using h
  · simpa using h
  · exact kept.evaluateTamper (by simpa using h)
  · simpa using h
  · simpa using h
  · simpa using h
  · exact kept.evaluateTamper (by simpa using h)
  · simpa using h

theorem KeptByReasons.observations (l : List Observation) {s : State} (h : P s.sss) :
    P (l.foldl (fun t o => Machine.observe o t) s).sss := by
  induction l generalizing s with
  | nil => exact h
  | cons o l ih => exact ih (kept.observe o h)

/-- A take with one position check: what holds up to the check, what the check makes of it, what holds from there on
(06 R118, log 6). -/
theorem KeptByReasons.takeItem {Q : Sss → Prop} (kept' : KeptByReasons Q) {place : Nat} (drawn : place < 4)
    (missing : Option Nat) (r : IntervalRecord) {s : State} (h : P s.sss)
    (check : ∀ t : State, t.params = s.params → t.pins = s.pins → P t.sss → Q (positionCheck r t).sss) :
    Q (takeItem place missing r s).sss := by
  match place, drawn with
  | 0, _ =>
    exact kept'.observations _ (kept'.offerLoad _ (kept'.bill _ _ _ (check s rfl rfl h)))
  | 1, _ =>
    exact kept'.observations _ (kept'.offerLoad _ (check _ (by simp) (by simp) (kept.bill _ _ _ h)))
  | 2, _ =>
    exact kept'.observations _ (check _ (by simp) (by simp) (kept.offerLoad _ (kept.bill _ _ _ h)))
  | 3, _ =>
    refine check _ ?_ ?_ (kept.observations _ (kept.offerLoad _ (kept.bill _ _ _ h)))
    · rw [foldl_keeps State.params _ (fun t o => by simp)]; simp
    · rw [foldl_keeps State.pins _ (fun t o => by simp)]; simp

end

/-- A take with a check due makes it at one of the four places (log 6). -/
theorem recordTake_of_due {s : State} {r : IntervalRecord} {rest : List IntervalRecord} (loadv : PerPhase Bool)
    (ha : s.ps.power = .active) (hq : s.mli.queue = r :: rest) (due : checkDue r s = true) :
    ∃ place free, place < 4 ∧ recordTake loadv s = takeItem place (s.mli.missing r) r (s.handedOver loadv r free) := by
  refine ⟨Config.checkPlace s.free % 4, s.free + 1, Nat.mod_lt _ (by decide), ?_⟩
  simp only [recordTake, ha, hq, if_pos due]
  rfl

/-- With open contacts a take's check passes without load and starts an opening with it, and nothing else of the take
moves the contactor in between. -/
theorem recordTake_of_open {s : State} {r : IntervalRecord} {rest : List IntervalRecord} (loadv : PerPhase Bool)
    (ha : s.ps.power = .active) (hq : s.mli.queue = r :: rest) (hv : s.sss.verified = .unknown)
    (seen : ∃ p, s.params.vNom * 10 ≤ 2 * r.v.get p) (rests : s.sss.contactor = .opened ∨ s.sss.contactor = .armed) :
    (anyLoad loadv = false → RestsOpen .opened (recordTake loadv s).sss) ∧
    (anyLoad loadv = true → CheckPulse s.params.coilMs (recordTake loadv s).sss) := by
  obtain ⟨place, free, drawn, take⟩ := recordTake_of_due loadv ha hq ((checkDue_iff r s).mpr ⟨hv, seen, .inr rests⟩)
  have before := restsOpen_kept .unknown
  have due (t : State) (hp : t.params = s.params) (ht : RestsOpen .unknown t.sss) : checkDue r t = true :=
    (checkDue_iff r t).mpr ⟨ht.1, hp ▸ seen, .inr ht.2⟩
  rw [take]
  refine ⟨fun load => before.takeItem (restsOpen_kept .opened) drawn _ r ⟨hv, rests⟩ fun t hp hpins ht => ?_,
    fun load => before.takeItem (checkPulse_kept s.params.coilMs) drawn _ r ⟨hv, rests⟩ fun t hp hpins ht => ?_⟩
  · have unloaded : anyLoad t.pins.loadv = false := by rw [hpins]; exact load
    rw [positionCheck_of_open (due t hp ht) ht.2, unloaded]
    exact ⟨rfl, ht.2⟩
  · have loaded : anyLoad t.pins.loadv = true := by rw [hpins]; exact load
    rw [positionCheck_of_open (due t hp ht) ht.2, if_pos loaded]
    exact ⟨rfl, rfl, rfl, rfl, congrArg (fun p : Params => some p.coilMs) hp, rfl⟩

/-! ### The observations a record gives (02 R35) -/

theorem observationOf_shows (p : Params) (contactor : Contactor) (r : IntervalRecord) (c : RecordCond) :
    ((observationOf p (contactor == .opened) r c).shows = true) =
      match c with
      | .neutral => r.i.p1 + r.i.p2 + r.i.p3 + p.neutralMarginMa < r.inn
      | .vloss ph => r.v.get ph * 10 < p.vNom * p.vlossPct ∧ p.vlossMa ≤ r.i.get ph
      | .reverse ph => r.p.get ph < -(p.reverseW : Int)
      | .bypass ph => contactor = .opened ∧ 500 ≤ r.i.get ph := by
  cases c <;> simp [observationOf, neutralObs, vlossObs, reverseObs, bypassObs]

theorem observationOf_measure (p : Params) (opened : Bool) (r : IntervalRecord) (c : RecordCond) :
    (observationOf p opened r c).measure =
      match c with
      | .neutral => some ((r.inn - (r.i.p1 + r.i.p2 + r.i.p3) : Nat) : Int)
      | .vloss _ => none
      | .reverse ph => some (r.p.get ph)
      | .bypass ph => some (r.i.get ph : Int) := by
  cases c <;> rfl

/-- Settles O49: a take is the ten observations, each condition's among those of the others; the check of open contacts
holds wherever it falls; and the check by itself. -/
theorem recordConditionsTakeEightRecords : Obligations.RecordConditionsTakeEightRecords := by
  refine ⟨fun s loadv r rest c ha hq hv => ?_, fun s loadv r rest ha hq hv seen rests => ?_, fun s r => ?_⟩
  · intro shows measure worse setting x n
    obtain ⟨u, among⟩ := recordTake_among loadv ha hq hv c
    have shown : ((observationOf s.params (s.sss.contactor == .opened) r c).shows = true) = shows :=
      (observationOf_shows _ _ _ _).trans (by cases c <;> rfl)
    have measured : (observationOf s.params (s.sss.contactor == .opened) r c).measure = measure :=
      (observationOf_measure _ _ _ _).trans (by cases c <;> rfl)
    have worst : worse = c.worse := by cases c <;> rfl
    have cond := observationOf_cond s.params (s.sss.contactor == .opened) r c
    have handed := observationOf_measured s.params (s.sss.contactor == .opened) r c
    generalize observationOf s.params (s.sss.contactor == .opened) r c = o at among shown measured cond handed
    have filtered : Filtered shows s.clock setting x ((recordTake loadv s).cond c.cond) n
        ((recordTake loadv s).be.runs.get c) := by
      have own := among.filtered
      rwa [shown, cond] at own
    refine ⟨_, rfl, filtered.begins, filtered.rests, filtered.waits, filtered.starts, filtered.drops,
      filtered.goesOn, filtered.fades, filtered.ends, fun hx hs hn given => ?_,
      fun k j z hx held others hz serial hcond ongoing => ?_⟩
    · obtain ⟨answered, stored⟩ := among.opens (by rwa [cond]) (by rwa [shown]) (by rwa [cond]) given
      rw [cond] at answered stored
      refine ⟨fun records unused serials => answered ⟨by omega, unused, by omega⟩, fun k hk => ?_⟩
      have record := stored k hk
      rw [openedRecord, cond, measured, ha] at record
      exact record
    · obtain rfl := serial
      have record := among.record (by rwa [cond]) (by rwa [cond]) (by rwa [cond]) hz ongoing
      rw [handed z hcond, measured, ← worst, cond] at record
      refine ⟨fun hs => ?_, fun hs hn => ?_, fun hs hn => ?_⟩
      · rwa [if_pos (by rwa [shown])] at record
      · rwa [if_neg (by rwa [shown]), if_neg (Nat.not_le.mpr hn)] at record
      · rwa [if_neg (by rwa [shown]), if_pos hn] at record
  · obtain ⟨unloaded, loaded⟩ := recordTake_of_open loadv ha hq hv seen rests
    refine ⟨_, rfl, unloaded, fun load => ?_⟩
    obtain ⟨contactor, phase, attempts, limit, timer, verified⟩ := loaded load
    exact ⟨contactor, phase, attempts, limit, timer, verified⟩
  · intro verifiable load pulse told
    refine ⟨fun notDue => ?_, fun unknown seen => ?_⟩
    · refine positionCheck_of_not_due fun due => ?_
      obtain ⟨unknown, ⟨p, seen⟩, rests⟩ := (checkDue_iff r s).mp due
      rcases notDue with h | h | h | h | h | h | h
      · exact h unknown
      · exact h p seen
      all_goals simp [h] at rests
    · refine ⟨fun closed => ?_, fun rests => ?_⟩
      · have check := positionCheck_of_closed ((checkDue_iff r s).mpr ⟨unknown, seen, .inl closed⟩) closed
        refine ⟨fun all => ?_, fun ⟨p, voltage, missing⟩ none => ?_⟩
        · rw [check, if_pos ((loadOnVerifiable_iff _ _ _).mpr all), raiseSupply_eq, ← closed]
          rfl
        · have failed : ¬loadOnVerifiable s.params.vNom r s.pins.loadv = true := fun passed => by
            simp [(loadOnVerifiable_iff _ _ _).mp passed p voltage] at missing
          have empty : s.sss.reasons.isEmpty = true := by rw [none]; rfl
          rw [check, if_neg failed, if_pos empty, startClosing_of_empty empty]
      · have check := positionCheck_of_open ((checkDue_iff r s).mpr ⟨unknown, seen, .inr rests⟩) rests
        have shown : anyLoad s.pins.loadv = load := rfl
        rw [shown] at check
        refine ⟨fun unloaded => ?_, fun loaded => ?_⟩
        · rw [check, if_neg (by simp [unloaded]), raiseSupply_eq]
          rfl
        · rw [check, if_pos loaded]
          rfl

end Sys2Proof.Machine
end

section
/-! The calendar's evaluation (03 R41, R45 to R51): what it leaves of the calendar, of the registers and of the ledger,
and the band a profile gives. -/

namespace Sys2Proof.Machine

/-! ### The decision on CREDIT (04 R71) -/

theorem decideCredit_held (origin : Origin) (s : State) :
    (decideCredit origin s).cl.creditHeld = wantsCredit s.acct.state s.tc.friendly := by
  simp only [decideCredit]
  (repeat' split) <;> simp [State.holdCredit, *]

/-! ### The parts of an evaluation -/

/-- The comparison starts the allowance of a later day (03 R41). -/
theorem Tc.compareAllowance_eq (x : Tc) : x.compareAllowance = { x with
    trimUsed := if x.allowanceDay < dayOf x.sched.clock then 0 else x.trimUsed
    allowanceDay := max x.allowanceDay (dayOf x.sched.clock) } := by
  unfold Tc.compareAllowance
  split
  · next later => rw [max_eq_right later.le]
  · next same => rw [max_eq_left (not_lt.mp same)]

theorem compareAndBand_tc (s : State) : (compareAndBand s).tc = { s.tc with
    trimUsed := if s.tc.allowanceDay < dayOf s.clock then 0 else s.tc.trimUsed
    allowanceDay := max s.tc.allowanceDay (dayOf s.clock)
    band := bandInForce s.params s.tc.sched s.tc.clockValid } := by
  simp only [compareAndBand, Tc.compareAllowance_eq]
  rfl

theorem friendlyEdge_tc (s : State) : (friendlyEdge s).tc =
    { s.tc with friendly := friendlyNow s.params s.tc.sched s.tc.clockValid } := by
  simp only [friendlyEdge]
  split
  · next same => rw [same]
  · simp

@[simp] theorem friendlyEdge_acct (s : State) : (friendlyEdge s).acct = s.acct := by
  simp only [friendlyEdge]
  split
  · rfl
  · exact decideCredit_acct _ _

/-- The cycle rolls forward at the next evaluation (03 R51). -/
def State.rolls (s : State) : Bool :=
  s.tc.clockValid && decide (s.tc.sched.cycleIndex < dayOf s.clock / s.params.cycleDays)

theorem State.rolls_iff (s : State) : s.rolls = true ↔
    s.tc.clockValid = true ∧ s.tc.sched.cycleIndex < dayOf s.clock / s.params.cycleDays := by
  simp [State.rolls]

theorem rollCycle_eq (s : State) : rollCycle s =
    if s.rolls then
      (s.setTc { s.tc with sched := { s.tc.sched with cycleIndex := dayOf s.clock / s.params.cycleDays } }).setBe
        { s.be with reg := { s.be.reg with cycleWh := 0 } }
    else s :=
  if_congr s.rolls_iff.symm rfl rfl

theorem rollCycle_tc (s : State) : (rollCycle s).tc = { s.tc with sched := { s.tc.sched with
    cycleIndex := if s.rolls then dayOf s.clock / s.params.cycleDays else s.tc.sched.cycleIndex } } := by
  rw [rollCycle_eq]
  split <;> rfl

theorem rollCycle_be (s : State) : (rollCycle s).be =
    if s.rolls then { s.be with reg := { s.be.reg with cycleWh := 0 } } else s.be := by
  rw [rollCycle_eq]
  split <;> rfl

/-! ### The evaluation (03 R45) -/

theorem rolls_friendlyEdge (s : State) : (friendlyEdge (compareAndBand s)).rolls = s.rolls := by
  simp only [State.rolls, State.clock, friendlyEdge_tc, compareAndBand_tc, friendlyEdge_frame, compareAndBand_frame]
  rfl

/-- The calendar after an evaluation: the clock, the tables, the phase and the clock-valid flag stay. -/
theorem evaluateCalendar_tc (s : State) : (evaluateCalendar s).tc = { s.tc with
    trimUsed := if s.tc.allowanceDay < dayOf s.clock then 0 else s.tc.trimUsed
    allowanceDay := max s.tc.allowanceDay (dayOf s.clock)
    band := bandInForce s.params s.tc.sched s.tc.clockValid
    friendly := friendlyNow s.params s.tc.sched s.tc.clockValid
    sched := { s.tc.sched with
      cycleIndex := if s.rolls then dayOf s.clock / s.params.cycleDays else s.tc.sched.cycleIndex } } := by
  simp [evaluateCalendar, rollCycle_tc, rolls_friendlyEdge, friendlyEdge_tc, compareAndBand_tc, State.clock]

theorem evaluateCalendar_be (s : State) : (evaluateCalendar s).be =
    if s.rolls then { s.be with reg := { s.be.reg with cycleWh := 0 } } else s.be := by
  simp [evaluateCalendar, rollCycle_be, rolls_friendlyEdge]

@[simp] theorem evaluateCalendar_clock (s : State) : (evaluateCalendar s).clock = s.clock := by
  rw [State.clock, evaluateCalendar_tc]; rfl

@[simp] theorem evaluateCalendar_billedWh (s : State) : (evaluateCalendar s).be.reg.billedWh = s.be.reg.billedWh := by
  rw [evaluateCalendar_be]; split <;> rfl

/-- An evaluation moves no money (03 R45). -/
@[simp] theorem evaluateCalendar_acct (s : State) : (evaluateCalendar s).acct = s.acct := by
  have rolled : (evaluateCalendar s).acct = (friendlyEdge (compareAndBand s)).acct := by
    simp [State.acct, evaluateCalendar]
  rw [rolled, friendlyEdge_acct]
  simp [State.acct]

/-- A friendly state that stays leaves the ledger, the sequencer and the host link (03 R50). -/
theorem evaluateCalendar_of_same {s : State}
    (same : friendlyNow s.params s.tc.sched s.tc.clockValid = s.tc.friendly) :
    (evaluateCalendar s).cl = s.cl ∧ (evaluateCalendar s).sss = s.sss ∧ (evaluateCalendar s).hlc = s.hlc := by
  have edge : friendlyEdge (compareAndBand s) = compareAndBand s := by
    simp [friendlyEdge, compareAndBand_tc, same]
  simp [evaluateCalendar, edge]

/-- A friendly state that changes lets CL decide the CREDIT reason (03 R50, 04 R71). -/
theorem evaluateCalendar_of_changed {s : State}
    (changed : friendlyNow s.params s.tc.sched s.tc.clockValid ≠ s.tc.friendly) :
    (evaluateCalendar s).cl.creditHeld =
      wantsCredit s.acct.state (friendlyNow s.params s.tc.sched s.tc.clockValid) := by
  simp [evaluateCalendar, friendlyEdge, compareAndBand_tc, changed, decideCredit_held, State.acct]

/-! ### The band (03 R47, R48) -/

/-- Of points in order of start the one with the greatest start at or before a step gives the band. -/
theorem bandAt_of_greatest {points : List SwitchPoint} (ordered : points.Pairwise fun x y => x.start < y.start)
    {step : Nat} {x : SwitchPoint} (mem : x ∈ points) (begun : x.start ≤ step)
    (greatest : ∀ y ∈ points, y.start ≤ step → y.start ≤ x.start) : bandAt points step = x.band := by
  have kept : x ∈ points.filter fun y => decide (y.start ≤ step) := by simp [mem, begun]
  have last : (points.filter fun y => decide (y.start ≤ step)).getLast? = some x := by
    have sorted := ordered.filter fun y => decide (y.start ≤ step)
    obtain ⟨front, rear, split⟩ := List.append_of_mem kept
    cases rear with
    | nil => simp [split]
    | cons y rear =>
      have later : x.start < y.start := by
        rw [split] at sorted
        exact (List.pairwise_cons.mp (List.pairwise_append.mp sorted).2.1).1 y List.mem_cons_self
      have hy : y ∈ points.filter fun y => decide (y.start ≤ step) := by simp [split]
      simp only [List.mem_filter, decide_eq_true_eq] at hy
      exact absurd (greatest y hy.1 hy.2) (not_le.mpr later)
  simp [bandAt, last]

/-- Before the first point of a day the last point of the profile goes on. -/
theorem bandAt_of_none {points : List SwitchPoint} {step : Nat} (later : ∀ y ∈ points, step < y.start)
    {x : SwitchPoint} (last : points.getLast? = some x) : bandAt points step = x.band := by
  have none : points.filter (fun y => decide (y.start ≤ step)) = [] := by
    simpa [List.filter_eq_nil_iff] using later
  simp [bandAt, none, last]

theorem Schedule.Sound.profile {x : Schedule} (hx : x.Sound) (letter : ProfileId) :
    profileSound (x.profile letter) := by
  cases letter
  · exact hx.profileA
  · exact hx.profileB

/-- The profile of a weekday; a day the map does not name has profile A. -/
theorem Schedule.profile_of_weekday (x : Schedule) (weekday : Nat) : x.profile (x.weekMap.getD weekday .a) =
    if x.weekMap[weekday]? = some .b then x.profileB else x.profileA := by
  rw [List.getD_eq_getElem?_getD]
  rcases x.weekMap[weekday]? with _ | letter
  · rfl
  · cases letter <;> rfl

/-! ### The friendly windows (03 R49) -/

/-- A window that wraps past midnight covers the end of its weekday and the beginning of the next one. -/
theorem FriendlyWindow.inForce_iff (w : FriendlyWindow) (weekday step : Nat) : w.inForce weekday step = true ↔
    (w.start < w.stop ∧ w.days.testBit weekday = true ∧ w.start ≤ step ∧ step < w.stop) ∨
    (w.stop < w.start ∧ ((w.days.testBit weekday = true ∧ w.start ≤ step) ∨
      (w.days.testBit ((weekday + 6) % 7) = true ∧ step < w.stop))) := by
  unfold FriendlyWindow.inForce
  split
  · next empty => simp [empty]
  · next nonempty =>
    split
    · next within => simp [within, not_lt.mpr within.le, and_assoc]
    · next wraps =>
      have wraps : w.stop < w.start := by omega
      simp [wraps, not_lt.mpr wraps.le]

theorem friendlyNow_iff (p : Params) (x : Schedule) (valid : Bool) : friendlyNow p x valid = true ↔
    valid = true ∧ (p.windows.w0.inForce (weekdayOf p x.clock) (stepOf x.clock) = true ∨
      p.windows.w1.inForce (weekdayOf p x.clock) (stepOf x.clock) = true ∨
      p.windows.w2.inForce (weekdayOf p x.clock) (stepOf x.clock) = true ∨
      p.windows.w3.inForce (weekdayOf p x.clock) (stepOf x.clock) = true) := by
  simp [friendlyNow, or_assoc]

/-! ### The clock and the evaluation at its edges (03 R39, R45) -/

/-- Settles O54: the evaluation field by field; the band is that of the greatest start, or of the last point. -/
theorem clockAndCalendarAdvance : Obligations.ClockAndCalendarAdvance := by
  intro s
  refine ⟨fun runs second => ?_, fun active edge sound => ?_⟩
  · exact congrArg Host.Outcome.next (if_pos ⟨(clockRuns_iff s).mpr runs, second⟩)
  · intro day weekday now points covers p index
    have take : exec .tcEdgeEvaluation s = .next (evaluateCalendar s) :=
      congrArg Host.Outcome.next (if_pos ⟨active, edge⟩)
    have profile : s.tc.sched.profile (s.tc.sched.weekMap.getD (weekdayOf s.params s.tc.sched.clock) .a) = points :=
      s.tc.sched.profile_of_weekday _
    have band (valid : s.tc.clockValid = true) : (evaluateCalendar s).tc.band = bandAt points now := by
      rw [evaluateCalendar_tc, ← profile]
      simp only [bandInForce, valid, if_true]
      rfl
    have friendly : (evaluateCalendar s).tc.friendly = friendlyNow s.params s.tc.sched s.tc.clockValid := by
      rw [evaluateCalendar_tc]
    have ordered : points.Pairwise fun x y => x.start < y.start := by
      obtain ⟨-, -, ordered, -⟩ := profile ▸ sound.profile _
      exact ordered
    refine ⟨_, take, fun invalid => ?_, fun valid => ⟨fun x mem begun greatest => ?_, fun later x last => ?_⟩, ?_,
      fun valid rolls => ?_, fun stays => ?_, ?_, ?_, ?_, ?_, ?_, fun changed => ?_, fun same => ?_, ?_⟩
    · rw [evaluateCalendar_tc]; simp [bandInForce, invalid]
    · rw [band valid, bandAt_of_greatest ordered mem begun greatest]
    · rw [band valid, bandAt_of_none later last]
    · have covered (w : FriendlyWindow) : w.inForce weekday now = true ↔ covers w := w.inForce_iff weekday now
      rw [friendly, friendlyNow_iff, ← covered, ← covered, ← covered, ← covered]
      rfl
    · have rolls : s.rolls = true := s.rolls_iff.mpr ⟨valid, rolls⟩
      rw [evaluateCalendar_tc, evaluateCalendar_be, if_pos rolls, if_pos rolls]
      exact ⟨rfl, rfl⟩
    · have stays : ¬s.rolls = true := by
        rw [s.rolls_iff]
        rintro ⟨valid, rolls⟩
        rcases stays with invalid | stays
        · simp [valid] at invalid
        · exact absurd rolls (not_lt.mpr stays)
      rw [evaluateCalendar_tc, evaluateCalendar_be, if_neg stays, if_neg stays]
      exact ⟨rfl, rfl⟩
    · rw [evaluateCalendar_tc]; rfl
    · rw [evaluateCalendar_tc]; rfl
    · rw [evaluateCalendar_tc]
    · rw [evaluateCalendar_tc]
    · exact evaluateCalendar_acct s
    · rw [friendly] at changed ⊢
      exact evaluateCalendar_of_changed changed
    · exact evaluateCalendar_of_same (friendly.symm.trans same)
    · simp

end Sys2Proof.Machine
end

section
/-! Trims of the clock (03 R41, R42). -/

namespace Sys2Proof.Machine

/-- Notices leave the request slot and the transmitter. -/
theorem Noticed.keeps_reply {h h' : Hlc} (noticed : Noticed h h') :
    h'.slot = h.slot ∧ h'.sending = h.sending ∧ h'.waiting = h.waiting := by
  refine noticed.keeps (P := fun x => x.slot = h.slot ∧ x.sending = h.sending ∧ x.waiting = h.waiting)
    (fun x n hx => ?_) ⟨rfl, rfl, rfl⟩
  unfold Hlc.join
  split <;> exact hx

/-- A link that was ready is ready when notices have joined and the power supervisor and the pins have stayed. -/
theorem State.ready_of_noticed {s t : State} (hs : s.ready) (noticed : Noticed s.hlc t.hlc) (ps : t.ps = s.ps)
    (pins : t.pins = s.pins) : t.ready := by
  obtain ⟨served, slot, sending⟩ := hs
  obtain ⟨slot', sending', -⟩ := noticed.keeps_reply
  exact ⟨by rw [State.linkServed, ps, pins]; exact served, slot'.trans slot, sending'.trans sending⟩

/-- The allowance a trim finds: the whole one on a day later than the last comparison's (03 R41). -/
def Tc.usedToday (x : Tc) : Nat := if x.allowanceDay < dayOf x.sched.clock then 0 else x.trimUsed

/-- A trim is limited to 30 s, to what is left of the allowance, then to the range of the clock (03 R42). -/
theorem Tc.trimAmount_eq (x : Tc) (d : Int) (used : x.trimUsed ≤ 120) : x.compareAllowance.trimAmount d =
    max (-(x.sched.clock : Int)) (min (4294967295 - (x.sched.clock : Int))
      (max (-(120 - (x.usedToday : Int))) (min (120 - (x.usedToday : Int)) (max (-30) (min 30 d))))) := by
  have left : ((120 - x.usedToday : Nat) : Int) = 120 - (x.usedToday : Int) := by
    have : x.usedToday ≤ 120 := by unfold Tc.usedToday; split <;> omega
    omega
  rw [Tc.compareAllowance_eq]
  simp only [Tc.trimAmount, Tc.remaining, clampInt, ← left]
  rfl

/-- What is applied fits what is left of the allowance, and the clock stays in its range (03 R39, R41). -/
theorem Tc.trimAmount_range (x : Tc) (d : Int) (clock : x.sched.clock ≤ maxClock) :
    (x.trimAmount d).natAbs ≤ 120 - x.trimUsed ∧ 0 ≤ (x.sched.clock : Int) + x.trimAmount d ∧
      (x.sched.clock : Int) + x.trimAmount d ≤ maxClock := by
  simp only [Tc.trimAmount, Tc.remaining, clampInt]
  omega

theorem trimClock_clock (d : Int) (s : State) (clock : s.clock ≤ maxClock) :
    ((trimClock d s).clock : Int) = s.clock + s.tc.compareAllowance.trimAmount d := by
  have same : s.tc.compareAllowance.sched = s.tc.sched := by rw [Tc.compareAllowance_eq]
  obtain ⟨-, low, -⟩ := s.tc.compareAllowance.trimAmount_range d (same ▸ clock)
  have moved : (trimClock d s).clock =
      ((s.tc.compareAllowance.sched.clock : Int) + s.tc.compareAllowance.trimAmount d).toNat :=
    evaluateCalendar_clock _
  rw [moved, Int.toNat_of_nonneg low, same]
  rfl

/-- A trim counts what it applies against the allowance, and its evaluation compares with the day it leads to. -/
theorem trimClock_tc (d : Int) (s : State) :
    (trimClock d s).tc.trimUsed =
      (if max s.tc.allowanceDay (dayOf s.clock) < dayOf (trimClock d s).clock then 0
      else s.tc.usedToday + (s.tc.compareAllowance.trimAmount d).natAbs) ∧
    (trimClock d s).tc.allowanceDay =
      max (max s.tc.allowanceDay (dayOf s.clock)) (dayOf (trimClock d s).clock) ∧
    (trimClock d s).tc.phase = s.tc.phase ∧ (trimClock d s).tc.clockValid = s.tc.clockValid := by
  simp only [trimClock, evaluateCalendar_clock, evaluateCalendar_tc]
  rw [Tc.compareAllowance_eq]
  exact ⟨rfl, rfl, rfl, rfl⟩

theorem bytesOfInt_one (x : Int) : bytesOfInt 1 x = [BitVec.ofInt 8 x] := by
  have whole : (x % 256).toNat / 256 ^ 0 = (x % 256).toNat := Nat.div_one _
  have same : BitVec.ofNat 8 (x % 256).toNat = BitVec.ofInt 8 x := by
    apply BitVec.eq_of_toNat_eq
    simp only [BitVec.toNat_ofNat, BitVec.toNat_ofInt]
    omega
  exact congrArg (fun byte => [byte]) ((congrArg (BitVec.ofNat 8) whole).trans same)

/-- Settles O37: the trim's amount, then the evaluation, which compares the allowance with the day it leads to. -/
theorem trimMovesTheClockWithinItsAllowance : Obligations.TrimMovesTheClockWithinItsAllowance := by
  intro s b ready active clock trimUsed day used left d a
  have usedToday : (s.tc.usedToday : Int) = used := Nat.cast_ite _ _ _
  have amount : s.tc.compareAllowance.trimAmount (signedOf 8 b.toNat) = a := by
    rw [Tc.trimAmount_eq _ _ trimUsed, usedToday]
    rfl
  have run : exec (.trimClock [b]) s =
      .next (replyOk 0x12#8 (bytesOfInt 1 a) (trimClock (signedOf 8 b.toNat) s)) := by
    refine congrArg Host.Outcome.next ((takeFrame_of_ready ready (by simp) (by decide) (by rw [active]; rfl)).trans ?_)
    show doTrimClock [b] s = _
    simp only [doTrimClock, fieldAt_head, amount]
  have trimmed : (trimClock (signedOf 8 b.toNat) s).ready :=
    State.ready_of_noticed ready (trimClock_noticed _ _ (.refl _)) (by simp) (by simp)
  have moved := trimClock_clock (signedOf 8 b.toNat) s clock
  obtain ⟨counted, day', phase, valid⟩ := trimClock_tc (signedOf 8 b.toNat) s
  rw [amount] at moved counted
  rw [replyOk, handReply_of_ready trimmed] at run
  refine ⟨_, run, moved, ?_, fun same => ?_, fun later => ?_, phase, valid, evaluateCalendar_acct _,
    evaluateCalendar_billedWh _, by simp [State.replying]⟩
  · exact congrArg (fun bytes => some (replyTo 0x12#8 .ok bytes)) (bytesOfInt_one a)
  · refine ⟨?_, day'.trans (max_eq_left same)⟩
    have counted := counted.trans (if_neg (not_lt.mpr same))
    rw [← usedToday, ← Int.natCast_natAbs]
    exact_mod_cast counted
  · exact ⟨counted.trans (if_pos later), day'.trans (max_eq_right (le_of_lt later))⟩

end Sys2Proof.Machine
end

section
/-! The images of the checkpoint (10 R167): where each comes from. -/

namespace Sys2Proof.Machine

theorem StoreSlot.mem_images_of_valid {x : StoreSlot} {img : Image} (valid : x.valid = some img) :
    img ∈ x.images := by
  unfold StoreSlot.valid at valid
  split at valid
  · simp [StoreSlot.images, Option.some.inj valid]
  · simp at valid
  · simp at valid

theorem Ps.mem_images (x : Ps) (img : Image) : img ∈ x.images ↔
    img ∈ x.slotA.images ∨ img ∈ x.slotB.images ∨ ∃ w, x.write = some w ∧ w.img = img := by
  simp [Ps.images]

/-- The newest valid image is one of the two slots' (10 R169). -/
theorem Ps.mem_images_of_newest {x : Ps} {place : StoreId} {img : Image} (newest : x.newest = some (place, img)) :
    img ∈ x.images := by
  have inA : x.slotA.valid = some img → img ∈ x.images := fun h =>
    (x.mem_images img).mpr (.inl (StoreSlot.mem_images_of_valid h))
  have inB : x.slotB.valid = some img → img ∈ x.images := fun h =>
    (x.mem_images img).mpr (.inr (.inl (StoreSlot.mem_images_of_valid h)))
  unfold Ps.newest at newest
  split at newest
  · simp at newest
  · next a _ => simp only [Option.some.injEq, Prod.mk.injEq] at newest; exact inA (newest.2 ▸ a)
  · next b => simp only [Option.some.injEq, Prod.mk.injEq] at newest; exact inB (newest.2 ▸ b)
  · next a b =>
    split at newest <;> simp only [Option.some.injEq, Prod.mk.injEq] at newest
    · exact inB (newest.2 ▸ b)
    · exact inA (newest.2 ▸ a)

/-- A write that begins adds the image of the state it finds. -/
theorem mem_images_beginWrite {occ : Occasion} {s : State} {img : Image} (mem : img ∈ (beginWrite occ s).images) :
    img ∈ s.images ∨ img.contents = s.snapshot := by
  rcases (Ps.mem_images _ img).mp mem with a | b | ⟨w, written, rfl⟩
  · exact .inl ((s.ps.mem_images img).mpr (.inl a))
  · exact .inl ((s.ps.mem_images img).mpr (.inr (.inl b)))
  · obtain rfl := Option.some.inj written
    exact .inr rfl

theorem mem_images_startWrite {occ : Occasion} {s : State} {img : Image} (mem : img ∈ (startWrite occ s).images) :
    img ∈ s.images ∨ img.contents = s.snapshot := by
  unfold startWrite at mem
  split at mem
  · exact .inl mem
  · exact mem_images_beginWrite mem

/-- A finished write moves its image into a slot. -/
theorem mem_images_store {x : Ps} {w : Write} {good : Bool} {img : Image} (writing : x.write = some w)
    (mem : img ∈ (x.store w good).images) : img ∈ x.images := by
  have finished : w.img ∈ x.images := (x.mem_images _).mpr (.inr (.inr ⟨w, writing, rfl⟩))
  rw [Ps.mem_images] at mem
  unfold Ps.store at mem
  split at mem
  · rcases mem with new | b | ⟨w, written, -⟩
    · exact List.mem_singleton.mp new ▸ finished
    · exact (x.mem_images img).mpr (.inr (.inl b))
    · simp at written
  · rcases mem with a | new | ⟨w, written, -⟩
    · exact (x.mem_images img).mpr (.inl a)
    · exact List.mem_singleton.mp new ▸ finished
    · simp at written

theorem restartPeriodic_images (s : State) : (restartPeriodic s).images = s.images := by
  unfold restartPeriodic
  split <;> rfl

theorem writeFollows_images (occ : Occasion) (good : Bool) (s : State) :
    (writeFollows occ good s).images = s.images := by
  cases occ <;> rfl

theorem passMs_images (s : State) : (passMs s).images = s.images := by
  simp only [passMs]
  split <;> rfl

end Sys2Proof.Machine
end

section
/-! The ranges of the calendar (03 R39, R41, R46, R47): what the clock, the tables and the images keep. -/

namespace Sys2Proof.Machine

/-! ### Schedules and the trim used -/

/-- The running calendar's part of the ranges. -/
structure Tc.Sound (x : Tc) : Prop where
  sched : x.sched.Sound
  trimUsed : x.trimUsed ≤ 120

theorem calendarSound_iff (s : State) : CalendarSound s ↔
    s.tc.Sound ∧ ∀ img ∈ s.images, img.contents.sched.Sound :=
  ⟨fun ⟨sched, trimUsed, images⟩ => ⟨⟨sched, trimUsed⟩, images⟩,
    fun ⟨running, images⟩ => ⟨running.sched, running.trimUsed, images⟩⟩

theorem Schedule.Sound.withClock {x : Schedule} (hx : x.Sound) {n : Nat} (hn : n ≤ maxClock) (index : Nat) :
    Schedule.Sound { x with clock := n, cycleIndex := index } :=
  ⟨hn, hx.rates, hx.profileA, hx.profileB, hx.weekMap⟩

theorem Schedule.Sound.withWeekMap {x : Schedule} (hx : x.Sound) (letters : List ProfileId)
    (days : letters.length = 7) : Schedule.Sound { x with weekMap := letters } :=
  ⟨hx.clock, hx.rates, hx.profileA, hx.profileB, days⟩

theorem PerBand.get_set {α : Type} (t : PerBand α) (i j : Band) (x : α) :
    (t.set i x).get j = if j = i then x else t.get j := by
  fin_cases i <;> fin_cases j <;> rfl

theorem PerBlock.get_set {α : Type} (t : PerBlock α) (i j : Block) (x : α) :
    (t.set i x).get j = if j = i then x else t.get j := by
  fin_cases i <;> fin_cases j <;> rfl

/-- A rate in range joins the table (03 R46). -/
theorem Schedule.Sound.withRate {x : Schedule} (hx : x.Sound) (band : Band) (block : Block) {rate : Nat}
    (hr : rate ≤ 100000000) :
    Schedule.Sound { x with rates := x.rates.set band ((x.rates.get band).set block rate) } := by
  refine ⟨hx.clock, fun b k => ?_, hx.profileA, hx.profileB, hx.weekMap⟩
  show ((x.rates.set band ((x.rates.get band).set block rate)).get b).get k ≤ 100000000
  rw [PerBand.get_set]
  split
  · rw [PerBlock.get_set]
    split
    · exact hr
    · exact hx.rates band k
  · exact hx.rates b k

/-- A fresh calendar keeps the ranges (03 R46, R47, R53). -/
theorem Tc.Sound.manufacture : Tc.manufacture.Sound := by
  have midnight : profileSound [⟨0, 0⟩] := ⟨by decide, by decide, List.pairwise_singleton _ _, by simp⟩
  exact ⟨⟨by decide, by decide, midnight, midnight, rfl⟩, by decide⟩

/-! ### Operations of the calendar -/

theorem Tc.Sound.compareAllowance {x : Tc} (hx : x.Sound) : x.compareAllowance.Sound := by
  rw [Tc.compareAllowance_eq]
  refine ⟨hx.sched, ?_⟩
  have := hx.trimUsed
  dsimp only
  split <;> omega

theorem evaluateCalendar_sound {s : State} (hs : s.tc.Sound) : (evaluateCalendar s).tc.Sound := by
  rw [evaluateCalendar_tc]
  refine ⟨hs.sched.withClock hs.sched.clock _, ?_⟩
  have := hs.trimUsed
  dsimp only
  split <;> omega

/-- A trim applies no more than the day's allowance leaves, within the clock's range (03 R41, R42). -/
theorem trimClock_sound (d : Int) {s : State} (hs : s.tc.Sound) : (trimClock d s).tc.Sound := by
  have compared := hs.compareAllowance
  obtain ⟨left, low, high⟩ := s.tc.compareAllowance.trimAmount_range d compared.sched.clock
  have used := compared.trimUsed
  refine evaluateCalendar_sound ⟨compared.sched.withClock ?_ _, ?_⟩
  · omega
  · show s.tc.compareAllowance.trimUsed + (s.tc.compareAllowance.trimAmount d).natAbs ≤ 120
    omega

theorem setClock_sound {day minute second : Nat} {s : State} (hs : s.tc.Sound)
    (clock : day * 86400 + minute * 60 + second ≤ maxClock) : (setClock day minute second s).tc.Sound := by
  have set : (setClock day minute second s).tc = (evaluateCalendar _).tc := (raise_frame _ _).2.2.2.1
  rw [set]
  exact evaluateCalendar_sound ⟨hs.sched.withClock clock _, Nat.zero_le _⟩

theorem setRate_sound (band : Band) (block : Block) {rate : Nat} {s : State} (hs : s.tc.Sound)
    (hr : rate ≤ 100000000) : (setRate band block rate s).tc.Sound :=
  evaluateCalendar_sound ⟨hs.sched.withRate band block hr, hs.trimUsed⟩

theorem setProfile_sound (which : ProfileId) {points : List SwitchPoint} {s : State} (hs : s.tc.Sound)
    (hp : profileSound points) : (setProfile which points s).tc.Sound := by
  refine evaluateCalendar_sound ⟨?_, hs.trimUsed⟩
  obtain ⟨clock, rates, profileA, profileB, weekMap⟩ := hs.sched
  cases which
  · exact ⟨clock, rates, hp, profileB, weekMap⟩
  · exact ⟨clock, rates, profileA, hp, weekMap⟩

theorem rebaseCycle_sound (before : Nat) {s : State} (hs : s.tc.Sound) : (rebaseCycle before s).tc.Sound := by
  unfold rebaseCycle
  split
  · exact hs
  · exact ⟨hs.sched.withClock hs.sched.clock _, hs.trimUsed⟩

theorem clockAdvance_sound {s : State} (hs : s.tc.Sound) : (clockAdvance s).tc.Sound := by
  unfold clockAdvance
  split
  · exact ⟨hs.sched.withClock (min_le_left _ _) _, hs.trimUsed⟩
  · exact hs

theorem tcEdgeEvaluation_sound {s : State} (hs : s.tc.Sound) : (tcEdgeEvaluation s).tc.Sound := by
  unfold tcEdgeEvaluation
  split
  · exact evaluateCalendar_sound hs
  · exact hs

/-! ### Codes (05 R94, R96, R97, R101) -/

theorem startsIncrease_pairwise {points : List SwitchPoint} (increase : startsIncrease points = true) :
    points.Pairwise fun x y => x.start < y.start := by
  have : IsTrans SwitchPoint fun x y => x.start < y.start := ⟨fun _ _ _ => lt_trans⟩
  rw [← List.isChain_iff_pairwise]
  induction points with
  | nil => exact .nil
  | cons x rest ih =>
    cases rest with
    | nil => exact .singleton x
    | cons y rest =>
      simp only [startsIncrease, Bool.and_eq_true, decide_eq_true_eq] at increase
      exact .cons_cons increase.1 (ih increase.2)

/-- The points of a good SET_PROFILE content are a day profile (03 R47, 05 R101). -/
theorem profileGood_sound {content : Nat} (good : profileGood content = true) :
    profileSound ((List.range (contentField content 72 3)).map (contentPoint content)) := by
  simp only [profileGood, Bool.and_eq_true, decide_eq_true_eq, List.all_eq_true] at good
  obtain ⟨⟨⟨⟨⟨some, six⟩, starts⟩, increase⟩, -⟩, -⟩ := good
  exact ⟨by simpa using some, by simpa using six, startsIncrease_pairwise increase, starts⟩

theorem configEffect_sound (index v : Nat) {s : State} (hs : s.tc.Sound) : (configEffect index v s).tc.Sound := by
  unfold configEffect
  dsimp only
  (repeat' split)
  · rw [(changeAllowance_frame _ _).2.2.1]; exact hs
  · rw [(recompute_frame _ _).2.2.2.1]; exact hs
  · exact evaluateCalendar_sound (rebaseCycle_sound _ hs)
  · exact evaluateCalendar_sound hs
  · rw [(evaluateTamper_frame _).2.2.2.1]; exact hs
  · exact hs

theorem completeGroup_sound (g : PendingGroup) (c : Code) {s : State} (hs : s.tc.Sound) :
    (completeGroup g c s).state.tc.Sound := by
  have dropped : (s.setGroup none).tc.Sound := hs
  unfold completeGroup
  dsimp only
  split
  · unfold applyRateGroup
    dsimp only
    split
    · exact dropped
    · simpa using setRate_sound _ _ dropped (min_le_right _ _)
  · unfold applyProfileGroup
    dsimp only
    split
    · next good => simpa using setProfile_sound _ dropped (profileGood_sound good)
    · exact dropped
  · simpa using hs

theorem applyPart_sound (cls : GroupClass) (src : Source) (c : Code) {s : State} (hs : s.tc.Sound) :
    (applyPart cls src c s).state.tc.Sound := by
  unfold applyPart
  dsimp only
  (repeat' split)
  · exact hs
  · exact hs
  · exact completeGroup_sound _ _ hs
  · exact hs

/-- A code whose value keeps its class's rules leaves the ranges: a SET_CLOCK code's clock is in range (05 R83, R96). -/
theorem applyCode_sound (src : Source) (c : Code) (day : Int) {s : State} (hs : s.tc.Sound)
    (value : valueGood c.cls day c.value = true) : (applyCode src c day s).state.tc.Sound := by
  unfold applyCode
  split
  · simpa using hs
  · simpa using hs
  · simpa using hs
  · simpa using hs
  · unfold applySetConfig
    dsimp only
    split
    · simpa using configEffect_sound _ _ hs
    · exact hs
  · simpa using hs
  · next setClock =>
    rw [setClock] at value
    simp only [valueGood, Bool.and_eq_true, decide_eq_true_eq] at value
    unfold codeClock at value
    have clock : day.toNat * 86400 + valueField c.value 10 11 * 60 + valueField c.value 4 6 ≤ maxClock := by omega
    simpa [applySetClock] using setClock_sound hs clock
  · have mapped := hs.sched.withWeekMap ([14, 15, 16, 17, 18, 19, 20].map fun i => letterOf (c.value.getLsbD i)) rfl
    simpa [applySetWeekmap] using
      evaluateCalendar_sound (s := s.setTc { s.tc with sched := _ }) ⟨mapped, hs.trimUsed⟩
  · split
    · exact applyPart_sound _ _ _ hs
    · exact hs

/-- An authentic code is refused with nothing changed, or it is applied with a value that keeps its class's rules. -/
theorem judgeAuthentic_cases (src : Source) (c : Code) (s : State) :
    (judgeAuthentic src c s).state = s ∨
    (valueGood c.cls (issueDay (dayOf s.clock) c.day) c.value = true ∧
      judgeAuthentic src c s = applyCode src c (issueDay (dayOf s.clock) c.day) s) := by
  unfold judgeAuthentic
  dsimp only
  iterate 5 (split; · exact .inl rfl)
  split
  · exact .inl rfl
  · next value => exact .inr ⟨by simpa using value, rfl⟩

/-- What judging a code can come to (05 R79): nothing, a failed attempt, or steps 4 to 9 of an authentic code. -/
theorem judgeCode_cases (src : Source) (chars : List Byte) (s : State) :
    (judgeCode src chars s).state = s ∨ (judgeCode src chars s).state = failAttempt src s ∨
    ∃ c, judgeCode src chars s = judgeAuthentic src c (passAuthentic src c s) := by
  unfold judgeCode
  split
  · exact .inl rfl
  split
  · exact .inl rfl
  dsimp only
  split
  · exact .inr (.inr ⟨_, rfl⟩)
  · exact .inr (.inl rfl)

theorem judgeCode_sound (src : Source) (chars : List Byte) {s : State} (hs : s.tc.Sound) :
    (judgeCode src chars s).state.tc.Sound := by
  rcases judgeCode_cases src chars s with same | failed | ⟨c, judged⟩
  · rw [same]; exact hs
  · rw [failed]; simpa using hs
  have passed : (passAuthentic src c s).tc.Sound := by simpa using hs
  rw [judged]
  rcases judgeAuthentic_cases src c (passAuthentic src c s) with same | ⟨value, applied⟩
  · rw [same]; exact passed
  · rw [applied]; exact applyCode_sound src c _ passed value

/-! ### The checkpoint (10 R167) -/

theorem CalendarSound.running {s : State} (hs : CalendarSound s) : s.tc.Sound := ((calendarSound_iff s).mp hs).1

theorem CalendarSound.held {s : State} (hs : CalendarSound s) : ∀ img ∈ s.images, img.contents.sched.Sound :=
  ((calendarSound_iff s).mp hs).2

/-- The ranges are kept by what keeps those of the running calendar and adds no image. -/
theorem CalendarSound.mono {s t : State} (hs : CalendarSound s) (tc : t.tc.Sound)
    (images : ∀ img ∈ t.images, img ∈ s.images) : CalendarSound t :=
  (calendarSound_iff t).mpr ⟨tc, fun img mem => hs.held img (images img mem)⟩

theorem CalendarSound.retimed {s t : State} (hs : CalendarSound s) (tc : t.tc.Sound) (ps : t.ps = s.ps) :
    CalendarSound t :=
  hs.mono tc fun img mem => by rwa [State.images, ps] at mem

theorem CalendarSound.frame {s t : State} (hs : CalendarSound s) (tc : t.tc = s.tc) (ps : t.ps = s.ps) :
    CalendarSound t :=
  hs.retimed (tc ▸ hs.running) ps

/-- The image of a write holds the running schedule. -/
theorem CalendarSound.startWrite (occ : Occasion) {s : State} (hs : CalendarSound s) :
    CalendarSound (startWrite occ s) := by
  refine (calendarSound_iff _).mpr ⟨by simpa using hs.running, fun img mem => ?_⟩
  rcases mem_images_startWrite mem with before | now
  · exact hs.held img before
  · rw [now]; exact hs.running.sched

theorem CalendarSound.beginNext {s : State} (hs : CalendarSound s) : CalendarSound (beginNext s) := by
  unfold Machine.beginNext
  split
  · next occ rest _ =>
    have taken : CalendarSound (s.setPs { s.ps with nextWrites := rest }) := hs
    refine (calendarSound_iff _).mpr ⟨by simpa using hs.running, fun img mem => ?_⟩
    rcases mem_images_beginWrite mem with before | now
    · exact taken.held img before
    · rw [now]; exact hs.running.sched
  · exact hs

theorem enterDormant_calendar {s : State} (hs : CalendarSound s) : CalendarSound (enterDormant s) :=
  CalendarSound.startWrite .dormantEntry (s := s.setPs _) hs

theorem enterHoldup_calendar {s : State} (hs : CalendarSound s) : CalendarSound (enterHoldup s) := by
  have departed : CalendarSound (departBlocks s) := hs
  unfold enterHoldup
  dsimp only
  split
  · exact departed.startWrite _
  · exact enterDormant_calendar (departed.startWrite _)

theorem startPeriodic_calendar {s : State} (hs : CalendarSound s) : CalendarSound (startPeriodic s) :=
  CalendarSound.startWrite .periodic (s := s.setHlc _) hs

theorem writeDone_calendar (good : Bool) {s : State} (hs : CalendarSound s) : CalendarSound (writeDone good s) := by
  unfold writeDone
  split
  · next w writing =>
    have stored : CalendarSound (s.setPs (s.ps.store w good)) :=
      hs.mono hs.running fun img mem => mem_images_store writing mem
    have followed : CalendarSound (writeFollows w.img.occasion good (restartPeriodic (s.setPs (s.ps.store w good)))) :=
      stored.mono (by simpa using hs.running) fun img mem => by
        rwa [writeFollows_images, restartPeriodic_images] at mem
    have begun := followed.beginNext
    dsimp only [releaseHoldup]
    split
    · exact enterHoldup_calendar begun
    · exact begun
  · exact hs

/-! ### Requests -/

theorem replyJudged_calendar {j : Judged} (hs : CalendarSound j.state) : CalendarSound (replyJudged j) := by
  unfold replyJudged
  dsimp only
  split
  · exact CalendarSound.startWrite (s := j.state.setHlc _) .code hs
  · exact hs

/-- The minute of a COMMISSION request that passes its checks (11 R172). -/
theorem commission_minute_le {kind : Byte} {payload : List Byte} {power : Power}
    (passes : refusal kind payload power = none) (commission : kind.toNat = 0x20) :
    (commissionOf payload).minute ≤ 1439 := by
  have good : fieldsGood kind.toNat payload = true := by
    unfold refusal at passes
    split_ifs at passes with _ _ _ good
    simpa using good
  rw [commission] at good
  simp only [fieldsGood, CommissionRequest.allowed, Bool.and_eq_true, decide_eq_true_eq] at good
  obtain ⟨⟨⟨⟨⟨⟨minute, -⟩, -⟩, -⟩, -⟩, -⟩, -⟩ := good
  exact minute

theorem EntryAction_run_sound (a : EntryAction) {s : State} (hs : s.tc.Sound) : (a.run s).tc.Sound := by
  cases a with
  | calendarAndCredit => simpa [EntryAction.run] using evaluateCalendar_sound hs
  | switch => simpa [EntryAction.run] using hs
  | limiterAndTamper => simpa [EntryAction.run] using hs

theorem runEntryActions_sound (l : List EntryAction) {s : State} (hs : s.tc.Sound) :
    (l.foldl (fun t a => a.run t) s).tc.Sound := by
  induction l generalizing s with
  | nil => exact hs
  | cons a rest ih => exact ih (EntryAction_run_sound a hs)

theorem commissionEntry_sound (r : CommissionRequest) {s : State} (hs : s.tc.Sound) :
    (commissionEntry r s).tc.Sound :=
  runEntryActions_sound _ (by simpa using hs)

theorem commission_calendar (r : CommissionRequest) (reply : Reply) {s : State} (hs : CalendarSound s)
    (minute : r.minute ≤ 1439) : CalendarSound (commission r reply s) := by
  have clock : r.minute * 60 ≤ maxClock := by simp only [maxClock]; omega
  have calendar : (commissionCalendar r s).tc.Sound :=
    evaluateCalendar_sound ⟨hs.running.sched.withClock clock _, Nat.zero_le _⟩
  have entered : (commissionEntry r (commissionTamper (commissionLedger r (commissionBlocks r
      (commissionCalendar r s))))).tc.Sound := commissionEntry_sound r (by simpa using calendar)
  refine CalendarSound.startWrite _ (hs.mono entered fun img mem => ?_)
  simpa [commissionEntry, State.images, Ps.images] using mem

theorem runRequest_calendar (kind : Byte) (payload : List Byte) {s : State} (hs : CalendarSound s)
    (passes : refusal kind payload s.ps.power = none) : CalendarSound (runRequest kind payload s) := by
  unfold runRequest
  split
  iterate 8 exact hs
  · exact replyJudged_calendar (hs.retimed (judgeCode_sound _ _ hs.running) (by simp))
  · exact hs.frame (by simp) (by simp)
  · exact hs.retimed (trimClock_sound _ hs.running) (by simp)
  · next commission => exact commission_calendar _ _ hs (commission_minute_le passes commission)
  · exact hs

theorem takeFrame_calendar (kind : Byte) (payload : List Byte) {s : State} (hs : CalendarSound s) :
    CalendarSound (takeFrame kind payload s) := by
  unfold takeFrame takeRequest
  (repeat' split)
  · exact hs
  · next passes => exact runRequest_calendar kind payload hs passes
  · exact hs
  · exact hs

theorem collectByte_calendar (bytes : List Byte) {s : State} (hs : CalendarSound s) :
    CalendarSound (collectByte bytes s) := by
  unfold collectByte frameComplete
  dsimp only
  (repeat' split)
  · exact hs
  · exact hs
  · exact takeFrame_calendar _ _ (s := s.setRx none) hs
  · exact hs

theorem receiveByte_calendar (b : LineByte) {s : State} (hs : CalendarSound s) : CalendarSound (receiveByte s b) := by
  unfold receiveByte
  (repeat' split)
  · exact hs
  · exact hs
  · exact hs
  · exact collectByte_calendar _ hs
  · exact hs

theorem receiveBytes_calendar (bytes : List LineByte) {s : State} (hs : CalendarSound s) :
    CalendarSound (bytes.foldl receiveByte s) := by
  induction bytes generalizing s with
  | nil => exact hs
  | cons b rest ih => exact ih (receiveByte_calendar b hs)

/-! ### The power supervisor -/

theorem enterActive_calendar {s : State} (hs : CalendarSound s) : CalendarSound (enterActive s) :=
  hs.retimed (runEntryActions_sound _ (by simpa using hs.running)) (by simp)

theorem warmReturn_calendar {s : State} (hs : CalendarSound s) : CalendarSound (warmReturn s) := by
  unfold warmReturn
  exact enterActive_calendar hs

/-- A restore brings back a schedule an image held (10 R170). -/
theorem restoreFrom_calendar {img : Image} {s : State} (hs : CalendarSound s) (mem : img ∈ s.images) :
    CalendarSound (restoreFrom img s) := by
  have running : (restoredState img.contents s).tc.Sound := ⟨hs.held img mem, Nat.zero_le _⟩
  have restored : CalendarSound (restoredState img.contents s) := hs.mono running fun other held => by
    rcases (Ps.mem_images _ other).mp held with a | b | ⟨w, written, -⟩
    · exact (s.ps.mem_images other).mpr (.inl a)
    · exact (s.ps.mem_images other).mpr (.inr (.inl b))
    · simp [restoredState, Ps.restored, Ps.manufacture] at written
  exact enterActive_calendar (restored.frame (by simp) (by simp))

theorem manufactured_calendar (power : Power) (tl : Tl) {s : State} (hs : CalendarSound s) :
    CalendarSound (manufactured power tl s) :=
  hs.mono Tc.Sound.manufacture fun img held => by
    rcases (Ps.mem_images _ img).mp held with a | b | ⟨w, written, -⟩
    · exact (s.ps.mem_images img).mpr (.inl a)
    · exact (s.ps.mem_images img).mpr (.inr (.inl b))
    · simp [manufactured, Ps.manufacture] at written

theorem startCore_calendar {s : State} (hs : CalendarSound s) : CalendarSound (startCore s) := by
  unfold startCore
  split
  · next newest => exact restoreFrom_calendar hs (Ps.mem_images_of_newest newest)
  · exact manufactured_calendar _ _ hs

theorem doReturn_calendar {s : State} (hs : CalendarSound s) : CalendarSound (doReturn s) := by
  unfold doReturn
  split
  · exact warmReturn_calendar hs
  · exact startCore_calendar hs

/-! ### The step -/

theorem tick_calendar {s : State} (hs : CalendarSound s) : CalendarSound (tick s) := by
  have passed : CalendarSound (passMs s) := by
    refine hs.mono ?_ fun img mem => by rwa [passMs_images] at mem
    simp only [passMs]
    split <;> exact ⟨hs.running.sched, hs.running.trimUsed⟩
  exact passed.frame (by simp [tick]) (by simp [tick])

theorem exec_calendar {c : Instr} {s t : State} (hs : CalendarSound s) (h : exec c s = .next t) : CalendarSound t := by
  cases c <;> obtain rfl := Host.Outcome.next.inj h
  case identify | getStatus | getLedger | getEnergy | getTariff | getTime | getEvents | readTamperLog | submitCode |
      restore | acceptEmergency | trimClock | commission | badKind | busy => exact takeFrame_calendar _ _ hs
  case frameDiscard bytes => exact receiveBytes_calendar bytes hs
  case clockAdvance => exact hs.retimed (clockAdvance_sound hs.running) (by simp)
  case tcEdgeEvaluation => exact hs.retimed (tcEdgeEvaluation_sound hs.running) (by simp)
  case frameTimeout | replySent | linkResetAssert | linkResetRelease | burstEnd | silenceReport |
      suppressionTimerExpiry | recordTake | silenceTick | sensorInputChange | sensorFilterExpiry | deemedHoldExpiry |
      linklossMeasure | lockoutEnd | groupTimeout | coilPulseEnd | pulseCleared | coilCutoff | settleEnd |
      weldRetryExpiry | recloseTimerExpiry | recloseWindowExpiry =>
    exact hs.frame (by simp) (by simp)
  case holdupSample =>
    refine hs.mono (by simpa using hs.running) fun img mem => ?_
    unfold holdupSample at mem
    split at mem
    · simpa [State.images, Ps.images] using mem
    · exact mem
  case vmainFall =>
    unfold vmainFall
    split
    · dsimp only
      split <;> exact hs
    · exact hs
  case vmainRise =>
    unfold vmainRise
    split
    · exact hs
    · dsimp only
      split <;> exact hs
  case holdupEntry vback =>
    have entered : CalendarSound (enterHoldup (s.setPins { s.pins with vback := vback })) := enterHoldup_calendar hs
    unfold holdupEntry
    split
    · dsimp only
      split
      · exact hs
      · exact entered
      · exact entered
      · exact entered
    · exact hs
  case shelfPowerLoss =>
    unfold shelfPowerLoss
    split
    · exact manufactured_calendar _ _ hs
    · exact hs
  case returnDecision =>
    unfold returnDecision
    (repeat' split)
    · exact hs
    · exact doReturn_calendar hs
    · exact hs
  case deferredReturn =>
    unfold deferredReturn
    split
    · exact doReturn_calendar hs
    · exact hs
  case dormantEntry =>
    unfold dormantEntry
    dsimp only
    split
    · exact enterDormant_calendar (s := s.setPins _) hs
    · exact hs
  case powerUp =>
    unfold powerUp
    split
    · exact startCore_calendar hs
    · exact hs
  case periodicCheckpoint =>
    unfold periodicCheckpoint
    (repeat' split)
    · exact startPeriodic_calendar (s := s.setPs _) hs
    · exact hs
    · exact hs
  case deferredPeriodicWrite =>
    unfold deferredPeriodicWrite
    split
    · exact startPeriodic_calendar (s := s.setPs _) hs
    · exact hs
  case checkpointWriteDone good => exact writeDone_calendar good hs
  case holdUpReserveExhaustion =>
    unfold reserveExhausted
    split
    · exact writeDone_calendar false hs
    · exact hs

/-- Settles O15: each command keeps the ranges, and so does the passing of a millisecond. -/
theorem stepKeepsCalendarRanges : Obligations.StepKeepsCalendarRanges := by
  intro s t hs h
  unfold step at h
  split at h
  · next c rest _ => exact exec_calendar (s := s.setPending rest) hs h
  · obtain rfl := Host.Outcome.next.inj h
    exact tick_calendar hs

end Sys2Proof.Machine
end

section
/-! Codes that reach the apply step (05 R79, R84): what is left of the pending group, how a single code is consumed,
answered and written. -/

namespace Sys2Proof.Machine

/-! ### Notices that join together -/

/-- Notices that find room stand behind those that wait, in their order (12 R182). -/
theorem joinAll_of_room (l : List Notice) (h : Hlc) (room : (h.queue ++ l).length ≤ 16) :
    (l.foldl Hlc.join h).queue = h.queue ++ l ∧ (l.foldl Hlc.join h).overflow = h.overflow := by
  induction l generalizing h with
  | nil => simp
  | cons n l ih =>
    have free : h.queue.length < 16 := by simp at room; omega
    have joined : h.join n = { h with queue := h.queue ++ [n] } := if_pos free
    obtain ⟨queue, overflow⟩ := ih (h.join n) (by simpa [joined] using room)
    exact ⟨by simpa [joined] using queue, by simpa [joined] using overflow⟩

/-- A full queue drops them all, and the overflow flag is set when there are any (12 R182). -/
theorem joinAll_of_full (l : List Notice) (h : Hlc) (full : 16 ≤ h.queue.length) :
    (l.foldl Hlc.join h).queue = h.queue ∧ (l.foldl Hlc.join h).overflow = (h.overflow || !l.isEmpty) := by
  induction l generalizing h with
  | nil => simp
  | cons n l ih =>
    obtain ⟨kept, overflow⟩ := h.join_of_full n full
    obtain ⟨queue, overflow'⟩ := ih (h.join n) (kept ▸ full)
    exact ⟨queue.trans kept, by simp [overflow', overflow]⟩

/-! ### The way to the apply step -/

theorem valueField_eq (v : BitVec 21) (lo width : Nat) : valueField v lo width = v.toNat / 2 ^ lo % 2 ^ width := by
  simp [valueField, BitVec.extractLsb'_toNat, Nat.shiftRight_eq_div_pow]

/-- The notice of the pending group that a code of another kind discards (05 R99). -/
def State.groupNotice (s : State) : List Notice :=
  s.ce.group.toList.map fun g => ⟨.groupDropped g.cls g.sequence g.indices g.firstSource false, s.clock⟩

/-- An authentic single code restores its source's attempts and discards the pending group (05 R87, R99). -/
theorem passAuthentic_of_single (src : Source) {c : Code} (s : State) (single : groupClassOf c.cls = none) :
    passAuthentic src c s =
      (s.setCe { s.ce with
        keys := { s.ce.keys with attempts := s.ce.keys.attempts.set src 5 }, group := none }).setHlc
        (s.groupNotice.foldl Hlc.join s.hlc) := by
  unfold passAuthentic compareGroup
  split
  · next g pending =>
    have pending : s.ce.group = some g := pending
    have other : g.matchesCode c = false := by simp [PendingGroup.matchesCode, single]
    rw [if_neg (by simp [other])]
    simp only [State.groupNotice, pending]
    rfl
  · next absent =>
    have absent : s.ce.group = none := absent
    obtain ⟨params, mli, be, tc, cl, ⟨keys, lockout, group⟩, rest⟩ := s
    obtain rfl := absent
    rfl

theorem groupClassOf_of_single {cls : Nat} (single : cls ≤ 7) : groupClassOf cls = none := by
  interval_cases cls <;> rfl

/-- The source a SUBMIT_CODE frame names. -/
theorem sourceOf_sourceByte (src : Source) (chars : List Byte) :
    sourceOf (fieldAt (sourceByte src :: chars) 0 1) = src := by
  rw [fieldAt_head]
  cases src <;> rfl

/-- A code that passes every check is applied (05 R79). -/
theorem submitCode_of_passes {s : State} {src : Source} {chars : List Byte} {c : Code}
    (presented : s.presents src chars c) (passes : s.passes c) (single : c.cls ≤ 7)
    (permitted : sourcePermitted src c.cls = true) : exec (.submitCode (sourceByte src :: chars)) s =
      .next (replyJudged (applyCode src c (issueDay (dayOf s.clock) c.day) (passAuthentic src c s))) := by
  obtain ⟨n, spelled, decoded⟩ := presented.spells
  have length : chars.length = 21 := by
    unfold codeNumber at spelled
    split at spelled
    · assumption
    · simp at spelled
  have source := sourceOf_sourceByte src chars
  have fits : refusal 0x10#8 (sourceByte src :: chars) s.ps.power = none := by
    rw [presented.active]
    cases src <;> simp [refusal, kindKnown, lengthGood, servedIn, fieldsGood, fieldAt_head, sourceByte]
  have judged : judgeCode src chars s = judgeAuthentic src c (passAuthentic src c s) := by
    unfold judgeCode
    rw [if_neg presented.attempts, spelled]
    simp only [decoded, presented.authentic, if_true]
  have applied : judgeAuthentic src c (passAuthentic src c s) =
      applyCode src c (issueDay (dayOf s.clock) c.day) (passAuthentic src c s) := by
    have none : groupClassOf c.cls = none := groupClassOf_of_single single
    have clock : (passAuthentic src c s).clock = s.clock := by simp [State.clock]
    have inDate : codeExpired (passAuthentic src c s) c = false := by
      simpa [codeExpired, clock] using passes.inDate
    have keys : (passAuthentic src c s).ce.keys = { s.ce.keys with attempts := s.ce.keys.attempts.set src 5 } := by
      rw [passAuthentic_of_single src s none]; rfl
    unfold judgeAuthentic
    simp [keys, clock, inDate, passes.value, permitted, passes.unused, not_le.mpr passes.aboveFloor,
      not_le.mpr (show c.cls < 11 by omega)]
  refine congrArg Host.Outcome.next
    ((takeFrame_of_ready presented.ready (by simp [length]) (by decide) fits).trans ?_)
  show doSubmitCode (sourceByte src :: chars) s = _
  rw [doSubmitCode, source, List.tail_cons, judged, applied]

/-! ### The apply step (05 R84) -/

theorem Keys.consume_attempts (k : Keys) (x : PerSource Nat) (n : Nat) :
    Keys.consume { k with attempts := x } n = { k.consume n with attempts := x } := by
  simp only [Keys.consume]
  split <;> rfl

/-- What an applied code leaves of the host link: its reply waits for the checkpoint write (05 R84). -/
theorem replyJudged_apply_hlc (o : CodeOutcome) (c : Code) (detail : List Byte) (u : State) :
    (replyJudged (apply o c detail u)).hlc = { u.hlc with
      slot := Slot.awaitingWrite
        (some ⟨0x90#8, 0x00#8 :: ([BitVec.ofNat 8 o.number, BitVec.ofNat 8 c.cls] ++ detail)⟩) } := by
  simp [replyJudged, apply, Judged.bytes, replyTo, Status.byte, bytesOf]

/-- A write that finds the store free is under way with the state it finds. -/
theorem startWrite_of_free {s : State} (free : s.ps.write = none) (occ : Occasion) :
    ∃ w, (startWrite occ s).ps.write = some w ∧ w.img.occasion = occ ∧
      w.img.contents = (startWrite occ s).snapshot := by
  have begun : startWrite occ s = beginWrite occ s := if_neg (by simp [free])
  exact ⟨_, by rw [begun]; rfl, rfl, by rw [begun]; rfl⟩

/-- A code whose effect leaves the keys and the power supervisor is consumed (05 R84, R89). -/
theorem consumed_of_apply {s u : State} {src : Source} {c : Code} (o : CodeOutcome) (detail : List Byte)
    (free : s.ps.write = none) (ps : u.ps = s.ps)
    (keys : u.ce.keys = { s.ce.keys with attempts := s.ce.keys.attempts.set src 5 }) :
    s.consumed (replyJudged (apply o c detail u)) src c
      ([BitVec.ofNat 8 o.number, BitVec.ofNat 8 c.cls] ++ detail) where
  keys := by
    have consumed : (replyJudged (apply o c detail u)).ce.keys = u.ce.keys.consume c.sequence := by
      rw [(replyJudged_frame _).2.2.2.2.2.1]
      rfl
    rw [consumed, keys, Keys.consume_attempts]
  reply := by rw [replyJudged_apply_hlc]
  write := startWrite_of_free (s := (apply o c detail u).state.setHlc _) (by simp [ps, free]) .code

/-- The state in which a presented code meets its owner. -/
theorem passAuthentic_keys (src : Source) {c : Code} (s : State) (single : c.cls ≤ 7) :
    (passAuthentic src c s).ce.keys = { s.ce.keys with attempts := s.ce.keys.attempts.set src 5 } := by
  rw [passAuthentic_of_single src s (groupClassOf_of_single single)]
  rfl

/-- The consumption, the reply and the checkpoint write of a code have been added to its effect u, and nothing else. -/
structure AppliedAs (u t : State) : Prop where
  params : t.params = u.params
  mli : t.mli = u.mli
  be : t.be = u.be
  tc : t.tc = u.tc
  cl : t.cl = u.cl
  sss : t.sss = u.sss
  ll : t.ll = u.ll
  tm : t.tm = u.tm
  tl : t.tl = u.tl
  pins : t.pins = u.pins
  queue : t.hlc.queue = u.hlc.queue
  overflow : t.hlc.overflow = u.hlc.overflow

theorem AppliedAs.acct {u t : State} (h : AppliedAs u t) : t.acct = u.acct := congrArg Cl.acct h.cl

theorem AppliedAs.clock {u t : State} (h : AppliedAs u t) : t.clock = u.clock :=
  congrArg (fun x : Tc => x.sched.clock) h.tc

/-- A code that passes every check and whose effect is u: it is executed, consumed and answered (05 R79, R84). -/
theorem submitCode_consumed {s : State} {src : Source} {chars : List Byte} {c : Code}
    (presented : s.presents src chars c) (passes : s.passes c) (single : c.cls ≤ 7)
    (permitted : sourcePermitted src c.cls = true) {o : CodeOutcome} {detail : List Byte} {u : State}
    (applied : applyCode src c (issueDay (dayOf s.clock) c.day) (passAuthentic src c s) = apply o c detail u)
    (ce : u.ce = (passAuthentic src c s).ce) (ps : u.ps = s.ps) :
    ∃ t, exec (.submitCode (sourceByte src :: chars)) s = .next t ∧
      s.consumed t src c ([BitVec.ofNat 8 o.number, BitVec.ofNat 8 c.cls] ++ detail) ∧ AppliedAs u t := by
  refine ⟨replyJudged (apply o c detail u),
    (submitCode_of_passes presented passes single permitted).trans (by rw [applied]),
    consumed_of_apply o detail presented.storeFree ps (by rw [ce, passAuthentic_keys src s single]), ?_⟩
  constructor
  case queue | overflow => rw [replyJudged_apply_hlc]
  all_goals simp

/-! ### What the owner finds -/

theorem passAuthentic_hlc (src : Source) {c : Code} (s : State) (single : c.cls ≤ 7) :
    (passAuthentic src c s).hlc = s.groupNotice.foldl Hlc.join s.hlc := by
  rw [passAuthentic_of_single src s (groupClassOf_of_single single)]
  rfl

@[simp] theorem passAuthentic_acct (src : Source) (c : Code) (s : State) :
    (passAuthentic src c s).acct = s.acct := by simp [State.acct]

@[simp] theorem passAuthentic_clock (src : Source) (c : Code) (s : State) :
    (passAuthentic src c s).clock = s.clock := by simp [State.clock]

theorem sourcePermitted_of_ne (src : Source) {cls : Nat} (remote : cls ≠ 2) (key : cls ≠ 10) :
    sourcePermitted src cls = true := by
  cases src <;> simp [sourcePermitted, remote, key]

end Sys2Proof.Machine
end

section
/-! The owners of the engineering codes (04 R63, 05 R92, R97, 07 R124, 03 R43), and the codes themselves. -/

namespace Sys2Proof.Machine

/-! ### Additions to debt (04 R58) -/

/-- The notice of an addition that debt cannot hold, unless a saturation was noted already (04 R58). -/
def State.saturationNotice (cause : DebtCause) (x : Nat) (s : State) : List Notice :=
  if maxCents < s.acct.debt + x ∧ s.acct.satNoted = false then
    [⟨.debtSaturated cause (s.acct.debt + x - maxCents), s.clock⟩]
  else []

theorem addDebt_cl (cause : DebtCause) (x : Nat) (s : State) : (addDebt cause x s).cl = { s.cl with
    acct := { s.acct with
      debt := min maxCents (s.acct.debt + x)
      satNoted := s.acct.satNoted || decide (maxCents < s.acct.debt + x) } } := by
  unfold addDebt
  split
  · next fits => simp [State.setAcct, Nat.min_eq_right fits, not_lt.mpr fits]
  · next full =>
    have full : maxCents < s.acct.debt + x := not_le.mp full
    dsimp only
    split <;> simp [State.setAcct, Nat.min_eq_left full.le, full]

theorem addDebt_hlc (cause : DebtCause) (x : Nat) (s : State) :
    (addDebt cause x s).hlc = (s.saturationNotice cause x).foldl Hlc.join s.hlc := by
  unfold addDebt State.saturationNotice
  split
  · next fits => rw [if_neg (fun h => absurd h.1 (not_lt.mpr fits))]; rfl
  · next full =>
    have full : maxCents < s.acct.debt + x := not_le.mp full
    dsimp only
    split
    · next noted => rw [if_neg (by simp [noted])]; rfl
    · next unnoted => rw [if_pos ⟨full, by simpa using unnoted⟩]; rfl

/-! ### The clock (03 R43) -/

@[simp] theorem raise_acct (body : NoticeBody) (s : State) : (raise body s).acct = s.acct := rfl

@[simp] theorem raise_clock (body : NoticeBody) (s : State) : (raise body s).clock = s.clock := rfl

/-- The calendar set to a clock on a day, before its evaluation (03 R43). -/
def State.clockSetTo (s : State) (day clock : Nat) : State := s.setTc { s.tc with
  sched := { s.tc.sched with clock := clock }
  phase := 0
  clockValid := true
  trimUsed := 0
  allowanceDay := day }

theorem setClock_eq (day minute second : Nat) (s : State) : setClock day minute second s =
    raise (.clockSet s.clock) (evaluateCalendar (s.clockSetTo day (day * 86400 + minute * 60 + second))) := rfl

theorem setClock_tc {day minute second : Nat} (s : State) (time : minute * 60 + second < 86400) :
    (setClock day minute second s).clock = day * 86400 + minute * 60 + second ∧
    (setClock day minute second s).tc.phase = 0 ∧ (setClock day minute second s).tc.clockValid = true ∧
    (setClock day minute second s).tc.trimUsed = 0 ∧ (setClock day minute second s).tc.allowanceDay = day := by
  have today : dayOf (day * 86400 + minute * 60 + second) = day := by simp only [dayOf]; omega
  generalize clock : day * 86400 + minute * 60 + second = now at today
  have tc : (setClock day minute second s).tc = (evaluateCalendar (s.clockSetTo day now)).tc := by
    rw [setClock_eq, clock]
    simp
  rw [State.clock, tc, evaluateCalendar_tc]
  simp [State.clock, State.clockSetTo, today]

/-- A set clock moves no money (03 R43). -/
theorem setClock_keeps (day minute second : Nat) (s : State) : (setClock day minute second s).acct = s.acct ∧
    (setClock day minute second s).be.reg.billedWh = s.be.reg.billedWh := by
  rw [setClock_eq, raise_acct, evaluateCalendar_acct, (raise_frame _ _).2.2.1, evaluateCalendar_billedWh]
  exact ⟨rfl, rfl⟩

/-! ### The notices of an evaluation -/

theorem Hlc.join_length_le (h : Hlc) (n : Notice) : (h.join n).queue.length ≤ h.queue.length + 1 := by
  unfold Hlc.join
  split <;> simp

/-- An operation has raised one notice at most. -/
def OneNotice (s t : State) : Prop := t.hlc.queue.length ≤ s.hlc.queue.length + 1

theorem OneNotice.of_same {s t : State} (same : t.hlc = s.hlc) : OneNotice s t := by
  rw [OneNotice, same]
  omega

theorem raise_oneNotice (body : NoticeBody) (s : State) : OneNotice s (raise body s) := s.hlc.join_length_le _

theorem becomeArmed_oneNotice (s : State) : OneNotice s (becomeArmed s) := by
  unfold becomeArmed
  dsimp only
  split
  · exact .of_same (by simp)
  · exact raise_oneNotice _ _

theorem addReason_oneNotice (r : Reason) (s : State) : OneNotice s (addReason r s) := by
  have acted (t : State) : OneNotice t (actOnAddition t) := by
    unfold actOnAddition
    split
    case h_2 => exact raise_oneNotice _ _
    all_goals exact .of_same (by simp)
  unfold addReason
  dsimp only
  split
  · exact .of_same rfl
  split
  · exact acted _
  · exact .of_same rfl

theorem removeReason_oneNotice (r : Reason) (origin : Origin) (s : State) : OneNotice s (removeReason r origin s) := by
  have acted (t : State) : OneNotice t (actOnEmptied t) := by
    unfold actOnEmptied
    split
    case h_1 => exact becomeArmed_oneNotice t
    case h_2 => split <;> exact .of_same (by simp)
    all_goals exact .of_same rfl
  unfold removeReason
  dsimp only
  split
  · split
    · split
      · exact acted _
      · exact .of_same rfl
    · exact .of_same rfl
  · exact .of_same rfl

/-- An evaluation raises at most the notice of the contactor that CL's decision moves (03 R50, 06 R121). -/
theorem evaluateCalendar_oneNotice (s : State) : OneNotice s (evaluateCalendar s) := by
  have decided (t : State) : OneNotice t (decideCredit .ordinary t) := by
    unfold decideCredit
    split <;> split
    · exact .of_same rfl
    · exact addReason_oneNotice _ (t.holdCredit true)
    · exact removeReason_oneNotice _ _ (t.holdCredit false)
    · exact .of_same rfl
  have edge : OneNotice (compareAndBand s) (friendlyEdge (compareAndBand s)) := by
    unfold friendlyEdge
    dsimp only
    split
    · exact .of_same rfl
    · exact decided ((compareAndBand s).setTc _)
  simpa [OneNotice, evaluateCalendar] using edge

theorem passAuthentic_oneNotice (src : Source) (c : Code) (s : State) : OneNotice s (passAuthentic src c s) := by
  unfold passAuthentic compareGroup
  split
  · split
    · exact .of_same (by simp)
    · exact raise_oneNotice _ ((s.setAttempts src 5).setGroup none)
  · exact .of_same (by simp)

/-- The notice of a set clock joins last (03 R43). -/
theorem setClock_queue_getLast {day minute second : Nat} (s : State) (room : s.hlc.queue.length ≤ 14) :
    (setClock day minute second s).hlc.queue.getLast? =
      some ⟨.clockSet s.clock, (setClock day minute second s).clock⟩ := by
  have evaluated := evaluateCalendar_oneNotice (s.clockSetTo day (day * 86400 + minute * 60 + second))
  rw [setClock_eq, raise_clock]
  generalize evaluateCalendar (s.clockSetTo day (day * 86400 + minute * 60 + second)) = u at evaluated ⊢
  have free : u.hlc.queue.length < 16 :=
    Nat.lt_of_le_of_lt evaluated (Nat.lt_of_le_of_lt (Nat.succ_le_succ room) (by omega))
  show (u.hlc.join _).queue.getLast? = _
  rw [Hlc.join_queue _ _ free, List.getLast?_concat]

/-! ### The codes -/

section
variable {s : State} {src : Source} {chars : List Byte} {c : Code}

/-- DEBT_ADD (04 R63, 05 R91). -/
theorem submitDebtAdd (presented : s.presents src chars c) (passes : s.passes c) (cls : c.cls = 1) :
    ∃ t, exec (.submitCode (sourceByte src :: chars)) s = .next t ∧
      s.consumed t src c ([0x00#8, 0x01#8] ++ bytesOf 4 (debtPlaced c.value.toNat s)) ∧
      AppliedAs (addDebt .debtAdd c.value.toNat (passAuthentic src c s)) t := by
  have applied : applyCode src c (issueDay (dayOf s.clock) c.day) (passAuthentic src c s) =
      apply .accepted c (bytesOf 4 (debtPlaced c.value.toNat s))
        (addDebt .debtAdd c.value.toNat (passAuthentic src c s)) := by
    simp only [applyCode, cls, applyDebtAdd, debtPlaced, passAuthentic_acct]
  have done := submitCode_consumed presented passes (by omega) (sourcePermitted_of_ne src (by omega) (by omega)) applied
    (by simp) (by simp)
  rw [cls] at done
  exact done

/-- REMOTE_SWITCH: 0 adds REMOTE, 1 removes it (05 R92). -/
theorem submitRemoteSwitch (presented : s.presents .remote chars c) (passes : s.passes c) (cls : c.cls = 2) :
    ∃ t, exec (.submitCode (sourceByte .remote :: chars)) s = .next t ∧
      s.consumed t .remote c
        ([0x00#8, 0x02#8] ++ bytesOf 1 (s.sss.reasons.remote != (c.value.toNat == 0)).toNat) ∧
      AppliedAs (if c.value.toNat = 0 then addReason .remote (passAuthentic .remote c s)
        else removeReason .remote .ordinary (passAuthentic .remote c s)) t := by
  have applied : applyCode .remote c (issueDay (dayOf s.clock) c.day) (passAuthentic .remote c s) =
      apply .accepted c (bytesOf 1 (s.sss.reasons.remote != (c.value.toNat == 0)).toNat)
        (if c.value.toNat = 0 then addReason .remote (passAuthentic .remote c s)
        else removeReason .remote .ordinary (passAuthentic .remote c s)) := by
    by_cases off : c.value.toNat = 0
    · simp [applyCode, cls, applyRemoteSwitch, off]
    · have on : (c.value.toNat == 0) = false := by simpa using off
      simp [applyCode, cls, applyRemoteSwitch, off, on]
  have done := submitCode_consumed presented passes (by omega) rfl applied (by split <;> simp) (by split <;> simp)
  rw [cls] at done
  exact done

/-- TEMP_LIMIT (05 R95, 07 R124). -/
theorem submitTempLimit (presented : s.presents src chars c) (passes : s.passes c) (cls : c.cls = 5) :
    ∃ t, exec (.submitCode (sourceByte src :: chars)) s = .next t ∧
      s.consumed t src c
        ([0x00#8, 0x05#8] ++ bytesOf 4 (c.value.toNat / 256 * 10) ++ bytesOf 1 (c.value.toNat % 256)) ∧
      AppliedAs (applyTempLimit (c.value.toNat / 256 * 10) (c.value.toNat % 256) (passAuthentic src c s)) t := by
  have limit : valueField c.value 8 13 = c.value.toNat / 256 := by rw [valueField_eq]; omega
  have hours : valueField c.value 0 8 = c.value.toNat % 256 := by rw [valueField_eq]; omega
  have applied : applyCode src c (issueDay (dayOf s.clock) c.day) (passAuthentic src c s) =
      apply .accepted c (bytesOf 4 (c.value.toNat / 256 * 10) ++ bytesOf 1 (c.value.toNat % 256))
        (applyTempLimit (c.value.toNat / 256 * 10) (c.value.toNat % 256) (passAuthentic src c s)) := by
    simp only [applyCode, cls, applyTempLimitCode, limit, hours]
  have done := submitCode_consumed presented passes (by omega) (sourcePermitted_of_ne src (by omega) (by omega)) applied
    (by simp) (by simp)
  rw [cls, ← List.append_assoc] at done
  exact done

/-- A SET_CLOCK code that passes its value checks names a time of day, on a day from 0 on (05 R96). -/
theorem setClock_value (cls : c.cls = 6) (passes : s.passes c) :
    c.value.toNat / 1024 * 60 + c.value.toNat / 16 % 64 < 86400 ∧
    valueField c.value 10 11 = c.value.toNat / 1024 ∧ valueField c.value 4 6 = c.value.toNat / 16 % 64 ∧
    (codeClock (issueDay (dayOf s.clock) c.day) c.value).toNat =
      (issueDay (dayOf s.clock) c.day).toNat * 86400 + c.value.toNat / 1024 * 60 + c.value.toNat / 16 % 64 := by
  have minute : valueField c.value 10 11 = c.value.toNat / 1024 := by rw [valueField_eq]; omega
  have second : valueField c.value 4 6 = c.value.toNat / 16 % 64 := valueField_eq _ _ _
  have good := passes.value
  rw [cls] at good
  simp only [valueGood, Bool.and_eq_true, decide_eq_true_eq, minute, second] at good
  obtain ⟨⟨⟨⟨hour, sixty⟩, -⟩, future⟩, -⟩ := good
  refine ⟨by omega, minute, second, ?_⟩
  simp only [codeClock, minute, second]
  omega

/-- SET_CLOCK (05 R96, 03 R43). -/
theorem submitSetClock (presented : s.presents src chars c) (passes : s.passes c) (cls : c.cls = 6) :
    ∃ t, exec (.submitCode (sourceByte src :: chars)) s = .next t ∧
      s.consumed t src c ([0x00#8, 0x06#8] ++ bytesOf 4
        ((issueDay (dayOf s.clock) c.day).toNat * 86400 + c.value.toNat / 1024 * 60 + c.value.toNat / 16 % 64)) ∧
      AppliedAs (setClock (issueDay (dayOf s.clock) c.day).toNat (c.value.toNat / 1024) (c.value.toNat / 16 % 64)
        (passAuthentic src c s)) t := by
  obtain ⟨-, minute, second, clock⟩ := setClock_value cls passes
  have applied : applyCode src c (issueDay (dayOf s.clock) c.day) (passAuthentic src c s) =
      apply .accepted c (bytesOf 4
        ((issueDay (dayOf s.clock) c.day).toNat * 86400 + c.value.toNat / 1024 * 60 + c.value.toNat / 16 % 64))
        (setClock (issueDay (dayOf s.clock) c.day).toNat (c.value.toNat / 1024) (c.value.toNat / 16 % 64)
          (passAuthentic src c s)) := by
    simp only [applyCode, cls, applySetClock, clock, minute, second]
  have done := submitCode_consumed presented passes (by omega) (sourcePermitted_of_ne src (by omega) (by omega)) applied
    (by simp) (by simp)
  rw [cls] at done
  exact done

/-- SET_WEEKMAP (05 R97, 03 R47). -/
theorem submitWeekMap (presented : s.presents src chars c) (passes : s.passes c) (cls : c.cls = 7) :
    ∃ t, exec (.submitCode (sourceByte src :: chars)) s = .next t ∧ s.consumed t src c [0x00#8, 0x07#8] ∧
      AppliedAs (evaluateCalendar ((passAuthentic src c s).setTc { s.tc with sched := { s.tc.sched with
        weekMap := (List.range 7).map fun d => letterOf (c.value.getLsbD (14 + d)) } })) t := by
  have applied : applyCode src c (issueDay (dayOf s.clock) c.day) (passAuthentic src c s) = apply .accepted c []
      (evaluateCalendar ((passAuthentic src c s).setTc { s.tc with sched := { s.tc.sched with
        weekMap := (List.range 7).map fun d => letterOf (c.value.getLsbD (14 + d)) } })) := by
    simp only [applyCode, cls, applySetWeekmap, passAuthentic_frame]
    rfl
  have done := submitCode_consumed presented passes (by omega) (sourcePermitted_of_ne src (by omega) (by omega)) applied
    (by simp) (by simp)
  rw [cls] at done
  exact done

end

/-- Settles O31, class by class. -/
theorem engineeringCodesTakeEffect : Obligations.EngineeringCodesTakeEffect := by
  intro s src chars c presented passes v dropped noted done
  refine ⟨fun cls debt => ?_, fun cls remote => ?_, fun cls => ?_, fun cls => ?_, fun cls => ?_⟩
  · obtain ⟨t, take, consumed, applied⟩ := submitDebtAdd presented passes cls
    have cl := applied.cl
    rw [addDebt_cl, passAuthentic_acct] at cl
    have hlc : (addDebt .debtAdd v (passAuthentic src c s)).hlc = (dropped ++ noted).foldl Hlc.join s.hlc := by
      rw [addDebt_hlc, passAuthentic_hlc src s (by omega), List.foldl_append]
      simp only [State.saturationNotice, passAuthentic_acct, passAuthentic_clock]
      rfl
    have joined : s.hlc.queue ++ dropped ++ noted = s.hlc.queue ++ (dropped ++ noted) := List.append_assoc _ _ _
    refine ⟨t, take, consumed, congrArg Cl.acct cl, fun room => ?_, fun full => ?_, by rw [cl]; simp,
      by simp [applied.params, applied.be, applied.tc, applied.sss, applied.ll, applied.tm, applied.tl]⟩
    · rw [applied.queue, applied.overflow, hlc, joined]
      exact joinAll_of_room _ _ (joined ▸ room)
    · rw [applied.queue, applied.overflow, hlc]
      exact joinAll_of_full _ _ full
  · subst remote
    obtain ⟨t, take, consumed, applied⟩ := submitRemoteSwitch presented passes cls
    have reasons := congrArg Sss.reasons applied.sss
    have opens : v = 0 → s.sss.reasons.remote = false → s.sss.contactor = .closed →
        t.sss.contactor = .opening ∧ t.sss.phase = .pulse := fun off absent closed => by
      rw [applied.sss, if_pos off]
      simp [addReason, Reasons.get, absent, presented.active, actOnAddition, closed, startOpening, startPulse]
    refine ⟨t, take, consumed, ?_, opens, ?_⟩
    · rw [reasons]
      split <;> simp [Reasons.set, v, *]
    · rw [applied.cl, applied.params, applied.be, applied.tc, applied.ll, applied.tm, applied.tl]
      split <;> simp
  · obtain ⟨t, take, consumed, applied⟩ := submitTempLimit presented passes cls
    refine ⟨t, take, consumed, fun none => ?_, fun some => ?_,
      by simp [applied.cl, applied.params, applied.be, applied.tc, applied.sss, applied.tm, applied.tl]⟩
    · rw [applied.ll]
      simp [applyTempLimit, v, none]
    · have limit : v / 256 * 10 ≠ 0 := by omega
      rw [applied.ll, applyTempLimit, if_neg limit]
      simp [satAdd, maxClock, v]
  · intro d now
    obtain ⟨t, take, consumed, applied⟩ := submitSetClock presented passes cls
    obtain ⟨time, -⟩ := setClock_value cls passes
    obtain ⟨clock, phase, valid, trimUsed, day⟩ := setClock_tc (day := d) (passAuthentic src c s) time
    refine ⟨t, take, consumed, applied.clock.trans clock, by rw [applied.tc]; exact phase,
      by rw [applied.tc]; exact valid, by rw [applied.tc]; exact trimUsed, by rw [applied.tc]; exact day,
      fun room => ?_, ?_⟩
    · have found : (passAuthentic src c s).hlc.queue.length ≤ s.hlc.queue.length + 1 :=
        passAuthentic_oneNotice src c s
      rw [applied.queue, setClock_queue_getLast _ (by omega), clock, passAuthentic_clock]
    · obtain ⟨acct, billedWh⟩ := setClock_keeps d (v / 1024) (v / 16 % 64) (passAuthentic src c s)
      rw [applied.acct, applied.params, applied.be, applied.ll, applied.tm, applied.tl]
      exact ⟨acct.trans (passAuthentic_acct src c s), by simp, by rw [billedWh]; simp, by simp⟩
  · obtain ⟨t, take, consumed, applied⟩ := submitWeekMap presented passes cls
    refine ⟨t, take, consumed, ?_⟩
    rw [applied.tc, applied.acct, applied.clock, applied.params, applied.ll, applied.tm, applied.tl]
    rw [evaluateCalendar_tc]
    exact ⟨rfl, rfl, rfl, rfl, evaluateCalendar_clock _,
      (evaluateCalendar_acct _).trans (passAuthentic_acct src c s), by simp⟩

end Sys2Proof.Machine
end

section
/-! SET_CONFIG (05 R94): what a parameter's owner does on its new value (11 R176), and the code that brings it. -/

namespace Sys2Proof.Machine

/-! ### The ledger under new allowances (04 R64 to R66) -/

/-- A recomputation settles the flags it found (04 R66, R68, R69). -/
theorem Account.settled_recomputed (a : Account) (p : Params) :
    (a.settled p).recomputed p a.accepted a.available := by
  refine ⟨rfl, ?_, rfl⟩
  simp only [Account.settled, Account.withFlags]
  split
  · next none => simp [none]
  · next some => rw [decide_eq_true some, Bool.true_and]; rfl

/-- E_ALLOW raised from 0 makes emergency credit available, and nothing else of the account moves (04 R65). -/
theorem offerOnRaise_acct (before : Nat) (s : State) : (offerOnRaise before s).acct =
    { s.acct with
      available := s.acct.available || decide (before = 0 ∧ 0 < s.params.eAllow ∧ s.acct.accepted = false) } := by
  simp only [offerOnRaise]
  split
  · next raised => simp [raised, State.setAcct_acct]
  · next kept => simp [kept]

/-- A balance below the floor is raised to it, the difference going to debt as far as debt holds it (04 R58, R64). -/
theorem raiseToFloor_acct {s : State} (debt : s.acct.debt ≤ maxCents) :
    (raiseToFloor s).acct.balance = max s.acct.balance (floorOf s.params) ∧
    (raiseToFloor s).acct.debt = min maxCents (s.acct.debt + (floorOf s.params - s.acct.balance).toNat) ∧
    (raiseToFloor s).acct.accepted = s.acct.accepted ∧ (raiseToFloor s).acct.available = s.acct.available := by
  simp only [raiseToFloor]
  split
  · next below =>
    obtain ⟨noted, added⟩ := addDebt_acct .allowanceRaise (floorOf s.params - s.acct.balance).toNat
      (s.setAcct { s.acct with
        balance := floorOf s.params
        crRaised := satAdd max48 s.acct.crRaised (floorOf s.params - s.acct.balance).toNat
        crDeferred := satAdd max48 s.acct.crDeferred (floorOf s.params - s.acct.balance).toNat })
    rw [added]
    exact ⟨(max_eq_right below.le).symm, rfl, rfl, rfl⟩
  · next above =>
    refine ⟨(max_eq_left (not_lt.mp above)).symm, ?_, rfl, rfl⟩
    omega

/-- The ledger after a changed E_ALLOW or F_ALLOW (04 R64 to R66). -/
theorem changeAllowance_acct (params : Params) {s : State} (debt : s.acct.debt ≤ maxCents) :
    (changeAllowance params s).acct.balance = max s.acct.balance (floorOf params) ∧
    ((changeAllowance params s).acct.debt : Int) =
      min 99999999 (s.acct.debt + ((changeAllowance params s).acct.balance - s.acct.balance)) ∧
    (changeAllowance params s).acct.recomputed params s.acct.accepted
      (s.acct.available || decide (s.params.eAllow = 0 ∧ 0 < params.eAllow ∧ s.acct.accepted = false)) := by
  have offered := offerOnRaise_acct s.params.eAllow (s.setParams params)
  obtain ⟨balance, owed, accepted, available⟩ :=
    raiseToFloor_acct (s := offerOnRaise s.params.eAllow (s.setParams params)) (by rw [offered]; exact debt)
  simp only [offered, offerOnRaise_frame, State.setParams_params] at balance owed accepted available
  have settled : (changeAllowance params s).acct =
      (raiseToFloor (offerOnRaise s.params.eAllow (s.setParams params))).acct.settled params := by
    rw [changeAllowance, recompute_acct]; simp
  generalize raiseToFloor (offerOnRaise s.params.eAllow (s.setParams params)) = u at *
  have raised : (changeAllowance params s).acct.balance = max s.acct.balance (floorOf params) := by
    rw [settled]; exact balance
  have deferred : (changeAllowance params s).acct.debt =
      min maxCents (s.acct.debt + (floorOf params - s.acct.balance).toNat) := by
    rw [settled]; exact owed
  refine ⟨raised, ?_, ?_⟩
  · rw [raised, deferred]
    simp only [maxCents]
    omega
  · rw [settled]
    have done := u.acct.settled_recomputed params
    rwa [accepted, available] at done

/-! ### What each owner does on its new value (11 R176) -/

section
variable {index : Nat} (v : Nat) (s : State)

theorem configEffect_allowance (named : index = 10 ∨ index = 11) :
    configEffect index v s = changeAllowance (s.params.setAt index v) s := by
  simp [configEffect, named]

theorem configEffect_threshold (named : index = 12 ∨ index = 13) :
    configEffect index v s = recompute .ordinary (s.setParams (s.params.setAt index v)) := by
  have other : ¬ (index = 10 ∨ index = 11) := by omega
  simp [configEffect, named, other]

theorem configEffect_cycleDays : configEffect 16 v s =
    evaluateCalendar (rebaseCycle s.params.cycleDays (s.setParams (s.params.setAt 16 v))) := by
  simp [configEffect]

theorem configEffect_below (below : index < 10) :
    configEffect index v s = s.setParams (s.params.setAt index v) := by
  have far : index ≠ 10 ∧ index ≠ 11 ∧ index ≠ 12 ∧ index ≠ 13 ∧ index ≠ 16 ∧ index ≠ 17 ∧ ¬ 48 ≤ index ∧
      ¬ 32 ≤ index := by omega
  simp [configEffect, far]

end

@[simp] theorem changeAllowance_params (params : Params) (s : State) :
    (changeAllowance params s).params = params := by
  simp [changeAllowance]

@[simp] theorem setParams_clock (s : State) (params : Params) : (s.setParams params).clock = s.clock := rfl

@[simp] theorem recompute_clock (origin : Origin) (s : State) : (recompute origin s).clock = s.clock := by
  simp [State.clock]

@[simp] theorem changeAllowance_clock (params : Params) (s : State) : (changeAllowance params s).clock = s.clock := by
  simp [State.clock]

@[simp] theorem evaluateTamper_clock (s : State) : (evaluateTamper s).clock = s.clock := by simp [State.clock]

@[simp] theorem rebaseCycle_clock (before : Nat) (s : State) : (rebaseCycle before s).clock = s.clock := by
  simp only [rebaseCycle]
  split <;> rfl

/-- The parameter set takes the value, and no owner moves the clock or the energy billed. -/
theorem configEffect_keeps (index v : Nat) (s : State) :
    (configEffect index v s).params = s.params.setAt index v ∧ (configEffect index v s).clock = s.clock ∧
    (configEffect index v s).be.reg.billedWh = s.be.reg.billedWh := by
  simp only [configEffect]
  (repeat' split) <;> simp

/-- The evaluation after a re-basing finds the cycle begun (03 R51, R52). -/
theorem evaluateCalendar_rebaseCycle {before : Nat} {u : State} (changed : before ≠ u.params.cycleDays) :
    (evaluateCalendar (rebaseCycle before u)).tc.sched.cycleIndex = dayOf u.clock / u.params.cycleDays ∧
    (evaluateCalendar (rebaseCycle before u)).be = u.be := by
  have rebased : rebaseCycle before u =
      u.setTc { u.tc with sched := { u.tc.sched with cycleIndex := dayOf u.clock / u.params.cycleDays } } :=
    if_neg changed
  have begun : ¬ (rebaseCycle before u).rolls = true := by
    rw [State.rolls_iff, rebased]
    exact fun late => lt_irrefl _ late.2
  rw [evaluateCalendar_tc, evaluateCalendar_be, if_neg begun, if_neg begun, rebased]
  exact ⟨rfl, rfl⟩

/-- A changed CYCLE_DAYS re-bases the cycle index and keeps CYCLE_WH (03 R52). -/
theorem configEffect_rebased {v : Nat} {s : State} (changed : v ≠ s.params.cycleDays) :
    (configEffect 16 v s).tc.sched.cycleIndex = s.clock / 86400 / v ∧
    (configEffect 16 v s).be.reg.cycleWh = s.be.reg.cycleWh := by
  obtain ⟨index, be⟩ := evaluateCalendar_rebaseCycle (before := s.params.cycleDays)
    (u := s.setParams (s.params.setAt 16 v)) changed.symm
  rw [configEffect_cycleDays, index, be]
  exact ⟨rfl, rfl⟩

/-- A CYCLE_DAYS given the value it has re-bases nothing, and no cycle rolls while the clock is not valid (log 30). -/
theorem configEffect_not_rebased {v : Nat} {s : State} (same : v = s.params.cycleDays)
    (invalid : s.tc.clockValid = false) :
    (configEffect 16 v s).tc.sched.cycleIndex = s.tc.sched.cycleIndex := by
  have still : rebaseCycle s.params.cycleDays (s.setParams (s.params.setAt 16 v)) =
      s.setParams (s.params.setAt 16 v) := if_pos same.symm
  have kept : ¬ (s.setParams (s.params.setAt 16 v)).rolls = true := by
    rw [State.rolls_iff]
    simp [invalid]
  rw [configEffect_cycleDays, still, evaluateCalendar_tc, if_neg kept]
  rfl

/-- The thresholds leave all of the account but what the recomputation settles (04 R66). -/
theorem configEffect_threshold_acct {index : Nat} (v : Nat) (s : State) (named : index = 12 ∨ index = 13) :
    (configEffect index v s).acct = s.acct.settled (s.params.setAt index v) := by
  rw [configEffect_threshold v s named, recompute_acct]
  rfl

/-! ### The code -/

/-- SET_CONFIG (05 R94). -/
theorem submitSetConfig {s : State} {src : Source} {chars : List Byte} {c : Code} {row : ParamRow}
    {index asked v : Nat} (presented : s.presents src chars c) (passes : s.passes c) (cls : c.cls = 4)
    (names : index = c.value.toNat / 8192) (found : paramRow index = some row)
    (asks : asked = c.value.toNat % 8192 * row.step) (clamped : v = clampNat row.lo row.hi asked) :
    ∃ t, exec (.submitCode (sourceByte src :: chars)) s = .next t ∧
      s.consumed t src c ([if v = asked then 0x00#8 else 0x01#8, 0x04#8] ++ bytesOf 1 index ++ bytesOf 4 v) ∧
      AppliedAs (configEffect index v (passAuthentic src c s)) t := by
  have named : valueField c.value 13 8 = index := by rw [valueField_eq]; omega
  have steps : valueField c.value 0 13 = c.value.toNat % 8192 := by rw [valueField_eq]; omega
  have applied : applyCode src c (issueDay (dayOf s.clock) c.day) (passAuthentic src c s) =
      apply (if v = asked then .accepted else .acceptedClamped) c (bytesOf 1 index ++ bytesOf 4 v)
        (configEffect index v (passAuthentic src c s)) := by
    simp only [applyCode, cls, applySetConfig, named, steps, found, ← asks, ← clamped]
  have done := submitCode_consumed presented passes (by omega) (sourcePermitted_of_ne src (by omega) (by omega)) applied
    (by simp) (by simp)
  have number : BitVec.ofNat 8 (if v = asked then CodeOutcome.accepted else .acceptedClamped).number =
      if v = asked then 0x00#8 else 0x01#8 := by split <;> rfl
  rw [cls, number, ← List.append_assoc] at done
  exact done

/-- Settles O32, owner by owner. -/
theorem setConfigGivesTheClampedValue : Obligations.SetConfigGivesTheClampedValue := by
  intro s src chars c row presented passes cls found debt index asked v
  obtain ⟨t, take, consumed, applied⟩ := submitSetConfig (index := index) (asked := asked) (v := v) presented passes cls
    rfl found rfl rfl
  clear_value index v
  obtain ⟨params, clock, billedWh⟩ := configEffect_keeps index v (passAuthentic src c s)
  have met := (passAuthentic_frame src c s).1
  rw [met, ← applied.params] at params
  refine ⟨t, take, consumed, params, ?vNom, ?deemedW, ?probe, ?stop, ?eAllow, ?fAllow, fun named => ?allowance, ?low,
    ?rearm, fun named => ?threshold, ?cycle, fun below => ?below, ?kept⟩
  case vNom | deemedW | probe | stop | eAllow | fAllow | low | rearm =>
    rintro rfl
    rw [params]
    rfl
  case allowance =>
    have changed := changeAllowance_acct (s := passAuthentic src c s) (s.params.setAt index v)
      (by simpa [maxCents] using debt)
    rw [← params] at changed
    rw [applied.acct, configEffect_allowance v _ named, met, ← params]
    simpa using changed
  case threshold =>
    have settled := configEffect_threshold_acct v (passAuthentic src c s) named
    rw [← applied.acct, met, passAuthentic_acct, ← params] at settled
    rw [settled]
    exact ⟨rfl, s.acct.settled_recomputed t.params⟩
  case cycle =>
    rintro rfl
    refine ⟨by rw [params]; rfl, fun changed => ?_, fun same invalid => ?_⟩
    · rw [applied.tc, applied.be]
      simpa using configEffect_rebased (s := passAuthentic src c s) (by simpa using changed)
    · rw [applied.tc]
      simpa using configEffect_not_rebased (s := passAuthentic src c s) (by simpa using same) (by simpa using invalid)
  case below =>
    rw [applied.cl, applied.tc, applied.sss, applied.tm, configEffect_below v _ below]
    simp
  case kept =>
    rw [applied.be, billedWh, applied.mli, applied.ll, applied.tl, applied.clock, clock, applied.pins]
    simp

end Sys2Proof.Machine
end

section
/-! Laws of the retained parameters, account and keys, which every image of the checkpoint keeps as the running state
does (10 R167): what a step does to them, wherever they stand. -/

namespace Sys2Proof.Machine

/-- What such a law speaks of. -/
structure Retained where
  params : Params
  acct : Account
  keys : Keys

def State.retained (s : State) : Retained := ⟨s.params, s.acct, s.ce.keys⟩

def Contents.retained (c : Contents) : Retained := ⟨c.params, c.acct, c.keys⟩

/-- The law holds of the running state and of every image. -/
def KeptIn (P : Retained → Prop) (s : State) : Prop :=
  P s.retained ∧ ∀ img ∈ s.images, P img.contents.retained

/-- The stages of COMMISSION before its checkpoint write (11 R173). -/
def commissioned (r : CommissionRequest) (s : State) : State :=
  commissionEntry r (commissionTamper (commissionLedger r (commissionBlocks r (commissionCalendar r s))))

/-- The places where the retained parameters, account or keys change: a law that holds of fresh ones and survives each
of them is kept by every step. -/
structure RetainedLaw (P : Retained → Prop) : Prop where
  fresh : P State.reset.retained
  commissions : ∀ r s, r.allowed = true → P s.retained → P (Machine.commissioned r s).retained
  entersActive : ∀ s, P s.retained → P (enterActive s).retained
  judges : ∀ src chars s, P s.retained → P (judgeCode src chars s).state.retained
  pressed : ∀ payload s, P s.retained → P (doCustomerKey payload s).retained
  trims : ∀ d s, P s.retained → P (trimClock d s).retained
  evaluates : ∀ s, P s.retained → P (tcEdgeEvaluation s).retained
  takes : ∀ loadv s, P s.retained → P (recordTake loadv s).retained
  ticks : ∀ s, P s.retained → P (silenceTick s).retained
  endsLockout : ∀ src s, P s.retained → P (lockoutEnd src s).retained

theorem State.retained_congr {s t : State} (params : t.params = s.params) (acct : t.acct = s.acct)
    (keys : t.ce.keys = s.ce.keys) : t.retained = s.retained := by
  rw [State.retained, params, acct, keys]; rfl

/-- A pending group that times out leaves the keys (05 R99). -/
theorem groupTimeout_keys (s : State) : (groupTimeout s).ce.keys = s.ce.keys := by
  unfold groupTimeout
  (repeat' split) <;> rfl

section
variable {P : Retained → Prop} {s t : State}

theorem KeptIn.mono (hs : KeptIn P s) (running : P t.retained) (images : ∀ img ∈ t.images, img ∈ s.images) :
    KeptIn P t :=
  ⟨running, fun img mem => hs.2 img (images img mem)⟩

/-- What the law speaks of stays, and no image is added. -/
theorem KeptIn.same (hs : KeptIn P s) (params : t.params = s.params) (cl : t.cl = s.cl) (keys : t.ce.keys = s.ce.keys)
    (images : ∀ img ∈ t.images, img ∈ s.images) : KeptIn P t :=
  hs.mono (State.retained_congr params (congrArg Cl.acct cl) keys ▸ hs.1) images

/-- The running state changes, the power supervisor stays. -/
theorem KeptIn.running (hs : KeptIn P s) (running : P t.retained) (ps : t.ps = s.ps) : KeptIn P t :=
  hs.mono running fun img mem => by rwa [State.images, ps] at mem

theorem KeptIn.frame (hs : KeptIn P s) (params : t.params = s.params) (cl : t.cl = s.cl) (ce : t.ce = s.ce)
    (ps : t.ps = s.ps) : KeptIn P t :=
  hs.same params cl (by rw [ce]) fun img mem => by rwa [State.images, ps] at mem

/-- A start of the core keeps the images of the two slots, and the write under way is lost. -/
theorem KeptIn.slots (hs : KeptIn P s) (running : P t.retained) (a : t.ps.slotA = s.ps.slotA)
    (b : t.ps.slotB = s.ps.slotB) (write : t.ps.write = none) : KeptIn P t :=
  hs.mono running fun img mem => by
    rw [State.images, Ps.mem_images, a, b, write] at mem
    exact (s.ps.mem_images img).mpr (mem.imp_right (Or.imp_right (by simp)))

/-! ### The checkpoint (10 R167) -/

/-- The image of a write holds what the running state does. -/
theorem KeptIn.startWrite (occ : Occasion) (hs : KeptIn P s) : KeptIn P (startWrite occ s) := by
  have same : (Machine.startWrite occ s).retained = s.retained :=
    State.retained_congr (by simp) (by simp [State.acct]) (by simp)
  refine ⟨same ▸ hs.1, fun img mem => ?_⟩
  rcases mem_images_startWrite mem with before | now
  · exact hs.2 img before
  · rw [now]; exact hs.1

theorem KeptIn.beginNext (hs : KeptIn P s) : KeptIn P (beginNext s) := by
  unfold Machine.beginNext
  split
  · next occ rest _ =>
    refine ⟨hs.1, fun img mem => ?_⟩
    rcases mem_images_beginWrite mem with before | now
    · exact hs.2 img before
    · rw [now]; exact hs.1
  · exact hs

theorem KeptIn.enterDormant (hs : KeptIn P s) : KeptIn P (enterDormant s) :=
  KeptIn.startWrite .dormantEntry (s := s.setPs _) hs

theorem KeptIn.enterHoldup (hs : KeptIn P s) : KeptIn P (enterHoldup s) := by
  have departed : KeptIn P (departBlocks s) := hs
  unfold Machine.enterHoldup
  dsimp only
  split
  · exact departed.startWrite _
  · exact (departed.startWrite _).enterDormant

theorem KeptIn.startPeriodic (hs : KeptIn P s) : KeptIn P (startPeriodic s) :=
  KeptIn.startWrite .periodic (s := s.setHlc _) hs

theorem KeptIn.writeDone (good : Bool) (hs : KeptIn P s) : KeptIn P (writeDone good s) := by
  unfold Machine.writeDone
  split
  · next w writing =>
    have stored : KeptIn P (s.setPs (s.ps.store w good)) := hs.mono hs.1 fun img mem => mem_images_store writing mem
    have followed : KeptIn P (writeFollows w.img.occasion good (restartPeriodic (s.setPs (s.ps.store w good)))) :=
      stored.same (by simp) (by simp) (by simp) fun img mem => by
        rwa [writeFollows_images, restartPeriodic_images] at mem
    have begun := followed.beginNext
    dsimp only [releaseHoldup]
    split
    · exact begun.enterHoldup
    · exact begun
  · exact hs

theorem KeptIn.replyJudged {j : Judged} (hs : KeptIn P j.state) : KeptIn P (replyJudged j) := by
  unfold Machine.replyJudged
  dsimp only
  split
  · exact KeptIn.startWrite (s := j.state.setHlc _) .code hs
  · exact hs

theorem KeptIn.tick (hs : KeptIn P s) : KeptIn P (tick s) := by
  have same : (passMs s).retained = s.retained := by simp only [passMs]; split <;> rfl
  have passed : KeptIn P (passMs s) := hs.mono (same ▸ hs.1) fun img mem => by rwa [passMs_images] at mem
  exact passed.frame (by simp [Machine.tick]) (by simp [Machine.tick]) (by simp [Machine.tick]) (by simp [Machine.tick])

/-! ### Requests (12 R180) -/

/-- A COMMISSION request that passes its checks is allowed (11 R172). -/
theorem commission_allowed {kind : Byte} {payload : List Byte} {power : Power}
    (passes : refusal kind payload power = none) (commission : kind.toNat = 0x20) :
    (commissionOf payload).allowed = true := by
  unfold refusal at passes
  split_ifs at passes with _ _ _ good
  simpa [commission, fieldsGood] using good

theorem commission_eq (r : CommissionRequest) (reply : Reply) (s : State) : commission r reply s =
    startWrite .commission ((Machine.commissioned r s).setHlc
      { (Machine.commissioned r s).hlc with slot := .awaitingWrite (some reply) }) := rfl

theorem commissioned_images (r : CommissionRequest) (s : State) : (Machine.commissioned r s).images = s.images := by
  simp [Machine.commissioned, commissionEntry, State.images, Ps.images]

variable (law : RetainedLaw P)
include law

theorem RetainedLaw.commission {r : CommissionRequest} (reply : Reply) (allowed : r.allowed = true)
    (hs : KeptIn P s) : KeptIn P (commission r reply s) := by
  rw [commission_eq]
  exact KeptIn.startWrite _ (hs.mono (law.commissions r s allowed hs.1) fun img mem =>
    commissioned_images r s ▸ mem)

theorem RetainedLaw.runRequest (kind : Byte) (payload : List Byte) (hs : KeptIn P s)
    (passes : refusal kind payload s.ps.power = none) : KeptIn P (runRequest kind payload s) := by
  unfold Machine.runRequest
  split
  iterate 8 exact hs
  · exact KeptIn.replyJudged (hs.running (law.judges _ _ _ hs.1) (by simp))
  · exact hs.running (law.pressed _ _ hs.1) (by simp)
  · exact hs.running (law.trims _ _ hs.1) (by simp)
  · next commission => exact law.commission _ (commission_allowed passes commission) hs
  · exact hs

theorem RetainedLaw.takeFrame (kind : Byte) (payload : List Byte) (hs : KeptIn P s) :
    KeptIn P (takeFrame kind payload s) := by
  unfold Machine.takeFrame takeRequest
  (repeat' split)
  · exact hs
  · next passes => exact law.runRequest kind payload hs passes
  · exact hs
  · exact hs

theorem RetainedLaw.collectByte (bytes : List Byte) (hs : KeptIn P s) : KeptIn P (collectByte bytes s) := by
  unfold Machine.collectByte frameComplete
  dsimp only
  (repeat' split)
  · exact hs
  · exact hs
  · exact law.takeFrame _ _ (s := s.setRx none) hs
  · exact hs

theorem RetainedLaw.receiveByte (b : LineByte) (hs : KeptIn P s) : KeptIn P (receiveByte s b) := by
  unfold Machine.receiveByte
  (repeat' split)
  · exact hs
  · exact hs
  · exact hs
  · exact law.collectByte _ hs
  · exact hs

theorem RetainedLaw.receiveBytes (bytes : List LineByte) (hs : KeptIn P s) :
    KeptIn P (bytes.foldl Machine.receiveByte s) := by
  induction bytes generalizing s with
  | nil => exact hs
  | cons b rest ih => exact ih (law.receiveByte b hs)

/-! ### The power supervisor (10 R165, R169, R170) -/

theorem RetainedLaw.enterActive (hs : KeptIn P s) : KeptIn P (enterActive s) :=
  hs.running (law.entersActive s hs.1) (by simp)

theorem RetainedLaw.warmReturn (hs : KeptIn P s) : KeptIn P (warmReturn s) := by
  unfold Machine.warmReturn
  exact law.enterActive hs

/-- A restore brings back what an image held (10 R170). -/
theorem RetainedLaw.restoreFrom {img : Image} (hs : KeptIn P s) (mem : img ∈ s.images) :
    KeptIn P (restoreFrom img s) := by
  have restored : KeptIn P (restoredState img.contents s) := hs.slots (hs.2 img mem) rfl rfl rfl
  exact law.enterActive (restored.frame (by simp) (by simp) (by simp) (by simp))

theorem RetainedLaw.manufactured (power : Power) (tl : Tl) (hs : KeptIn P s) : KeptIn P (manufactured power tl s) :=
  hs.slots law.fresh rfl rfl rfl

theorem RetainedLaw.startCore (hs : KeptIn P s) : KeptIn P (startCore s) := by
  unfold Machine.startCore
  split
  · next newest => exact law.restoreFrom hs (Ps.mem_images_of_newest newest)
  · exact law.manufactured _ _ hs

theorem RetainedLaw.doReturn (hs : KeptIn P s) : KeptIn P (doReturn s) := by
  unfold Machine.doReturn
  split
  · exact law.warmReturn hs
  · exact law.startCore hs

/-! ### The step -/

theorem RetainedLaw.exec {c : Instr} (hs : KeptIn P s) (h : exec c s = .next t) : KeptIn P t := by
  cases c <;> obtain rfl := Host.Outcome.next.inj h
  case identify | getStatus | getLedger | getEnergy | getTariff | getTime | getEvents | readTamperLog | submitCode |
      restore | acceptEmergency | trimClock | commission | badKind | busy => exact law.takeFrame _ _ hs
  case frameDiscard bytes => exact law.receiveBytes bytes hs
  case recordTake => exact hs.running (law.takes _ _ hs.1) (by simp)
  case silenceTick => exact hs.running (law.ticks _ hs.1) (by simp)
  case tcEdgeEvaluation => exact hs.running (law.evaluates _ hs.1) (by simp)
  case lockoutEnd => exact hs.running (law.endsLockout _ _ hs.1) (by simp)
  case groupTimeout =>
    exact hs.same (by simp) (by simp) (groupTimeout_keys s) fun img mem => by simpa [State.images] using mem
  case clockAdvance | frameTimeout | replySent | linkResetAssert | linkResetRelease | burstEnd | silenceReport |
      suppressionTimerExpiry | sensorInputChange | sensorFilterExpiry | deemedHoldExpiry | linklossMeasure |
      coilPulseEnd | pulseCleared | coilCutoff | settleEnd | weldRetryExpiry | recloseTimerExpiry |
      recloseWindowExpiry =>
    exact hs.frame (by simp) (by simp) (by simp) (by simp)
  case holdupSample =>
    refine hs.same (by simp) (by simp) (by simp) fun img mem => ?_
    unfold Machine.holdupSample at mem
    split at mem
    · simpa [State.images, Ps.images] using mem
    · exact mem
  case vmainFall | vmainRise =>
    simp only [Machine.vmainFall, Machine.vmainRise]
    (repeat' split) <;> exact hs
  case holdupEntry vback =>
    have entered : KeptIn P (Machine.enterHoldup (s.setPins { s.pins with vback := vback })) := KeptIn.enterHoldup hs
    unfold Machine.holdupEntry
    dsimp only
    (repeat' split)
    · exact hs
    · exact entered
    · exact entered
    · exact entered
    · exact hs
  case shelfPowerLoss =>
    unfold Machine.shelfPowerLoss
    split
    · exact law.manufactured _ _ hs
    · exact hs
  case returnDecision =>
    unfold Machine.returnDecision
    (repeat' split)
    · exact hs
    · exact law.doReturn hs
    · exact hs
  case deferredReturn =>
    unfold Machine.deferredReturn
    split
    · exact law.doReturn hs
    · exact hs
  case dormantEntry =>
    unfold Machine.dormantEntry
    dsimp only
    split
    · exact KeptIn.enterDormant (s := s.setPins _) hs
    · exact hs
  case powerUp =>
    unfold Machine.powerUp
    split
    · exact law.startCore hs
    · exact hs
  case periodicCheckpoint =>
    unfold Machine.periodicCheckpoint
    (repeat' split)
    · exact KeptIn.startPeriodic (s := s.setPs _) hs
    · exact hs
    · exact hs
  case deferredPeriodicWrite =>
    unfold Machine.deferredPeriodicWrite
    split
    · exact KeptIn.startPeriodic (s := s.setPs _) hs
    · exact hs
  case checkpointWriteDone good => exact hs.writeDone good
  case holdUpReserveExhaustion =>
    unfold reserveExhausted
    split
    · exact hs.writeDone false
    · exact hs

/-- A law that survives every change of what it speaks of is kept by every step. -/
theorem RetainedLaw.step (hs : KeptIn P s) (h : step s = .next t) : KeptIn P t := by
  unfold Machine.step at h
  split at h
  · next c rest _ => exact law.exec (s := s.setPending rest) hs h
  · obtain rfl := Host.Outcome.next.inj h
    exact hs.tick

end

end Sys2Proof.Machine
end

section
/-! The ranges and the balance equation of the ledger (04 R55, R58, R60): what each movement of money keeps. -/

namespace Sys2Proof.Machine

/-- The law of the ledger, for the running state. -/
structure State.Booked (s : State) : Prop where
  percentage : s.params.recoveryPct ≤ 100
  sound : s.acct.Sound s.params

/-- The law of the ledger, for what is retained. -/
def Retained.Booked (x : Retained) : Prop := x.params.recoveryPct ≤ 100 ∧ x.acct.Sound x.params

theorem booked_iff (s : State) : s.retained.Booked ↔ s.Booked :=
  ⟨fun ⟨percentage, sound⟩ => ⟨percentage, sound⟩, fun ⟨percentage, sound⟩ => ⟨percentage, sound⟩⟩

theorem floorOf_nonpos (p : Params) : floorOf p ≤ 0 := by simp only [floorOf]; omega

/-- A register below its maximum after a saturating addition holds the sum, and was below its maximum (04 R59). -/
theorem satAdd_below {a b : Nat} (below : satAdd max48 a b < max48) : satAdd max48 a b = a + b ∧ a < max48 := by
  simp only [satAdd] at *
  omega

/-! ### Accounts -/

/-- The law does not speak of the flags and the state that a recomputation settles (04 R66). -/
theorem Account.Sound.settled {p q : Params} {a : Account} (h : a.Sound p) : (a.settled q).Sound p := h

theorem Account.Sound.withDebt {p : Params} {a : Account} (h : a.Sound p) {debt : Nat} (le : debt ≤ maxCents)
    (noted : Bool) : Account.Sound p { a with debt := debt, satNoted := noted } := by
  obtain ⟨floor, top, residue, -, balanced⟩ := h
  exact ⟨floor, top, residue, le, balanced⟩

theorem Account.Sound.withResidue {p : Params} {a : Account} (h : a.Sound p) {residue : Nat} (lt : residue < 1000000) :
    Account.Sound p { a with residue := residue } := by
  obtain ⟨floor, top, -, debt, balanced⟩ := h
  exact ⟨floor, top, lt, debt, balanced⟩

/-- A debit takes from the balance what it counts as charged, down to the floor (04 R57, R59). -/
theorem Account.Sound.debited {p : Params} {a : Account} (h : a.Sound p) (c : Nat) :
    (a.debited (floorOf p) c).Sound p := by
  obtain ⟨floor, top, residue, debt, balanced⟩ := h
  by_cases within : floorOf p ≤ a.balance - c
  · rw [(Account.debited_within within).1]
    refine ⟨within, by dsimp only; omega, residue, debt, fun crIn recovered charged raised => ?_⟩
    obtain ⟨sum, below⟩ := satAdd_below charged
    have before := balanced crIn recovered below raised
    dsimp only
    rw [sum]
    omega
  · rw [(Account.debited_cut (not_le.mp within)).1]
    refine ⟨le_refl _, by dsimp only; omega, residue, debt, fun crIn recovered charged raised => ?_⟩
    obtain ⟨sum, below⟩ := satAdd_below charged
    have before := balanced crIn recovered below raised
    dsimp only
    rw [sum]
    omega

/-- Of a percentage of a top-up no more than the top-up goes to debt (04 R61). -/
theorem recoveryPart_le {p : Params} (pct : p.recoveryPct ≤ 100) (a : Account) (cents : Nat) :
    recoveryPart p a cents ≤ cents := by
  have part : cents * p.recoveryPct / 100 ≤ cents :=
    Nat.div_le_of_le_mul (by rw [Nat.mul_comm 100]; exact Nat.mul_le_mul_left _ pct)
  exact (min_le_right _ _).trans part

/-- A top-up that does not pass the greatest balance (04 R61). -/
theorem Account.Sound.toppedUp {p : Params} {a : Account} (h : a.Sound p) (pct : p.recoveryPct ≤ 100) {cents : Nat}
    (fits : a.balance + ((cents - recoveryPart p a cents : Nat) : Int) ≤ maxCents) :
    (a.toppedUp p cents).Sound p := by
  obtain ⟨floor, -, residue, debt, balanced⟩ := h
  have part := recoveryPart_le pct a cents
  refine ⟨by dsimp only [Account.toppedUp]; omega, fits, residue, (Nat.sub_le _ _).trans debt,
    fun crIn recovered charged raised => ?_⟩
  obtain ⟨sumIn, belowIn⟩ := satAdd_below crIn
  obtain ⟨sumRecovered, belowRecovered⟩ := satAdd_below recovered
  have before := balanced belowIn belowRecovered charged raised
  dsimp only [Account.toppedUp]
  rw [sumIn, sumRecovered]
  push_cast
  omega

/-- A fresh account with an opening balance in range (04 R75, R76). -/
theorem Account.Sound.commissioned {p : Params} {opening : Int} (floor : floorOf p ≤ opening)
    (top : opening ≤ (maxCents : Int)) : (Account.commissioned p opening).Sound p :=
  ⟨floor, top, Nat.zero_lt_succ _, Nat.zero_le _, fun _ _ _ _ => by simp [Account.commissioned, Cl.manufacture]⟩

/-! ### Operations of the ledger -/

section
variable {s t : State}

theorem State.Booked.congr (hs : s.Booked) (params : t.params = s.params) (acct : t.acct = s.acct) : t.Booked :=
  ⟨params ▸ hs.percentage, params ▸ acct ▸ hs.sound⟩

theorem State.Booked.frame (hs : s.Booked) (params : t.params = s.params) (cl : t.cl = s.cl) : t.Booked :=
  hs.congr params (congrArg Cl.acct cl)

theorem State.Booked.setAcct (pct : s.params.recoveryPct ≤ 100) {a : Account} (sound : a.Sound s.params) :
    (s.setAcct a).Booked := ⟨pct, sound⟩

theorem State.Booked.recompute (hs : s.Booked) (origin : Origin) : (recompute origin s).Booked := by
  obtain ⟨pct, sound⟩ := hs
  refine ⟨by simpa using pct, ?_⟩
  rw [recompute_acct, (recompute_frame _ _).1]
  exact sound.settled

theorem State.Booked.addDebt (hs : s.Booked) (cause : DebtCause) (x : Nat) : (addDebt cause x s).Booked := by
  obtain ⟨pct, sound⟩ := hs
  obtain ⟨noted, added⟩ := addDebt_acct cause x s
  refine ⟨by simpa using pct, ?_⟩
  rw [added, (addDebt_frame _ _ _).1]
  exact sound.withDebt (min_le_left _ _) _

theorem State.Booked.debit (hs : s.Booked) (c : Nat) : (debit c s).Booked :=
  State.Booked.recompute (State.Booked.addDebt (.setAcct hs.percentage (hs.sound.debited c)) _ _) _

theorem State.Booked.charge (hs : s.Booked) (cost : Nat) : (charge cost s).Booked := by
  have kept : (s.setAcct { s.acct with residue := (s.acct.residue + cost) % 1000000 }).Booked :=
    .setAcct hs.percentage (hs.sound.withResidue (Nat.mod_lt _ (by decide)))
  unfold Machine.charge
  dsimp only
  split
  · exact kept
  · exact kept.debit _

theorem State.Booked.topUp (hs : s.Booked) {cents : Nat} (taken : topUpRefused cents s = false) :
    (topUp cents s).Booked := by
  obtain ⟨pct, sound⟩ := hs
  refine State.Booked.recompute (.setAcct pct (sound.toppedUp pct ?_)) _
  simpa [topUpRefused] using taken

/-- Under other allowances the balance is raised to the new floor where it lies below (04 R64). -/
theorem State.Booked.raiseToFloor {p : Params} (pct : s.params.recoveryPct ≤ 100) (sound : s.acct.Sound p) :
    (raiseToFloor s).Booked := by
  obtain ⟨-, top, residue, debt, balanced⟩ := sound
  unfold Machine.raiseToFloor
  dsimp only
  split
  · next below =>
    have nonpos := floorOf_nonpos s.params
    refine State.Booked.addDebt (.setAcct (a := { s.acct with
      balance := floorOf s.params
      crRaised := satAdd max48 s.acct.crRaised (floorOf s.params - s.acct.balance).toNat
      crDeferred := satAdd max48 s.acct.crDeferred (floorOf s.params - s.acct.balance).toNat })
      pct ⟨le_refl _, nonpos.trans (Int.natCast_nonneg _), residue, debt, ?_⟩) _ _
    intro crIn recovered charged raised
    obtain ⟨sum, room⟩ := satAdd_below raised
    have before := balanced crIn recovered charged room
    dsimp only
    rw [sum]
    omega
  · next above => exact ⟨pct, not_lt.mp above, top, residue, debt, balanced⟩

theorem State.Booked.changeAllowance (hs : s.Booked) {params : Params} (pct : params.recoveryPct ≤ 100) :
    (changeAllowance params s).Booked := by
  refine (State.Booked.raiseToFloor (p := s.params) (by simpa using pct) ?_).recompute _
  rw [offerOnRaise_acct]
  exact hs.sound

theorem State.Booked.takeEmergency (hs : s.Booked) : (takeEmergency s).Booked := by
  have asked := State.Booked.setAcct (a := { s.acct with accepted := true, available := false }) hs.percentage hs.sound
  have done := asked.recompute .acceptingPress
  unfold Machine.takeEmergency
  dsimp only
  split
  · exact done
  · exact done.frame (by simp) (by simp)

theorem State.Booked.evaluateCalendar (hs : s.Booked) : (evaluateCalendar s).Booked := hs.congr (by simp) (by simp)

theorem State.Booked.setClock (hs : s.Booked) (day minute second : Nat) : (setClock day minute second s).Booked := by
  rw [setClock_eq]
  exact State.Booked.congr (State.Booked.evaluateCalendar (s := s.clockSetTo _ _) (hs.congr rfl rfl)) rfl rfl

theorem State.Booked.setRate (hs : s.Booked) (band : Band) (block : Block) (rate : Nat) :
    (setRate band block rate s).Booked := by
  refine State.Booked.evaluateCalendar ?_
  exact hs.congr rfl rfl

theorem State.Booked.setProfile (hs : s.Booked) (which : ProfileId) (points : List SwitchPoint) :
    (setProfile which points s).Booked := by
  refine State.Booked.evaluateCalendar ?_
  exact hs.congr rfl rfl

/-! ### Billing -/

theorem State.Booked.billEnergy (hs : s.Booked) (e : Nat) : (billEnergy e s).Booked := by
  unfold Machine.billEnergy
  dsimp only
  split
  · exact hs.congr rfl rfl
  · refine State.Booked.charge ?_ _
    exact hs.congr rfl rfl

theorem State.Booked.takeItem (hs : s.Booked) (place : Nat) (missing : Option Nat) (r : IntervalRecord) :
    (takeItem place missing r s).Booked := by
  have gap (m : Nat) {u : State} (hu : u.Booked) : (billGap m u).Booked := by
    unfold billGap
    split
    · exact hu
    · exact hu.billEnergy _
  have record (power : Nat) {u : State} (hu : u.Booked) : (billRecord power r u).Booked :=
    (hu.billEnergy (power * r.dur)).frame (by simp [billRecord]) (by simp [billRecord])
  have check (here : Nat) {u : State} (hu : u.Booked) : (checkAt place here r u).Booked :=
    hu.frame (by simp) (by simp)
  have offered (power : Nat) {u : State} (hu : u.Booked) : (offerLoad power u).Booked := hu.frame (by simp) (by simp)
  have observed (l : List Observation) {u : State} (hu : u.Booked) :
      (l.foldl (fun t o => observe o t) u).Booked :=
    hu.frame (foldl_keeps State.params _ (fun t o => by simp) l u) (foldl_keeps State.cl _ (fun t o => by simp) l u)
  unfold Machine.takeItem
  exact check 3 (observed _ (check 2 (offered _ (check 1 (record _ (gap _ (check 0 hs)))))))

theorem State.Booked.recordTake (hs : s.Booked) (loadv : PerPhase Bool) : (recordTake loadv s).Booked := by
  unfold Machine.recordTake
  split
  · dsimp only
    split <;> refine State.Booked.takeItem ?_ _ _ _ <;> exact hs.congr rfl rfl
  · exact hs

theorem State.Booked.silenceTick (hs : s.Booked) : (silenceTick s).Booked := by
  unfold Machine.silenceTick
  split
  · refine State.Booked.billEnergy ?_ _
    exact hs.congr rfl rfl
  · exact hs

/-! ### Codes (05 R91, R94) -/

/-- A parameter set to a value: the others stay. -/
theorem Params.setAt_recoveryPct (p : Params) {index : Nat} (v : Nat) (other : index ≠ 14) :
    (p.setAt index v).recoveryPct = p.recoveryPct := by
  unfold Params.setAt
  split
  case h_14 => exact absurd rfl other
  case h_27 => (repeat' split) <;> rfl
  all_goals rfl

theorem Params.setAt_floorOf (p : Params) {index : Nat} (v : Nat) (other : ¬(index = 10 ∨ index = 11)) :
    floorOf (p.setAt index v) = floorOf p := by
  unfold Params.setAt
  split
  case h_10 | h_11 => simp at other
  case h_27 => (repeat' split) <;> rfl
  all_goals rfl

theorem clampNat_le (lo hi x : Nat) (range : lo ≤ hi) : clampNat lo hi x ≤ hi := by
  simp only [clampNat]; omega

/-- A value of the parameter table keeps RECOVERY_PCT a percentage (11 section 11.3). -/
theorem Params.setAt_percentage {p : Params} (pct : p.recoveryPct ≤ 100) {index v : Nat} {row : ParamRow}
    (found : paramRow index = some row) (le : v ≤ row.hi) : (p.setAt index v).recoveryPct ≤ 100 := by
  by_cases named : index = 14
  · subst named
    obtain rfl := Option.some.inj found
    exact le
  · rw [Params.setAt_recoveryPct p v named]
    exact pct

theorem State.Booked.configEffect (hs : s.Booked) {index v : Nat}
    (pct : (s.params.setAt index v).recoveryPct ≤ 100) : (configEffect index v s).Booked := by
  by_cases allowance : index = 10 ∨ index = 11
  · rw [configEffect_allowance v s allowance]
    exact hs.changeAllowance pct
  have set : (s.setParams (s.params.setAt index v)).Booked := by
    obtain ⟨-, floor, rest⟩ := hs
    exact ⟨pct, (Params.setAt_floorOf s.params v allowance).symm ▸ floor, rest⟩
  simp only [Machine.configEffect, if_neg allowance]
  (repeat' split)
  · exact set.recompute _
  · exact State.Booked.evaluateCalendar (set.frame (by simp) (by simp))
  · exact set.evaluateCalendar
  · exact set.frame (by simp) (by simp)
  · exact set

theorem paramRow_lo_le_hi {index : Nat} {row : ParamRow} (found : paramRow index = some row) : row.lo ≤ row.hi := by
  unfold paramRow at found
  split at found
  case h_27 => split_ifs at found <;> obtain rfl := Option.some.inj found <;> decide
  all_goals obtain rfl := Option.some.inj found; decide

theorem State.Booked.setConfig (hs : s.Booked) (c : Code) : (applySetConfig c s).state.Booked := by
  unfold applySetConfig
  dsimp only
  split
  · next row found =>
    have pct := Params.setAt_percentage hs.percentage found
      (clampNat_le row.lo row.hi (valueField c.value 0 13 * row.step) (paramRow_lo_le_hi found))
    exact (hs.configEffect pct).frame (by simp) (by simp)
  · exact hs

theorem State.Booked.credit (hs : s.Booked) (c : Code) : (applyCredit c s).state.Booked := by
  unfold applyCredit
  dsimp only
  split
  · exact hs
  · next taken => exact (hs.topUp (by simpa using taken)).frame (by simp) (by simp)

theorem State.Booked.refused (hs : s.Booked) (o : CodeOutcome) (cls : Option Nat) (detail : List Byte) :
    (refuse o cls detail s).state.Booked := hs

theorem State.Booked.applied (hs : s.Booked) (o : CodeOutcome) (c : Code) (detail : List Byte) :
    (apply o c detail s).state.Booked := hs.congr rfl rfl

theorem State.Booked.completeGroup (hs : s.Booked) (g : PendingGroup) (c : Code) :
    (completeGroup g c s).state.Booked := by
  have dropped : (s.setGroup none).Booked := hs.congr rfl rfl
  unfold Machine.completeGroup
  dsimp only
  split
  · unfold applyRateGroup
    dsimp only
    split
    · exact dropped.refused _ _ _
    · exact (dropped.setRate _ _ _).applied _ _ _
  · unfold applyProfileGroup
    dsimp only
    split
    · exact (dropped.setProfile _ _).applied _ _ _
    · exact dropped.refused _ _ _
  · exact dropped.frame (by simp) (by simp)

theorem State.Booked.applyPart (hs : s.Booked) (cls : GroupClass) (src : Source) (c : Code) :
    (applyPart cls src c s).state.Booked := by
  have held (g : Option PendingGroup) : (s.setGroup g).Booked := hs.congr rfl rfl
  unfold Machine.applyPart
  dsimp only
  (repeat' split)
  · exact (held _).refused _ _ _
  · exact hs.refused _ _ _
  · exact hs.completeGroup _ _
  · exact (held _).refused _ _ _

theorem State.Booked.applyCode (hs : s.Booked) (src : Source) (c : Code) (day : Int) :
    (applyCode src c day s).state.Booked := by
  unfold Machine.applyCode
  split
  · exact hs.credit c
  · exact (hs.addDebt .debtAdd c.value.toNat).frame (by simp [applyDebtAdd]) (by simp [applyDebtAdd])
  · exact hs.frame (by simp) (by simp)
  · exact hs.frame (by simp) (by simp)
  · exact hs.setConfig c
  · exact hs.frame (by simp) (by simp)
  · exact (hs.setClock _ _ _).congr rfl rfl
  · refine State.Booked.applied (State.Booked.evaluateCalendar ?_) _ _ _
    exact hs.congr rfl rfl
  · split
    · exact hs.applyPart _ _ _
    · exact hs

theorem State.Booked.judgeCode (hs : s.Booked) (src : Source) (chars : List Byte) :
    (judgeCode src chars s).state.Booked := by
  rcases judgeCode_cases src chars s with same | failed | ⟨c, judged⟩
  · rw [same]; exact hs
  · rw [failed]; exact hs.frame (by simp) (by simp)
  have passed : (passAuthentic src c s).Booked := hs.frame (by simp) (by simp)
  rw [judged]
  rcases judgeAuthentic_cases src c (passAuthentic src c s) with same | ⟨-, applied⟩
  · rw [same]; exact passed
  · rw [applied]; exact passed.applyCode _ _ _

/-! ### Requests and entries -/

theorem State.Booked.customerKey (hs : s.Booked) (payload : List Byte) : (doCustomerKey payload s).Booked := by
  unfold doCustomerKey doRestore doAcceptEmergency
  have answered (result : List Byte) {u : State} (hu : u.Booked) : (replyOk 0x11#8 result u).Booked :=
    hu.frame (by simp) (by simp)
  (repeat' split)
  · exact answered _ (hs.frame (by simp) (by simp))
  · exact answered _ hs
  · exact answered _ hs.takeEmergency
  · exact answered _ hs

theorem State.Booked.entry (hs : s.Booked) (a : EntryAction) : (a.run s).Booked := by
  cases a with
  | calendarAndCredit => exact hs.evaluateCalendar.recompute _
  | switch => exact hs.frame (by simp [EntryAction.run]) (by simp [EntryAction.run])
  | limiterAndTamper => exact hs.frame (by simp [EntryAction.run]) (by simp [EntryAction.run])

theorem State.Booked.entries (hs : s.Booked) (l : List EntryAction) : (l.foldl (fun t a => a.run t) s).Booked := by
  induction l generalizing s with
  | nil => exact hs
  | cons a rest ih => exact ih (hs.entry a)

theorem State.Booked.enterActive (hs : s.Booked) : (enterActive s).Booked :=
  State.Booked.congr ((hs.congr rfl rfl : (startActive s).Booked).entries (entryOrder s.free)) rfl rfl

/-- The entries of an allowed COMMISSION request keep RECOVERY_PCT a percentage (11 R172, R173). -/
theorem CommissionRequest.percentage {r : CommissionRequest} (allowed : r.entries.all ParamEntry.allowed = true) :
    r.params.recoveryPct ≤ 100 := by
  refine List.foldlRecOn (motive := fun p : Params => p.recoveryPct ≤ 100) r.entries _ (by decide) fun p pct e mem => ?_
  have good := List.all_eq_true.mp allowed e mem
  unfold ParamEntry.allowed at good
  split
  · next row found =>
    simp only [found, Bool.and_eq_true, decide_eq_true_eq] at good
    exact Params.setAt_percentage pct found good.2
  · exact pct

theorem State.Booked.commissioned {r : CommissionRequest} (allowed : r.allowed = true) :
    (Machine.commissioned r s).Booked := by
  have calendar : (commissionBlocks r (commissionCalendar r s)).params = r.params := by simp [commissionCalendar]
  simp only [CommissionRequest.allowed, Bool.and_eq_true, decide_eq_true_eq] at allowed
  obtain ⟨⟨⟨⟨-, entries⟩, -⟩, floor⟩, top⟩ := allowed
  have pct := CommissionRequest.percentage entries
  have ledger : (commissionLedger r (commissionBlocks r (commissionCalendar r s))).Booked := by
    refine State.Booked.recompute ?_ _
    rw [calendar]
    exact ⟨calendar.symm ▸ pct, calendar.symm ▸ .commissioned floor top⟩
  refine State.Booked.entries ?_ _
  exact State.Booked.congr (ledger.frame (commissionTamper_frame _).1 (by simp)) rfl rfl

theorem State.Booked.edge (hs : s.Booked) : (tcEdgeEvaluation s).Booked := by
  unfold tcEdgeEvaluation
  split
  · exact hs.evaluateCalendar
  · exact hs

theorem State.Booked.reset : State.reset.Booked :=
  ⟨by decide, by decide, by decide, by decide, by decide, fun _ _ _ _ => rfl⟩

end

/-- The law of the ledger survives every change of parameters, account and keys. -/
theorem booked_law : RetainedLaw Retained.Booked := by
  constructor <;> simp only [booked_iff]
  case fresh => exact .reset
  case commissions => exact fun r s allowed _ => .commissioned allowed
  case entersActive => exact fun s hs => hs.enterActive
  case judges => exact fun src chars s hs => hs.judgeCode src chars
  case pressed => exact fun payload s hs => hs.customerKey payload
  case trims => exact fun d s hs => State.Booked.evaluateCalendar (hs.congr rfl rfl)
  case evaluates => exact fun s hs => hs.edge
  case takes => exact fun loadv s hs => hs.recordTake loadv
  case ticks => exact fun s hs => hs.silenceTick
  case endsLockout => exact fun src s hs => hs.frame (by simp) (by simp)

/-- Settles O7: no movement of money leaves the ranges or the balance equation, and the images hold what the running
state held. -/
theorem stepKeepsLedgerLaw : Obligations.StepKeepsLedgerLaw :=
  fun _ _ hs h => booked_law.step hs h

end Sys2Proof.Machine
end

section
/-! The owners of the reasons CREDIT, TAMPER and OVERLOAD (04 R67, R71, 08 R143, R144, 07 R132): what each operation
leaves of their agreement with the open-reason set. -/

namespace Sys2Proof.Machine

/-! ### What the decisions do to the set -/

/-- CL moves CREDIT alone, and only when what it asks differs from what it holds (04 R71). -/
theorem decideCredit_reasons (origin : Origin) (s : State) : (decideCredit origin s).sss.reasons =
    if wantsCredit s.acct.state s.tc.friendly = s.cl.creditHeld then s.sss.reasons
    else s.sss.reasons.set .credit (wantsCredit s.acct.state s.tc.friendly) := by
  unfold decideCredit
  cases wantsCredit s.acct.state s.tc.friendly <;> cases s.cl.creditHeld <;> simp

/-- TM moves TAMPER alone, and only when what it asks differs from what it holds (08 R143). -/
theorem evaluateTamper_reasons (s : State) : (evaluateTamper s).sss.reasons =
    if anyInForceWith s opensIn = s.tm.tamperHeld then s.sss.reasons
    else s.sss.reasons.set .tamper (anyInForceWith s opensIn) := by
  have same : anyInForceWith (setFlags s) opensIn = anyInForceWith s opensIn := rfl
  have held : (setFlags s).tm.tamperHeld = s.tm.tamperHeld := rfl
  simp only [evaluateTamper, holdTamper, same, held]
  cases anyInForceWith s opensIn <;> cases s.tm.tamperHeld <;> simp

theorem decideCredit_others (origin : Origin) (s : State) :
    (decideCredit origin s).sss.reasons.tamper = s.sss.reasons.tamper ∧
    (decideCredit origin s).sss.reasons.overload = s.sss.reasons.overload := by
  rw [decideCredit_reasons]
  split <;> exact ⟨rfl, rfl⟩

theorem recompute_others (origin : Origin) (s : State) :
    (recompute origin s).sss.reasons.tamper = s.sss.reasons.tamper ∧
    (recompute origin s).sss.reasons.overload = s.sss.reasons.overload := by
  have decided := decideCredit_others origin (holdCreditState (s.setAcct (s.acct.withFlags s.params)))
  rwa [(holdCreditState_frame _).2.2.2.2.2.1] at decided

theorem evaluateTamper_credit (s : State) : (evaluateTamper s).sss.reasons.credit = s.sss.reasons.credit := by
  rw [evaluateTamper_reasons]
  split <;> rfl

theorem evaluateTamper_overload (s : State) : (evaluateTamper s).sss.reasons.overload = s.sss.reasons.overload := by
  rw [evaluateTamper_reasons]
  split <;> rfl

/-! ### Owners and the set -/

/-- CL and TM know what they hold of the set, in every power state. -/
structure State.Linked (s : State) : Prop where
  credit : s.sss.reasons.credit = s.cl.creditHeld
  tamper : s.sss.reasons.tamper = s.tm.tamperHeld

theorem decideCredit_linked (origin : Origin) {s : State} (h : s.sss.reasons.credit = s.cl.creditHeld) :
    (decideCredit origin s).sss.reasons.credit = (decideCredit origin s).cl.creditHeld := by
  rw [decideCredit_reasons, decideCredit_held]
  split
  · next same => rw [h, same]
  · rfl

theorem evaluateTamper_linked {s : State} (h : s.sss.reasons.tamper = s.tm.tamperHeld) :
    (evaluateTamper s).sss.reasons.tamper = (evaluateTamper s).tm.tamperHeld := by
  rw [evaluateTamper_reasons, evaluateTamper_tm]
  split
  · next same => rw [h, same]
  · rfl

theorem recompute_linked (origin : Origin) {s : State} (h : s.sss.reasons.credit = s.cl.creditHeld) :
    (recompute origin s).sss.reasons.credit = (recompute origin s).cl.creditHeld := by
  have kept : (holdCreditState (s.setAcct (s.acct.withFlags s.params))).cl.creditHeld = s.cl.creditHeld := by
    unfold holdCreditState
    dsimp only
    split <;> rfl
  exact decideCredit_linked origin (by simpa [kept] using h)

/-- A recomputation makes CL's part agree, whatever it was (04 R66, R67, R71). -/
theorem recompute_agrees (origin : Origin) {s : State}
    (h : s.commissioned → s.sss.reasons.credit = s.cl.creditHeld) : CreditAgrees (recompute origin s) := by
  intro commissioned
  refine ⟨?_, ?_, recompute_linked origin (h (by simpa [State.commissioned] using commissioned))⟩
  · rw [recompute_acct, (recompute_frame _ _).1, Account.settled_state]
  · rw [recompute, decideCredit_held, decideCredit_acct, (decideCredit_frame _ _).2.2.2.1]

/-- An evaluation makes TM's part agree, whatever it was (08 R143, R144). -/
theorem evaluateTamper_agrees {s : State} (h : s.commissioned → s.sss.reasons.tamper = s.tm.tamperHeld) :
    TamperAgrees (evaluateTamper s) := by
  intro commissioned
  have same (action : Nat → Bool) : anyInForceWith (evaluateTamper s) action = anyInForceWith s action := by
    simp only [anyInForceWith, (evaluateTamper_frame s).1, evaluateTamper_tm]
    rfl
  refine ⟨?_, evaluateTamper_linked (h (by simpa [State.commissioned] using commissioned)), ?_, fun p => ?_⟩
  · rw [same, evaluateTamper_tm]
  · rw [same, evaluateTamper_tm]
  · rw [evaluateTamper_tm]
    cases p <;> rfl

/-! ### What the agreements depend on -/

theorem commissioned_of_power {s t : State} (power : t.ps.power = s.ps.power) (commissioned : t.commissioned) :
    s.commissioned := by rwa [State.commissioned, ← power]

/-- TM has the same conditions in force, and holds the same flags and the same reason. -/
structure Tm.SameInForce (x y : Tm) : Prop where
  conds : ∀ c, y.condInForce c = x.condInForce c
  deemed : y.deemed = x.deemed
  subst : y.subst = x.subst
  held : y.tamperHeld = x.tamperHeld

@[simp] theorem Tm.SameInForce.refl (x : Tm) : x.SameInForce x := ⟨fun _ => rfl, rfl, rfl, rfl⟩

theorem anyInForceWith_congr {s t : State} (actions : t.params.actions = s.params.actions)
    (tm : s.tm.SameInForce t.tm) (action : Nat → Bool) : anyInForceWith t action = anyInForceWith s action := by
  simp only [anyInForceWith, Tm.kindInForce, actions, tm.conds]

section
variable {s t : State}

theorem CreditAgrees_congr (h : CreditAgrees s)
    (asked : creditStateOf t.params t.acct = creditStateOf s.params s.acct) (state : t.acct.state = s.acct.state)
    (held : t.cl.creditHeld = s.cl.creditHeld) (friendly : t.tc.friendly = s.tc.friendly)
    (reason : t.sss.reasons.credit = s.sss.reasons.credit) (power : t.commissioned → s.commissioned) :
    CreditAgrees t := by
  intro commissioned
  rw [asked, state, held, friendly, reason]
  exact h (power commissioned)

theorem TamperAgrees_congr (h : TamperAgrees s) (actions : t.params.actions = s.params.actions)
    (tm : s.tm.SameInForce t.tm) (reason : t.sss.reasons.tamper = s.sss.reasons.tamper)
    (power : t.commissioned → s.commissioned) : TamperAgrees t := by
  intro commissioned
  rw [anyInForceWith_congr actions tm, anyInForceWith_congr actions tm, tm.held, tm.deemed, tm.subst, reason]
  simp only [tm.conds]
  exact h (power commissioned)

theorem OverloadAgrees_congr (h : OverloadAgrees s) (reason : t.sss.reasons.overload = s.sss.reasons.overload)
    (reclose : t.ll.reclose = s.ll.reclose) : OverloadAgrees t := by
  rw [OverloadAgrees, reason, reclose]
  exact h

end

/-! ### Steps that keep the agreements -/

/-- From s to t each owner has kept its reason. -/
structure OwnersKept (s t : State) : Prop where
  credit : CreditAgrees s → CreditAgrees t
  tamper : TamperAgrees s → TamperAgrees t
  overload : OverloadAgrees s → OverloadAgrees t
  linked : s.Linked → t.Linked

@[refl] theorem OwnersKept.refl (s : State) : OwnersKept s s := ⟨id, id, id, id⟩

section
variable {a s t : State} (h : OwnersKept a s)
include h

/-- An operation that touches no owner and leaves the set. -/
theorem OwnersKept.frame
    (same : (∀ x, creditStateOf t.params x = creditStateOf s.params x) ∧ t.params.actions = s.params.actions ∧
      t.cl = s.cl ∧ t.tc.friendly = s.tc.friendly ∧ t.sss.reasons = s.sss.reasons ∧ t.ll.reclose = s.ll.reclose ∧
      s.tm.SameInForce t.tm ∧ t.ps.power = s.ps.power) : OwnersKept a t := by
  obtain ⟨asked, actions, cl, friendly, reasons, reclose, tm, power⟩ := same
  constructor
  case credit =>
    intro agrees
    refine CreditAgrees_congr (h.credit agrees) ?_ ?_ (by rw [cl]) friendly (by rw [reasons])
      (commissioned_of_power power)
    · rw [asked, State.acct, State.acct, cl]
    · rw [State.acct, State.acct, cl]
  case tamper =>
    intro agrees
    exact TamperAgrees_congr (h.tamper agrees) actions tm (by rw [reasons]) (commissioned_of_power power)
  case overload =>
    intro agrees
    exact OverloadAgrees_congr (h.overload agrees) (by rw [reasons]) reclose
  case linked =>
    intro links
    exact ⟨by rw [reasons, cl]; exact (h.linked links).credit, by rw [reasons, tm.held]; exact (h.linked links).tamper⟩

/-- A commissioned part goes to another power state, or to another state of its writes. -/
theorem OwnersKept.power (commissioned : s.commissioned) (x : Ps) : OwnersKept a (s.setPs x) where
  credit agrees := CreditAgrees_congr (h.credit agrees) rfl rfl rfl rfl rfl fun _ => commissioned
  tamper agrees := TamperAgrees_congr (h.tamper agrees) rfl (.refl _) rfl fun _ => commissioned
  overload agrees := OverloadAgrees_congr (h.overload agrees) rfl rfl
  linked links := ⟨(h.linked links).credit, (h.linked links).tamper⟩

/-- An operation by which the account moves without a recomputation: nothing 04 R67 reads has changed. -/
theorem OwnersKept.account (x : Account) (asked : creditStateOf s.params x = creditStateOf s.params s.acct)
    (state : x.state = s.acct.state) : OwnersKept a (s.setAcct x) where
  credit agrees := CreditAgrees_congr (h.credit agrees) asked state rfl rfl rfl id
  tamper agrees := TamperAgrees_congr (h.tamper agrees) rfl (.refl _) rfl id
  overload agrees := OverloadAgrees_congr (h.overload agrees) rfl rfl
  linked links := ⟨(h.linked links).credit, (h.linked links).tamper⟩

/-- CL recomputes in a state with another account, parameters or friendly state (04 R66). -/
theorem OwnersKept.recompute (origin : Origin)
    (same : t.params.actions = s.params.actions ∧ t.cl.creditHeld = s.cl.creditHeld ∧ t.sss.reasons = s.sss.reasons ∧
      t.ll.reclose = s.ll.reclose ∧ t.tm = s.tm ∧ t.ps.power = s.ps.power) : OwnersKept a (recompute origin t) := by
  obtain ⟨actions, held, reasons, reclose, tm, power⟩ := same
  obtain ⟨tamper', overload'⟩ := recompute_others origin t
  constructor
  case credit =>
    intro agrees
    refine recompute_agrees origin fun commissioned => ?_
    obtain ⟨-, -, link⟩ := h.credit agrees (commissioned_of_power power commissioned)
    rw [reasons, held, link]
  case tamper =>
    intro agrees
    refine TamperAgrees_congr (h.tamper agrees) (by simpa using actions) ?_ (by rw [tamper', reasons])
      (commissioned_of_power (by simpa using power))
    simp [tm]
  case overload =>
    intro agrees
    exact OverloadAgrees_congr (h.overload agrees) (by rw [overload', reasons]) (by simpa using reclose)
  case linked =>
    intro links
    refine ⟨recompute_linked origin (by rw [reasons, held]; exact (h.linked links).credit), ?_⟩
    rw [tamper', reasons]
    simpa [tm] using (h.linked links).tamper

/-- TM evaluates in a state with other conditions in force, or other settings (08 R143). -/
theorem OwnersKept.evaluateTamper
    (same : (∀ x, creditStateOf t.params x = creditStateOf s.params x) ∧ t.cl = s.cl ∧ t.tc.friendly = s.tc.friendly ∧
      t.sss.reasons = s.sss.reasons ∧ t.ll.reclose = s.ll.reclose ∧ t.tm.tamperHeld = s.tm.tamperHeld ∧
      t.ps.power = s.ps.power) : OwnersKept a (evaluateTamper t) := by
  obtain ⟨asked, cl, friendly, reasons, reclose, held, power⟩ := same
  constructor
  case credit =>
    intro agrees
    refine CreditAgrees_congr (h.credit agrees) ?_ ?_ ?_ ?_ ?_ (commissioned_of_power (by simpa using power))
    · simp [State.acct, asked, cl]
    · simp [State.acct, cl]
    · simp [cl]
    · simp [friendly]
    · rw [evaluateTamper_credit, reasons]
  case tamper =>
    intro agrees
    refine evaluateTamper_agrees fun commissioned => ?_
    obtain ⟨-, link, -⟩ := h.tamper agrees (commissioned_of_power power commissioned)
    rw [reasons, held, link]
  case overload =>
    intro agrees
    exact OverloadAgrees_congr (h.overload agrees) (by rw [evaluateTamper_overload, reasons]) (by simpa using reclose)
  case linked =>
    intro links
    refine ⟨?_, evaluateTamper_linked (by rw [reasons, held]; exact (h.linked links).tamper)⟩
    rw [evaluateTamper_credit, reasons]
    simpa [cl] using (h.linked links).credit

end

end Sys2Proof.Machine
end

section
/-! The steps of the owners' agreement with the open-reason set: the conditions, the ledger, the limiter, the switch. -/

namespace Sys2Proof.Machine

section
variable {a s t : State} (h : OwnersKept a s)
include h

/-- CL decides in a state with another friendly state (03 R50, 04 R71). -/
theorem OwnersKept.decideCredit (origin : Origin)
    (same : t.params = s.params ∧ t.cl = s.cl ∧ t.sss.reasons = s.sss.reasons ∧ t.ll.reclose = s.ll.reclose ∧
      t.tm = s.tm ∧ t.ps.power = s.ps.power) : OwnersKept a (decideCredit origin t) := by
  obtain ⟨params, cl, reasons, reclose, tm, power⟩ := same
  obtain ⟨tamper', overload'⟩ := decideCredit_others origin t
  have power : (Machine.decideCredit origin t).commissioned → s.commissioned :=
    commissioned_of_power (by simpa using power)
  constructor
  case credit =>
    intro agrees commissioned
    obtain ⟨state, -, link⟩ := h.credit agrees (power commissioned)
    refine ⟨?_, ?_, decideCredit_linked origin (by rw [reasons, cl, link])⟩
    · rw [decideCredit_acct, (decideCredit_frame _ _).1, params, State.acct, cl]
      exact state
    · rw [decideCredit_held, decideCredit_acct, (decideCredit_frame _ _).2.2.2.1]
  case tamper =>
    intro agrees
    refine TamperAgrees_congr (h.tamper agrees) (by simp [params]) ?_ (by rw [tamper', reasons]) power
    simp [tm]
  case overload =>
    intro agrees
    exact OverloadAgrees_congr (h.overload agrees) (by rw [overload', reasons]) (by simpa using reclose)
  case linked =>
    intro links
    refine ⟨decideCredit_linked origin (by rw [reasons, cl]; exact (h.linked links).credit), ?_⟩
    rw [tamper', reasons]
    simpa [tm] using (h.linked links).tamper

/-- A reason of another owner moves, CREDIT and TAMPER stay. -/
theorem OwnersKept.otherReason (overload : OverloadAgrees s → OverloadAgrees t)
    (same : t.sss.reasons.credit = s.sss.reasons.credit ∧ t.sss.reasons.tamper = s.sss.reasons.tamper ∧
      t.params = s.params ∧ t.cl = s.cl ∧ t.tc = s.tc ∧ t.tm = s.tm ∧ t.ps.power = s.ps.power) : OwnersKept a t := by
  obtain ⟨credit, tamper, params, cl, tc, tm, power⟩ := same
  constructor
  case credit =>
    intro agrees
    refine CreditAgrees_congr (h.credit agrees) ?_ ?_ (by rw [cl]) (by rw [tc]) credit (commissioned_of_power power)
    · rw [params, State.acct, State.acct, cl]
    · rw [State.acct, State.acct, cl]
  case tamper =>
    intro agrees
    exact TamperAgrees_congr (h.tamper agrees) (by rw [params]) (tm ▸ .refl _) tamper (commissioned_of_power power)
  case overload => exact overload ∘ h.overload
  case linked =>
    intro links
    exact ⟨by rw [credit, cl]; exact (h.linked links).credit, by rw [tamper, tm]; exact (h.linked links).tamper⟩

end

/-! ### The tamper monitor (08) -/

/-- A condition that is not ACTIVE goes to a state that is not ACTIVE either: the same conditions are in force. -/
theorem setCondState_sameInForce {s : State} {c : CondId} {x : CondState} (before : (s.cond c).state ≠ .active)
    (after : x ≠ .active) : s.tm.SameInForce (s.setCondState c x).tm := by
  refine ⟨fun d => ?_, rfl, rfl, rfl⟩
  simp only [State.setCondState, State.setCond, State.setTm_tm, Tm.condInForce, PerCond.get_set]
  split
  · next own =>
    have idle : ((s.tm.conds.get d).state == .active) = false := by simpa [own, State.cond] using before
    have still : (x == .active) = false := by simpa using after
    simp [State.cond, ← own, idle, still]
  · rfl

@[simp] theorem setCond_tamperHeld (s : State) (c : CondId) (x : Cond) :
    (s.setCond c x).tm.tamperHeld = s.tm.tamperHeld := rfl

@[simp] theorem setFilter_tamperHeld (s : State) (i : Sensor) (x : Filter) :
    (s.setFilter i x).tm.tamperHeld = s.tm.tamperHeld := rfl

@[simp] theorem setCondState_tamperHeld (s : State) (c : CondId) (x : CondState) :
    (s.setCondState c x).tm.tamperHeld = s.tm.tamperHeld := rfl

@[simp] theorem startEffect_tamperHeld (c : CondId) (s : State) :
    (startEffect c s).tm.tamperHeld = s.tm.tamperHeld := by cases c <;> rfl

@[simp] theorem recorded_frame (c : CondId) (measure : Option Int) (s : State) :
    (recorded c measure s).params = s.params ∧ (recorded c measure s).tc = s.tc ∧
    (recorded c measure s).cl = s.cl ∧ (recorded c measure s).sss = s.sss ∧ (recorded c measure s).ll = s.ll ∧
    (recorded c measure s).ps = s.ps ∧ (recorded c measure s).tm.tamperHeld = s.tm.tamperHeld := by
  simp [recorded, starting]

@[simp] theorem endEffect_tamperHeld (c : CondId) (s : State) :
    (endEffect c s).tm.tamperHeld = s.tm.tamperHeld := by cases c <;> rfl

@[simp] theorem resumeInput_tamperHeld (i : Sensor) (s : State) :
    (resumeInput i s).tm.tamperHeld = s.tm.tamperHeld := by
  simp only [resumeInput]
  split <;> rfl

section
variable {a s : State} (h : OwnersKept a s)
include h

theorem OwnersKept.setTm (x : Tm) (same : s.tm.SameInForce x) : OwnersKept a (s.setTm x) := h.frame (by simp [same])

theorem OwnersKept.setFilter (i : Sensor) (x : Filter) : OwnersKept a (s.setFilter i x) :=
  h.setTm _ ⟨fun _ => rfl, rfl, rfl, rfl⟩

theorem OwnersKept.setCondState {c : CondId} {x : CondState} (before : (s.cond c).state ≠ .active)
    (after : x ≠ .active) : OwnersKept a (s.setCondState c x) :=
  h.setTm _ (setCondState_sameInForce before after)

theorem OwnersKept.setRun (c : RecordCond) (n : Nat) : OwnersKept a (s.setRun c n) := h.frame (by simp)

theorem OwnersKept.startCond (c : CondId) (measure : Option Int) : OwnersKept a (startCond c measure s) := by
  rw [startCond_eq]
  exact h.evaluateTamper (by simp)

theorem OwnersKept.endCond (c : CondId) : OwnersKept a (endCond c s) := by
  unfold Machine.endCond
  exact h.evaluateTamper (by simp)

theorem OwnersKept.handObserved (o : Observation) : OwnersKept a (handObserved o s) := h.frame (by simp)

theorem OwnersKept.observe (o : Observation) : OwnersKept a (observe o s) := by
  unfold Machine.observe
  dsimp only
  split
  · next idle _ => exact (h.setRun _ _).setCondState (by simp [idle]) (by simp)
  · exact h.setRun _ _
  · split
    · exact (h.setRun _ _).startCond _ _
    · exact h.setRun _ _
  · next pending _ => exact (h.setRun _ _).setCondState (by simp [pending]) (by simp)
  · exact (h.setRun _ _).handObserved _
  · split
    · exact (h.setRun _ _).endCond _
    · exact h.setRun _ _

theorem OwnersKept.silenceToTm : OwnersKept a (silenceToTm s) := by
  unfold Machine.silenceToTm
  split
  · exact h.startCond _ _
  · exact h

theorem OwnersKept.linkGoodToTm : OwnersKept a (linkGoodToTm s) := by
  unfold Machine.linkGoodToTm
  split
  · exact h.endCond _
  · exact h

theorem OwnersKept.lockoutStartToTm (src : Source) : OwnersKept a (lockoutStartToTm src s) := by
  have added : OwnersKept a (s.setTm { s.tm with probeSources := s.tm.probeSources.set src true }) :=
    h.setTm _ ⟨fun _ => rfl, rfl, rfl, rfl⟩
  unfold Machine.lockoutStartToTm
  dsimp only
  (repeat' split)
  · exact h
  · exact added.startCond _ _
  · exact added

theorem OwnersKept.lockoutEndToTm (src : Source) : OwnersKept a (lockoutEndToTm src s) := by
  have left : OwnersKept a (s.setTm { s.tm with probeSources := s.tm.probeSources.set src false }) :=
    h.setTm _ ⟨fun _ => rfl, rfl, rfl, rfl⟩
  unfold Machine.lockoutEndToTm
  dsimp only
  (repeat' split)
  · exact left.endCond _
  · exact left
  · exact h

theorem OwnersKept.clearLatches (mask : PerKind Bool) (cutoff : Int) : OwnersKept a (clearLatches mask cutoff s).1 := by
  have same := foldl_keeps (fun u => (u.params, u.cl, u.tc, u.sss, u.ll, u.ps, u.tm.tamperHeld))
    (fun u c => u.setCond c { u.cond c with latch := false }) (fun u c => by simp) (latchesCleared mask cutoff s) s
  simp only [Prod.mk.injEq] at same
  obtain ⟨params, cl, tc, sss, ll, ps, held⟩ := same
  exact h.evaluateTamper (by simp [params, cl, tc, sss, ll, ps, held])

theorem OwnersKept.followInput (i : Sensor) (shows : Bool) : OwnersKept a (followInput i shows s) := by
  unfold Machine.followInput
  split
  · next idle => exact (h.setFilter _ _).setCondState (by show (s.cond _).state ≠ _; simp [idle]) (by simp)
  · exact h
  · exact h
  · next pending => exact (h.setFilter _ _).setCondState (by show (s.cond _).state ≠ _; simp [pending]) (by simp)
  · exact h.setFilter _ _
  · exact h.setFilter _ _

theorem OwnersKept.sampleInput (i : Sensor) : OwnersKept a (sampleInput i s) := by
  unfold Machine.sampleInput
  dsimp only
  split
  · next idle _ =>
    split
    · exact (h.setFilter _ _).startCond _ _
    · exact (h.setFilter _ _).setCondState (by show (s.cond _).state ≠ _; simp [idle]) (by simp)
  · exact h.setFilter _ _
  · split
    · exact (h.setFilter _ _).startCond _ _
    · exact h.setFilter _ _
  · next pending _ => exact (h.setFilter _ _).setCondState (by show (s.cond _).state ≠ _; simp [pending]) (by simp)
  · exact h.setFilter _ _
  · split
    · exact (h.setFilter _ _).endCond _
    · exact h.setFilter _ _

theorem OwnersKept.enterActiveTm : OwnersKept a (enterActiveTm s) := by
  unfold Machine.enterActiveTm
  exact h.evaluateTamper (by simp)

theorem OwnersKept.sensorInputChange (i : Sensor) (shows : Bool) : OwnersKept a (sensorInputChange i shows s) := by
  unfold Machine.sensorInputChange
  dsimp only
  (repeat' split)
  · exact h
  · refine OwnersKept.followInput ?_ _ _
    exact h.frame (by simp)
  · exact h.frame (by simp)

theorem OwnersKept.sensorFilterExpiry (i : Sensor) : OwnersKept a (sensorFilterExpiry i s) := by
  unfold Machine.sensorFilterExpiry
  (repeat' split)
  · exact (h.setFilter _ _).startCond _ _
  · exact (h.setFilter _ _).endCond _
  · exact h.setFilter _ _
  · exact h

theorem OwnersKept.deemedHoldExpiry : OwnersKept a (deemedHoldExpiry s) := by
  unfold Machine.deemedHoldExpiry
  split
  · exact h.evaluateTamper (by simp)
  · exact h

theorem OwnersKept.holdupSample : OwnersKept a (holdupSample s) := by
  unfold Machine.holdupSample
  split
  · refine OwnersKept.sampleInput (OwnersKept.sampleInput (OwnersKept.sampleInput ?_ _) _) _
    exact h.frame (by simp)
  · exact h

/-! ### The ledger and the calendar (04, 03) -/

omit h in
@[simp] theorem addDebt_creditHeld (cause : DebtCause) (x : Nat) (s : State) :
    (addDebt cause x s).cl.creditHeld = s.cl.creditHeld := by rw [addDebt_cl]

omit h in
@[simp] theorem setAcct_creditHeld (s : State) (x : Account) : (s.setAcct x).cl.creditHeld = s.cl.creditHeld := rfl

omit h in
@[simp] theorem raiseToFloor_creditHeld (s : State) : (raiseToFloor s).cl.creditHeld = s.cl.creditHeld := by
  simp only [raiseToFloor]
  split <;> simp

omit h in
@[simp] theorem offerOnRaise_creditHeld (before : Nat) (s : State) :
    (offerOnRaise before s).cl.creditHeld = s.cl.creditHeld := by
  simp only [offerOnRaise]
  split <;> simp

theorem OwnersKept.addDebt (cause : DebtCause) (x : Nat) : OwnersKept a (addDebt cause x s) := by
  unfold Machine.addDebt
  dsimp only
  (repeat' split)
  · exact h.account _ rfl rfl
  · exact h.account _ rfl rfl
  · exact (h.account { s.acct with debt := maxCents, satNoted := true } rfl rfl).frame (by simp)

theorem OwnersKept.debit (c : Nat) : OwnersKept a (debit c s) := h.recompute _ (by simp)

theorem OwnersKept.charge (cost : Nat) : OwnersKept a (charge cost s) := by
  have kept := h.account { s.acct with residue := (s.acct.residue + cost) % 1000000 } rfl rfl
  unfold Machine.charge
  dsimp only
  split
  · exact kept
  · exact kept.debit _

theorem OwnersKept.billEnergy (e : Nat) : OwnersKept a (billEnergy e s) := by
  unfold Machine.billEnergy
  dsimp only
  split
  · exact h.frame (by simp)
  · refine OwnersKept.charge ?_ _
    exact h.frame (by simp)

theorem OwnersKept.topUp (cents : Nat) : OwnersKept a (topUp cents s) := h.recompute _ (by simp)

theorem OwnersKept.changeAllowance {params : Params} (actions : params.actions = s.params.actions) :
    OwnersKept a (changeAllowance params s) :=
  h.recompute _ (by simpa using actions)

theorem OwnersKept.takeEmergency : OwnersKept a (takeEmergency s) := by
  have done : OwnersKept a (Machine.recompute .acceptingPress
      (s.setAcct { s.acct with accepted := true, available := false })) := h.recompute _ (by simp)
  unfold Machine.takeEmergency
  dsimp only
  split
  · exact done
  · exact done.frame (by simp)

theorem OwnersKept.evaluateCalendar : OwnersKept a (evaluateCalendar s) := by
  have compared : OwnersKept a (compareAndBand s) := h.frame (by simp [compareAndBand_tc])
  have edge : OwnersKept a (friendlyEdge (compareAndBand s)) := by
    unfold friendlyEdge
    dsimp only
    split
    · exact compared
    · exact compared.decideCredit _ (by simp)
  exact edge.frame (by simp [Machine.evaluateCalendar, rollCycle_tc])

theorem OwnersKept.rebaseCycle (before : Nat) : OwnersKept a (rebaseCycle before s) := by
  unfold Machine.rebaseCycle
  split
  · exact h
  · exact h.frame (by simp)

theorem OwnersKept.setClock (day minute second : Nat) : OwnersKept a (setClock day minute second s) := by
  rw [setClock_eq]
  have set : OwnersKept a (s.clockSetTo day (day * 86400 + minute * 60 + second)) := h.frame (t := s.setTc _) (by simp)
  exact set.evaluateCalendar.frame (by simp)

/-! ### The limiter (07) -/

theorem OwnersKept.trip : OwnersKept a (trip s) := by
  unfold Machine.trip
  dsimp only
  refine h.otherReason (fun _ => ?_) (by simp [Reasons.set])
  simp [OverloadAgrees, Reasons.set]

theorem OwnersKept.lapseTest : OwnersKept a (lapseTest s) := by
  unfold Machine.lapseTest
  split
  · exact h.frame (by simp)
  · exact h

theorem OwnersKept.compareLoad (power : Nat) : OwnersKept a (compareLoad power s) := by
  have counted : OwnersKept a (s.setLl { s.ll with overload := s.ll.overload + 1 }) := h.frame (by simp)
  unfold Machine.compareLoad
  dsimp only
  (repeat' split)
  · exact counted.trip
  · exact counted
  · exact h.frame (by simp)

theorem OwnersKept.watchLoad (power : Nat) : OwnersKept a (watchLoad power s) := by
  unfold Machine.watchLoad
  split
  · exact h
  · exact h.frame (by simp)
  · exact h.compareLoad power

theorem OwnersKept.offerLoad (power : Nat) : OwnersKept a (offerLoad power s) := by
  unfold Machine.offerLoad
  dsimp only
  split
  · exact h.lapseTest.watchLoad power
  · exact h.lapseTest.frame (by simp)

theorem OwnersKept.clearLockout : OwnersKept a (clearLockout s) := by
  unfold Machine.clearLockout
  refine h.otherReason (fun _ => ?_) (by simp [Reasons.set])
  simp [OverloadAgrees, Reasons.set]

theorem OwnersKept.recloseTimerExpiry : OwnersKept a (recloseTimerExpiry s) := by
  unfold Machine.recloseTimerExpiry
  dsimp only
  split
  · next due =>
    obtain ⟨-, waits, -⟩ := due
    split
    · refine h.otherReason (fun _ => ?_) (by simp [Reasons.set])
      simp [OverloadAgrees, Reasons.set]
    · refine h.otherReason (fun agrees => ?_) (by simp)
      simpa [OverloadAgrees, waits] using agrees
  · exact h

/-! ### The switch (06) -/

omit h in
@[simp] theorem verifyClosing_reclose (s : State) : (verifyClosing s).ll.reclose = s.ll.reclose := by
  simp only [verifyClosing]
  (repeat' split) <;> simp [verifiedClose]

omit h in
@[simp] theorem positionCheck_reclose (r : IntervalRecord) (s : State) :
    (positionCheck r s).ll.reclose = s.ll.reclose := by
  simp only [positionCheck]
  (repeat' split) <;> simp [verifiedClose]

omit h in
@[simp] theorem settleEnd_reclose (loadv : PerPhase Bool) (s : State) :
    (settleEnd loadv s).ll.reclose = s.ll.reclose := by
  simp only [settleEnd]
  (repeat' split) <;> simp

theorem OwnersKept.checkAt (place here : Nat) (r : IntervalRecord) : OwnersKept a (checkAt place here r s) := by
  unfold Machine.checkAt
  split
  · exact h.frame (by simp)
  · exact h

theorem OwnersKept.remoteAdded : OwnersKept a (addReason .remote s) :=
  h.otherReason (fun agrees => OverloadAgrees_congr agrees (by simp [Reasons.set]) (by simp)) (by simp [Reasons.set])

theorem OwnersKept.remoteRemoved : OwnersKept a (removeReason .remote .ordinary s) :=
  h.otherReason (fun agrees => OverloadAgrees_congr agrees (by simp [Reasons.set]) (by simp)) (by simp [Reasons.set])

/-! ### Records (02 R16, R33) -/

theorem OwnersKept.takeItem (place : Nat) (missing : Option Nat) (r : IntervalRecord) :
    OwnersKept a (takeItem place missing r s) := by
  have gap (m : Nat) {u : State} (hu : OwnersKept a u) : OwnersKept a (billGap m u) := by
    unfold billGap
    split
    · exact hu
    · exact hu.billEnergy _
  have record (power : Nat) {u : State} (hu : OwnersKept a u) : OwnersKept a (billRecord power r u) := by
    unfold billRecord
    exact (hu.billEnergy (power * r.dur)).frame (by simp)
  have observed (l : List Observation) {u : State} (hu : OwnersKept a u) :
      OwnersKept a (l.foldl (fun t o => Machine.observe o t) u) := by
    induction l generalizing u with
    | nil => exact hu
    | cons o l ih => exact ih (hu.observe o)
  unfold Machine.takeItem
  exact (observed _ ((record _ (gap _ (h.checkAt _ _ _))).checkAt _ _ _ |>.offerLoad _ |>.checkAt _ _ _)).checkAt _ _ _

theorem OwnersKept.recordTake (loadv : PerPhase Bool) : OwnersKept a (recordTake loadv s) := by
  unfold Machine.recordTake
  split
  · dsimp only
    split <;> refine OwnersKept.takeItem ?_ _ _ _ <;> exact h.frame (by simp)
  · exact h

theorem OwnersKept.silenceTick : OwnersKept a (silenceTick s) := by
  unfold Machine.silenceTick
  split
  · refine OwnersKept.billEnergy ?_ _
    exact h.frame (by simp)
  · exact h

/-! ### Codes (05) -/

theorem OwnersKept.reportLockoutEnd (src : Source) : OwnersKept a (reportLockoutEnd src s) := by
  unfold Machine.reportLockoutEnd
  exact (h.lockoutEndToTm src).frame (by simp)

theorem OwnersKept.lockoutEnd (src : Source) : OwnersKept a (lockoutEnd src s) := by
  unfold Machine.lockoutEnd endLockout
  split
  · refine OwnersKept.reportLockoutEnd ?_ _
    exact h.frame (by simp)
  · exact h

theorem OwnersKept.failAttempt (src : Source) : OwnersKept a (failAttempt src s) := by
  have lowered : OwnersKept a (s.setAttempts src (s.ce.keys.attempts.get src - 1)) := h.frame (by simp)
  unfold Machine.failAttempt startLockout
  dsimp only
  split
  · have locked : OwnersKept a ((s.setAttempts src (s.ce.keys.attempts.get src - 1)).setLockout src
        (secondsTimer 3600)) := lowered.frame (by simp)
    exact (locked.lockoutStartToTm src).frame (by simp)
  · exact lowered

theorem OwnersKept.changeKeys (content : Nat) : OwnersKept a (changeKeys content s) := by
  have ended (before : PerSource Nat) (src : Source) {u : State} (hu : OwnersKept a u) :
      OwnersKept a (endIfLocked before src u) := by
    unfold endIfLocked
    split
    · exact hu.reportLockoutEnd _
    · exact hu
  unfold Machine.changeKeys
  refine ended _ _ (ended _ _ ?_)
  exact h.frame (by simp)

/-- A parameter that neither CL nor TM reads for its reason. -/
theorem OwnersKept.setParams {params : Params} (asked : ∀ x, creditStateOf params x = creditStateOf s.params x)
    (actions : params.actions = s.params.actions) : OwnersKept a (s.setParams params) :=
  h.frame (by simp [asked, actions])

omit h in
/-- The settings are the parameters 32 to 40. -/
theorem Params.setAt_actions (p : Params) {index : Nat} (v : Nat) (other : ¬(32 ≤ index ∧ index ≤ 40)) :
    (p.setAt index v).actions = p.actions := by
  unfold Params.setAt
  split
  case h_27 => rw [if_neg other]; split <;> rfl
  all_goals rfl

omit h in
/-- The credit state reads E_ALLOW, F_ALLOW and LOW_THRESHOLD alone (04 R67). -/
theorem Params.setAt_creditState (p : Params) {index : Nat} (v : Nat) (other : ¬(index = 10 ∨ index = 11 ∨ index = 12))
    (x : Account) : creditStateOf (p.setAt index v) x = creditStateOf p x := by
  unfold Params.setAt
  split
  case h_10 | h_11 | h_12 => simp at other
  case h_27 => (repeat' split) <;> rfl
  all_goals rfl

theorem OwnersKept.configEffect (index v : Nat) : OwnersKept a (configEffect index v s) := by
  have actions := s.params.setAt_actions (index := index) v
  have asked := s.params.setAt_creditState (index := index) v
  unfold Machine.configEffect
  dsimp only
  split
  · exact h.changeAllowance (actions (by omega))
  split
  · exact h.recompute _ (by simp [actions (by omega)])
  split
  · exact ((h.setParams (asked (by omega)) (actions (by omega))).rebaseCycle _).evaluateCalendar
  split
  · next window => exact (h.setParams (asked (by omega)) (actions (by omega))).evaluateCalendar
  split
  · exact h.evaluateTamper (by simp [asked (by omega)])
  · exact h.setParams (asked (by omega)) (actions (by omega))

theorem OwnersKept.refused (o : CodeOutcome) (cls : Option Nat) (detail : List Byte) :
    OwnersKept a (refuse o cls detail s).state := h

theorem OwnersKept.applied (o : CodeOutcome) (c : Code) (detail : List Byte) :
    OwnersKept a (apply o c detail s).state := h.frame (by simp)

theorem OwnersKept.completeGroup (g : PendingGroup) (c : Code) : OwnersKept a (completeGroup g c s).state := by
  have dropped : OwnersKept a (s.setGroup none) := h.frame (by simp)
  unfold Machine.completeGroup
  dsimp only
  split
  · unfold applyRateGroup
    dsimp only
    split
    · exact dropped.refused _ _ _
    · refine OwnersKept.applied (OwnersKept.evaluateCalendar ?_) _ _ _
      exact dropped.frame (by simp)
  · unfold applyProfileGroup
    dsimp only
    split
    · refine OwnersKept.applied (OwnersKept.evaluateCalendar ?_) _ _ _
      exact dropped.frame (by simp)
    · exact dropped.refused _ _ _
  · unfold applyKeyGroup
    split
    · exact dropped.refused _ _ _
    · exact dropped.changeKeys _

theorem OwnersKept.applyPart (cls : GroupClass) (src : Source) (c : Code) :
    OwnersKept a (applyPart cls src c s).state := by
  have held (g : Option PendingGroup) : OwnersKept a (s.setGroup g) := h.frame (by simp)
  unfold Machine.applyPart
  dsimp only
  (repeat' split)
  · exact (held _).refused _ _ _
  · exact h.refused _ _ _
  · exact h.completeGroup _ _
  · exact (held _).refused _ _ _

theorem OwnersKept.applyCode (src : Source) (c : Code) (day : Int) : OwnersKept a (applyCode src c day s).state := by
  unfold Machine.applyCode
  split
  · unfold applyCredit
    dsimp only
    split
    · exact h.refused _ _ _
    · exact (h.topUp _).applied _ _ _
  · exact (h.addDebt _ _).applied _ _ _
  · unfold applyRemoteSwitch
    split
    · exact h.remoteAdded.applied _ _ _
    · exact h.remoteRemoved.applied _ _ _
  · have cleared := h.clearLatches (maskOf (valueField c.value 12 9)) (codeCutoff day c.value)
    exact OwnersKept.applied (cleared.frame (by simp)) _ _ _
  · unfold applySetConfig
    dsimp only
    split
    · exact (h.configEffect _ _).applied _ _ _
    · exact h.refused _ _ _
  · refine OwnersKept.applied ?_ _ _ _
    unfold applyTempLimit
    split <;> exact h.frame (by simp)
  · exact (h.setClock _ _ _).applied _ _ _
  · refine OwnersKept.applied (OwnersKept.evaluateCalendar ?_) _ _ _
    exact h.frame (by simp)
  · split
    · exact h.applyPart _ _ _
    · exact h.refused _ _ _

theorem OwnersKept.judgeCode (src : Source) (chars : List Byte) : OwnersKept a (judgeCode src chars s).state := by
  rcases judgeCode_cases src chars s with same | failed | ⟨c, judged⟩
  · rw [same]; exact h
  · rw [failed]; exact h.failAttempt src
  have passed : OwnersKept a (passAuthentic src c s) := h.frame (by simp)
  rw [judged]
  rcases judgeAuthentic_cases src c (passAuthentic src c s) with same | ⟨-, applied⟩
  · rw [same]; exact passed
  · rw [applied]; exact passed.applyCode _ _ _

end

end Sys2Proof.Machine
end

section
/-! The steps of the owners' agreement, continued: requests, entries to a power state, the step. -/

namespace Sys2Proof.Machine

/-! ### Entries to ACTIVE (10 R165, R170, 11 R173) -/

theorem mem_entryOrder (n : Nat) (x : EntryAction) : x ∈ entryOrder n :=
  (drawnOrder_perm _ _).mem_iff.mpr (by cases x <;> simp)

section
variable {a s : State}

theorem OwnersKept.entry (h : OwnersKept a s) (x : EntryAction) : OwnersKept a (x.run s) := by
  cases x with
  | calendarAndCredit => exact h.evaluateCalendar.recompute _ (by simp)
  | switch => exact h.frame (s := s) (t := enterActiveSss s) (by simp)
  | limiterAndTamper => exact h.lapseTest.enterActiveTm

theorem OwnersKept.entries (h : OwnersKept a s) (l : List EntryAction) :
    OwnersKept a (l.foldl (fun t x => x.run t) s) := by
  induction l generalizing s with
  | nil => exact h
  | cons x rest ih => exact ih (h.entry x)

theorem OwnersKept.startActive (h : OwnersKept a s) : OwnersKept a (startActive s) := by
  unfold Machine.startActive
  exact h.frame (by simp [Sss.withCoilEnable])

theorem OwnersKept.enterActive (h : OwnersKept a s) : OwnersKept a (enterActive s) := by
  unfold Machine.enterActive
  exact (h.startActive.entries (entryOrder s.free)).frame (by simp)

/-- CL's entry makes its part agree (04 R76). -/
theorem calendarAndCredit_agrees (links : s.Linked) : CreditAgrees (EntryAction.calendarAndCredit.run s) :=
  recompute_agrees _ fun _ => ((OwnersKept.refl s).evaluateCalendar.linked links).credit

/-- TM's entry makes its part agree (08 R149). -/
theorem limiterAndTamper_agrees (links : s.Linked) : TamperAgrees (EntryAction.limiterAndTamper.run s) := by
  refine evaluateTamper_agrees fun _ => ?_
  simpa using links.tamper

/-- Every owner agrees. -/
structure State.Agreed (s : State) : Prop where
  credit : CreditAgrees s
  tamper : TamperAgrees s
  overload : OverloadAgrees s
  linked : s.Linked

theorem State.Agreed.kept (h : s.Agreed) : OwnersKept a s :=
  ⟨fun _ => h.credit, fun _ => h.tamper, fun _ => h.overload, fun _ => h.linked⟩

theorem OwnersKept.agreed {t : State} (h : OwnersKept s t) (agreed : s.Agreed) : t.Agreed :=
  ⟨h.credit agreed.credit, h.tamper agreed.tamper, h.overload agreed.overload, h.linked agreed.linked⟩

/-- Entries that include CL's and TM's make every owner agree, in whatever order they come (log 5). -/
theorem entries_agree {l : List EntryAction} (links : s.Linked) (overload : OverloadAgrees s)
    (credit : .calendarAndCredit ∈ l) (tamper : .limiterAndTamper ∈ l) : (l.foldl (fun t x => x.run t) s).Agreed := by
  have kept (m : List EntryAction) (t : State) := (OwnersKept.refl t).entries m
  refine ⟨?_, ?_, (kept l s).overload overload, (kept l s).linked links⟩
  · obtain ⟨before, after, rfl⟩ := List.append_of_mem credit
    rw [List.foldl_append, List.foldl_cons]
    exact (kept after _).credit (calendarAndCredit_agrees ((kept before s).linked links))
  · obtain ⟨before, after, rfl⟩ := List.append_of_mem tamper
    rw [List.foldl_append, List.foldl_cons]
    exact (kept after _).tamper (limiterAndTamper_agrees ((kept before s).linked links))

theorem enterActive_agrees (links : s.Linked) (overload : OverloadAgrees s) : (enterActive s).Agreed := by
  have started := (OwnersKept.refl s).startActive
  have entered := entries_agree (started.linked links) (started.overload overload)
    (mem_entryOrder s.free .calendarAndCredit) (mem_entryOrder s.free .limiterAndTamper)
  unfold enterActive
  exact ((OwnersKept.refl _).frame (by simp)).agreed entered

/-- A restore links each owner to the set of the image before the entry (10 R170, 07 R132). -/
theorem restoreFrom_agrees (img : Image) (s : State) : (restoreFrom img s).Agreed := by
  refine enterActive_agrees ⟨rfl, rfl⟩ ?_
  show img.contents.reasons.overload = true ↔ (Ll.restored img.contents).reclose ≠ .rest
  unfold Ll.restored
  split <;> simp_all [Ll.manufacture]

/-- A part that is not commissioned has manufacture values (04 R76, 07 R132, 08 R151). -/
theorem manufactured_agrees {power : Power} (uncommissioned : power = .shelf ∨ power = .off) (tl : Tl) (s : State) :
    (manufactured power tl s).Agreed := by
  have never : ¬(manufactured power tl s).commissioned := by
    rintro ⟨shelf, off⟩
    exact uncommissioned.elim shelf off
  exact ⟨fun commissioned => absurd commissioned never, fun commissioned => absurd commissioned never,
    ⟨nofun, fun waits => absurd rfl waits⟩, ⟨rfl, rfl⟩⟩

/-- COMMISSION starts with an empty set and no owner holding a reason (04 R76, 06 R122, 07 R132, 08 R151). -/
theorem commissionTamper_linked (r : CommissionRequest) {s : State} (reasons : s.sss.reasons = Reasons.empty)
    (rest : s.ll.reclose = .rest) :
    (commissionTamper (commissionLedger r s)).Linked ∧ OverloadAgrees (commissionTamper (commissionLedger r s)) := by
  have credit : (commissionLedger r s).sss.reasons.credit = (commissionLedger r s).cl.creditHeld :=
    recompute_linked _ (by rw [State.setCl_sss, reasons]; rfl)
  obtain ⟨tamper, overload⟩ :=
    recompute_others .ordinary (s.setCl ⟨Account.commissioned s.params r.opening, false⟩)
  rw [State.setCl_sss, reasons] at tamper overload
  refine ⟨⟨?_, evaluateTamper_linked tamper⟩, ?_⟩
  · rw [commissionTamper, evaluateTamper_credit]
    simpa using credit
  · have reason : (commissionTamper (commissionLedger r s)).sss.reasons.overload = false := by
      rw [commissionTamper, evaluateTamper_overload]
      exact overload
    have reclose : (commissionTamper (commissionLedger r s)).ll.reclose = .rest := by simpa using rest
    exact ⟨fun added => absurd added (by simp [reason]), fun waits => absurd reclose waits⟩

theorem commissioned_agrees (r : CommissionRequest) (s : State) : (Machine.commissioned r s).Agreed := by
  obtain ⟨links, overload⟩ := commissionTamper_linked r (s := commissionBlocks r (commissionCalendar r s)) rfl rfl
  have started (t : State) := (OwnersKept.refl t).startActive
  exact entries_agree ((started _).linked ⟨links.credit, links.tamper⟩)
    ((started _).overload (OverloadAgrees_congr overload rfl rfl)) (by simp) (by simp)

end

/-! ### Requests (12 R180) -/

@[simp] theorem beginWrite_power (occ : Occasion) (s : State) : (beginWrite occ s).ps.power = s.ps.power := rfl

@[simp] theorem startWrite_power (occ : Occasion) (s : State) : (startWrite occ s).ps.power = s.ps.power := by
  unfold startWrite
  split <;> rfl

section
variable {a s : State} (h : OwnersKept a s)
include h

theorem OwnersKept.startWrite (occ : Occasion) : OwnersKept a (startWrite occ s) := h.frame (by simp)

end

section
variable {a : State}

theorem OwnersKept.replyJudged {j : Judged} (hj : OwnersKept a j.state) : OwnersKept a (replyJudged j) := by
  unfold Machine.replyJudged
  dsimp only
  split
  · refine OwnersKept.startWrite ?_ _
    exact hj.frame (by simp)
  · exact hj.frame (by simp)

theorem OwnersKept.commission (r : CommissionRequest) (reply : Reply) (s : State) :
    OwnersKept a (commission r reply s) := by
  rw [commission_eq]
  refine OwnersKept.startWrite ?_ _
  exact (commissioned_agrees r s).kept.frame (by simp)

theorem OwnersKept.startCore (s : State) : OwnersKept a (startCore s) := by
  unfold Machine.startCore
  split
  · exact (restoreFrom_agrees _ s).kept
  · exact (manufactured_agrees (.inl rfl) _ s).kept

end

section
variable {a s : State} (h : OwnersKept a s)
include h

theorem OwnersKept.replyOk (kind : Byte) (result : List Byte) : OwnersKept a (replyOk kind result s) :=
  h.frame (by simp)

theorem OwnersKept.doCustomerKey (payload : List Byte) : OwnersKept a (doCustomerKey payload s) := by
  unfold Machine.doCustomerKey doRestore doAcceptEmergency restorePress
  (repeat' split)
  · exact h.clearLockout.replyOk _ _
  · exact OwnersKept.replyOk (h.frame (t := startClosing s) (by simp)) _ _
  · exact h.replyOk _ _
  · exact h.takeEmergency.replyOk _ _
  · exact h.replyOk _ _

theorem OwnersKept.trimClock (d : Int) : OwnersKept a (trimClock d s) := by
  refine OwnersKept.evaluateCalendar ?_
  exact h.frame (by simp [Tc.compareAllowance_eq, Tc.trimmed])

theorem OwnersKept.runRequest (kind : Byte) (payload : List Byte) : OwnersKept a (runRequest kind payload s) := by
  unfold Machine.runRequest
  split
  iterate 8 exact h.frame (by simp)
  · show OwnersKept a (Machine.replyJudged (Machine.judgeCode _ _ s))
    exact OwnersKept.replyJudged (h.judgeCode _ _)
  · exact h.doCustomerKey payload
  · exact (h.trimClock _).replyOk _ _
  · exact OwnersKept.commission _ _ s
  · exact h

theorem OwnersKept.takeFrame (kind : Byte) (payload : List Byte) : OwnersKept a (takeFrame kind payload s) := by
  unfold Machine.takeFrame takeRequest
  (repeat' split)
  · exact h.frame (by simp)
  · exact h.runRequest kind payload
  · exact h.frame (by simp)
  · exact h

theorem OwnersKept.receiveByte (b : LineByte) : OwnersKept a (receiveByte s b) := by
  have hunts (rx : Option PartialFrame) : OwnersKept a (s.setRx rx) := h.frame (by simp)
  unfold Machine.receiveByte collectByte frameComplete
  dsimp only
  (repeat' split)
  · exact hunts _
  · exact hunts _
  · exact h
  · exact hunts _
  · exact hunts _
  · exact (hunts none).takeFrame _ _
  · exact hunts _
  · exact h

theorem OwnersKept.receiveBytes (bytes : List LineByte) : OwnersKept a (bytes.foldl Machine.receiveByte s) := by
  induction bytes generalizing s with
  | nil => exact h
  | cons b rest ih => exact ih (h.receiveByte b)

/-! ### The meter link (01) -/

theorem OwnersKept.arrival (r : IntervalRecord) : OwnersKept a (arrival r s) := by
  have heard : OwnersKept a (Machine.linkGoodToTm (s.setMli { s.mli with silenceMs := 0, reported := false })) := by
    refine OwnersKept.linkGoodToTm ?_
    exact h.frame (by simp)
  unfold Machine.arrival
  exact heard.frame (by simp)

theorem OwnersKept.burstEnd (bytes : List LineByte) : OwnersKept a (burstEnd bytes s) := by
  unfold Machine.burstEnd
  dsimp only
  (repeat' split)
  · refine OwnersKept.arrival ?_ _
    exact h.frame (by simp)
  · exact h.frame (by simp)
  · exact h

theorem OwnersKept.reportSilence : OwnersKept a (reportSilence s) := by
  refine OwnersKept.silenceToTm ?_
  exact h.frame (by simp)

theorem OwnersKept.silenceReport : OwnersKept a (silenceReport s) := by
  unfold Machine.silenceReport
  split
  · exact h.reportSilence
  · exact h

theorem OwnersKept.suppressionTimerExpiry : OwnersKept a (suppressionTimerExpiry s) := by
  have stopped : OwnersKept a (s.setMli { s.mli with suppression := none }) := h.frame (by simp)
  unfold Machine.suppressionTimerExpiry
  dsimp only
  (repeat' split)
  · exact stopped.reportSilence
  · exact stopped
  · exact h

/-! ### The power supervisor (10) -/

theorem OwnersKept.enterDormant (commissioned : s.commissioned) : OwnersKept a (enterDormant s) :=
  (h.power commissioned _).startWrite _

theorem OwnersKept.enterHoldup (commissioned : s.commissioned) : OwnersKept a (enterHoldup s) := by
  have departed : OwnersKept a (departBlocks s) :=
    (h.power commissioned (s.ps.enterHoldup s.clock s.pins.vmain)).frame (t := departBlocks s)
      ⟨fun _ => rfl, rfl, rfl, rfl, enterHoldup_reasons _, rfl, ⟨fun _ => rfl, rfl, rfl, rfl⟩, rfl⟩
  have held : (Machine.startWrite .holdupEntry (departBlocks s)).commissioned := by
    simp [State.commissioned, departBlocks, Ps.enterHoldup]
  unfold Machine.enterHoldup
  dsimp only
  split
  · exact departed.startWrite _
  · exact (departed.startWrite _).enterDormant held

theorem OwnersKept.warmReturn (commissioned : s.commissioned) : OwnersKept a (warmReturn s) := by
  have back := h.power commissioned { s.ps with
    power := .active, periodic := secondsTimer 3600, vmainTimer := none, sampleTimer := none, returnHeld := false }
  unfold Machine.warmReturn
  refine OwnersKept.enterActive ?_
  exact back.frame (by simp)

theorem OwnersKept.doReturn (commissioned : s.commissioned) : OwnersKept a (doReturn s) := by
  unfold Machine.doReturn
  split
  · exact h.warmReturn commissioned
  · exact OwnersKept.startCore s

theorem OwnersKept.startPeriodic : OwnersKept a (startPeriodic s) := by
  refine OwnersKept.startWrite ?_ _
  exact h.frame (by simp)

theorem OwnersKept.writeDone (good : Bool) : OwnersKept a (writeDone good s) := by
  unfold Machine.writeDone
  split
  · next w _ =>
    have stored : OwnersKept a (s.setPs (s.ps.store w good)) := by
      have power : (s.ps.store w good).power = s.ps.power := by unfold Ps.store; split <;> rfl
      exact h.frame (by simp [power])
    have restarted : OwnersKept a (restartPeriodic (s.setPs (s.ps.store w good))) := by
      unfold restartPeriodic
      split
      · exact stored.frame (by simp)
      · exact stored
    have followed :
        OwnersKept a (writeFollows w.img.occasion good (restartPeriodic (s.setPs (s.ps.store w good)))) := by
      unfold writeFollows
      split
      all_goals exact restarted.frame (by simp)
    have begun : OwnersKept a (beginNext (writeFollows w.img.occasion good
        (restartPeriodic (s.setPs (s.ps.store w good))))) := by
      unfold beginNext
      split
      · exact followed.frame (by simp)
      · exact followed
    dsimp only [releaseHoldup]
    split
    · next active => exact begun.enterHoldup (by simp [State.commissioned, active])
    · exact begun
  · exact h

/-! ### The step -/

theorem OwnersKept.tick : OwnersKept a (tick s) := by
  have timed (x : Timer) : (runTimer x).isSome = x.isSome := by simp [runTimer]
  have passed : OwnersKept a (passMs s) := by
    unfold passMs
    split
    · have tm : s.tm.SameInForce s.tm.pass := ⟨fun c => by simp [Tm.condInForce, Tm.pass, timed], rfl, rfl, rfl⟩
      exact h.frame ⟨fun _ => rfl, rfl, rfl, rfl, rfl, rfl, tm, rfl⟩
    all_goals exact h.frame ⟨fun _ => rfl, rfl, rfl, rfl, rfl, rfl, .refl _, rfl⟩
  unfold Machine.tick
  exact passed.frame (by simp)

end

theorem exec_ownersKept {c : Instr} {s t : State} (run : exec c s = .next t) : OwnersKept s t := by
  have h := OwnersKept.refl s
  cases c <;> obtain rfl := Host.Outcome.next.inj run
  case identify | getStatus | getLedger | getEnergy | getTariff | getTime | getEvents | readTamperLog | submitCode |
      restore | acceptEmergency | trimClock | commission | badKind | busy => exact h.takeFrame _ _
  case frameDiscard bytes => exact h.receiveBytes bytes
  case burstEnd bytes => exact h.burstEnd bytes
  case silenceReport => exact h.silenceReport
  case suppressionTimerExpiry => exact h.suppressionTimerExpiry
  case recordTake loadv => exact h.recordTake loadv
  case silenceTick => exact h.silenceTick
  case sensorInputChange i shows => exact h.sensorInputChange i shows
  case sensorFilterExpiry i => exact h.sensorFilterExpiry i
  case deemedHoldExpiry => exact h.deemedHoldExpiry
  case holdupSample => exact h.holdupSample
  case lockoutEnd src => exact h.lockoutEnd src
  case tcEdgeEvaluation =>
    unfold tcEdgeEvaluation
    split
    · exact h.evaluateCalendar
    · exact h
  case clockAdvance =>
    unfold clockAdvance
    split
    · exact h.frame (by simp)
    · exact h
  case recloseTimerExpiry => exact h.recloseTimerExpiry
  case recloseWindowExpiry =>
    unfold recloseWindowExpiry
    split
    · exact h.frame (by simp)
    · exact h
  case frameTimeout | replySent | linkResetAssert | linkResetRelease | linklossMeasure | groupTimeout | coilPulseEnd |
      pulseCleared | coilCutoff | settleEnd | weldRetryExpiry => exact h.frame (by simp)
  case vmainFall | vmainRise =>
    simp only [vmainFall, vmainRise]
    (repeat' split) <;> exact h.frame (by simp)
  case holdupEntry vback =>
    have seen : OwnersKept s (s.setPins { s.pins with vback := vback }) := h.frame (by simp)
    unfold holdupEntry
    split
    · next due =>
      have entered := seen.enterHoldup (by simp [State.commissioned, due.1])
      dsimp only
      split
      · exact h.frame (by simp)
      all_goals exact entered
    · exact h
  case shelfPowerLoss =>
    unfold shelfPowerLoss
    split
    · exact (manufactured_agrees (.inr rfl) _ s).kept
    · exact h
  case returnDecision =>
    unfold returnDecision
    split
    · next due =>
      split
      · exact h.frame (by simp)
      · exact h.doReturn (by simp [State.commissioned, due.1])
    · exact h
  case deferredReturn =>
    unfold deferredReturn
    split
    · next due => exact h.doReturn (by simp [State.commissioned, due.1])
    · exact h
  case dormantEntry =>
    have low : OwnersKept s (s.setPins { s.pins with vback := false }) := h.frame (by simp)
    unfold dormantEntry
    dsimp only
    split
    · next held => exact low.enterDormant (by simp [State.commissioned, held.1])
    · exact low
  case powerUp =>
    unfold powerUp
    split
    · exact OwnersKept.startCore s
    · exact h
  case periodicCheckpoint =>
    unfold periodicCheckpoint
    (repeat' split)
    · refine OwnersKept.startPeriodic ?_
      exact h.frame (by simp)
    · exact h.frame (by simp)
    · exact h
  case deferredPeriodicWrite =>
    unfold deferredPeriodicWrite
    split
    · refine OwnersKept.startPeriodic ?_
      exact h.frame (by simp)
    · exact h
  case checkpointWriteDone good => exact h.writeDone good
  case holdUpReserveExhaustion =>
    unfold reserveExhausted
    split
    · exact h.writeDone false
    · exact h

/-- Settles O9: each command keeps each owner with its reason, and so does the passing of a millisecond. -/
theorem stepKeepsReasonOwners : Obligations.StepKeepsReasonOwners := by
  intro s t h
  have kept : OwnersKept s t := by
    unfold step at h
    split at h
    · next c rest _ =>
      have queued : OwnersKept s (s.setPending rest) := (OwnersKept.refl s).frame (by simp)
      have run := exec_ownersKept h
      exact ⟨run.credit ∘ queued.credit, run.tamper ∘ queued.tamper, run.overload ∘ queued.overload,
        run.linked ∘ queued.linked⟩
    · obtain rfl := Host.Outcome.next.inj h
      exact (OwnersKept.refl s).tick
  exact ⟨kept.credit, kept.tamper, kept.overload⟩

end Sys2Proof.Machine
end

section
/-! A top-up and a debit in either order (04 R62). -/

namespace Sys2Proof.Machine

section
variable {s : State} {c : Nat}

/-- A top-up moves the balance up and debt down, the recovery part to debt (04 R61). -/
theorem topUp_money (cents : Nat) (s : State) :
    (topUp cents s).acct.balance = s.acct.balance + (cents - recoveryPart s.params s.acct cents : Nat) ∧
    (topUp cents s).acct.debt = s.acct.debt - recoveryPart s.params s.acct cents := by
  rw [topUp, recompute_acct]
  exact ⟨rfl, rfl⟩

/-- All the cents of a top-up join balance less debt (04 R61). -/
theorem topUp_net (pct : s.params.recoveryPct ≤ 100) (cents : Nat) :
    (topUp cents s).acct.balance - (topUp cents s).acct.debt = s.acct.balance - s.acct.debt + cents := by
  obtain ⟨balance, debt⟩ := topUp_money cents s
  have fromCents := recoveryPart_le pct s.acct cents
  have fromDebt : recoveryPart s.params s.acct cents ≤ s.acct.debt := min_le_left _ _
  rw [balance, debt]
  omega

/-- A debit within the floor takes from the balance alone (04 R57). -/
theorem debit_within (within : floorOf s.params ≤ s.acct.balance - c) (debt : s.acct.debt ≤ maxCents) :
    (debit c s).acct.balance = s.acct.balance - c ∧ (debit c s).acct.debt = s.acct.debt := by
  obtain ⟨noted, settled⟩ := debit_acct c s
  obtain ⟨debited, uncut⟩ := Account.debited_within within
  rw [settled, debited, uncut]
  exact ⟨rfl, min_eq_right debt⟩

end

/-- Settles O20: each order moves balance less debt by the same cents; a debit that is not cut leaves the debt from
which the recovery part is taken. -/
theorem topUpAndDebitCommute : Obligations.TopUpAndDebitCommute := by
  intro s cents c pct floor _ debt _ _
  dsimp only
  obtain ⟨raised, lowered⟩ := topUp_money cents s
  have floor' : floorOf (topUp cents s).params ≤ (topUp cents s).acct.balance := by
    rw [(topUp_frame _ _).1, raised]; omega
  have debt' : (topUp cents s).acct.debt + c ≤ 99999999 := by omega
  constructor
  · obtain ⟨-, netX, -, -⟩ := debit_net c (topUp cents s) floor' debt'
    obtain ⟨-, netD, -, -⟩ := debit_net c s floor debt
    have netT := topUp_net pct cents
    have netY := topUp_net (s := debit c s) (by simpa using pct) cents
    omega
  · intro within
    obtain ⟨balanceX, debtX⟩ := debit_within (s := topUp cents s) (c := c)
      (by rw [(topUp_frame _ _).1, raised]; omega) (by rw [maxCents]; omega)
    obtain ⟨balanceD, debtD⟩ := debit_within within (by rw [maxCents]; omega)
    obtain ⟨balanceY, debtY⟩ := topUp_money cents (debit c s)
    have same : recoveryPart (debit c s).params (debit c s).acct cents = recoveryPart s.params s.acct cents := by
      rw [recoveryPart, debtD, (debit_frame _ _).1, recoveryPart]
    rw [same] at balanceY debtY
    constructor <;> omega

end Sys2Proof.Machine
end

section
/-! The laws of Safety.lean at reset. -/

namespace Sys2Proof.Machine

/-- The defaults of the parameter table lie in its ranges (11 R175). -/
theorem Params.default_inRange : Params.default.InRange where
  vNom := by decide
  dirPolicy := by decide
  deemedW := by decide
  thresholds := by decide
  neutralMarginMa := by decide
  vlossPct := by decide
  vlossMa := by decide
  reverseW := by decide
  allowances := by decide
  creditThresholds := by decide
  recoveryPct := by decide
  ageLimit := by decide
  cycleDays := by decide
  commWeekday := by decide
  loadLimit := by decide
  olRecords := by decide
  inrushRecords := by decide
  recloseS := by decide
  recloseMax := by decide
  autoRecloseKeyless := by decide
  coilMs := by decide
  settleMs := by decide
  deemedHoldMin := by decide
  actions k := by cases k <;> decide
  windows := by simp [FriendlyWindow.inRange, Params.default]

theorem Tl.manufacture_ordered : Tl.manufacture.Ordered :=
  ⟨Nat.zero_le _, .nil, by decide, fun _ given => absurd given List.not_mem_nil⟩

theorem Keys.manufacture_sound : Ce.manufacture.keys.Sound :=
  ⟨Nat.zero_le _, .nil, fun _ used => absurd used List.not_mem_nil⟩

/-- The part is in SHELF, where no owner claims a reason (04 R76, 08 R151). -/
theorem reset_not_commissioned : ¬State.reset.commissioned := fun ⟨shelf, _⟩ => shelf rfl

theorem reset_no_image : ∀ img, img ∉ State.reset.images := fun _ => List.not_mem_nil

theorem reset_no_write : State.reset.ps.write = none := rfl

/-- Settles O5: each law at the manufacture values of its block; no image stands in a slot. -/
theorem lawsHoldAtReset : Obligations.LawsHoldAtReset := by
  have none {P : Image → Prop} : ∀ img ∈ State.reset.images, P img := fun img held => absurd held (reset_no_image img)
  have shelf {P : Prop} : State.reset.commissioned → P := fun commissioned => absurd commissioned reset_not_commissioned
  refine ⟨?params, ?ledger, ?log, shelf, shelf, ?overload, ?history, ?switch, ?write, ?queues, ?calendar⟩
  case params => exact ⟨Params.default_inRange, none⟩
  case ledger => exact ⟨(booked_iff _).mpr .reset, none⟩
  case log => exact ⟨Tl.manufacture_ordered, fun _ given => absurd given List.not_mem_nil, nofun, none⟩
  case overload => exact ⟨nofun, fun waits => absurd rfl waits⟩
  case history => exact ⟨Keys.manufacture_sound, none⟩
  case switch => exact ⟨⟨fun moves => absurd rfl moves, nofun⟩, none⟩
  case write =>
    intro w writes
    rw [reset_no_write] at writes
    nomatch writes
  case queues => exact (queuesSound_iff _).mpr ⟨Nat.zero_le 4, Hlc.Sound.manufacture⟩
  case calendar => exact (calendarSound_iff _).mpr ⟨Tc.Sound.manufacture, none⟩

end Sys2Proof.Machine
end

section
/-! An accepted emergency press (04 R70, 06 R109, R112, R117). -/

namespace Sys2Proof.Machine

/-! ### The account in OFFER -/

/-- What the state OFFER says of the account (04 R67). -/
theorem creditStateOf_offer {p : Params} {a : Account} (offer : creditStateOf p a = .offer) :
    ¬(a.balance = floorOf p ∧ floorOf p < 0) ∧ a.balance ≤ p.lowThreshold ∧ a.balance ≤ 0 ∧ a.accepted = false ∧
      a.available = true := by
  unfold creditStateOf at offer
  split at offer
  · nomatch offer
  split at offer
  · nomatch offer
  split at offer
  · nomatch offer
  split at offer
  · nomatch offer
  split at offer
  · next floor low positive _ flags => exact ⟨floor, not_lt.mp low, not_lt.mp positive, flags⟩
  · nomatch offer

/-- The account a press in OFFER asks CL to recompute (04 R70). -/
def Account.accepting (a : Account) : Account := { a with accepted := true, available := false }

theorem Account.accepting_withFlags (p : Params) {a : Account} (balance : a.balance ≤ 0) :
    a.accepting.withFlags p = a.accepting := by
  simp [Account.withFlags, Account.accepting, balance]

/-- Accepted credit is EMERGENCY above −E_ALLOW, and EXHAUSTED below (04 R67, R70). -/
theorem Account.accepting_settled {p : Params} {a : Account} (offer : creditStateOf p a = .offer) :
    a.accepting.settled p = { a.accepting with
      state := if -(p.eAllow : Int) < a.balance then .emergency else .exhausted } := by
  obtain ⟨floor, low, owed, -, -⟩ := creditStateOf_offer offer
  rw [Account.settled, Account.accepting_withFlags p owed]
  simp [creditStateOf, Account.accepting, floor, not_lt.mpr low, not_lt.mpr owed]

/-! ### The reason CREDIT after a recomputation that no longer asks for it (04 R71) -/

@[simp] theorem holdCreditState_held (s : State) : (holdCreditState s).cl.creditHeld = s.cl.creditHeld := by
  unfold holdCreditState
  dsimp only
  split <;> rfl

section
variable {s : State} (origin : Origin)

/-- The credit state is held as the flags leave it, before CL decides (04 R66). -/
theorem holdCreditState_settled (s : State) :
    (holdCreditState (s.setAcct (s.acct.withFlags s.params))).acct = s.acct.settled s.params := by
  rw [← recompute_acct .ordinary, recompute, decideCredit_acct]

/-- CL held CREDIT and asks for its removal. -/
theorem recompute_removes (held : s.cl.creditHeld = true)
    (unasked : wantsCredit (s.acct.settled s.params).state s.tc.friendly = false) :
    ∃ u, u.sss = s.sss ∧ u.ps = s.ps ∧ recompute origin s = removeReason .credit origin u := by
  refine ⟨(holdCreditState (s.setAcct (s.acct.withFlags s.params))).holdCredit false, by simp [State.holdCredit],
    by simp [State.holdCredit], ?_⟩
  have asks :
      wantsCredit (holdCreditState (s.setAcct (s.acct.withFlags s.params))).acct.state s.tc.friendly = false := by
    rwa [holdCreditState_settled]
  simp [recompute, decideCredit, asks, held]

/-- CL did not hold CREDIT, and the set stays. -/
theorem recompute_rests (free : s.cl.creditHeld = false)
    (unasked : wantsCredit (s.acct.settled s.params).state s.tc.friendly = false) :
    (recompute origin s).sss = s.sss := by
  have asks :
      wantsCredit (holdCreditState (s.setAcct (s.acct.withFlags s.params))).acct.state s.tc.friendly = false := by
    rwa [holdCreditState_settled]
  simp [recompute, decideCredit, asks, free]

end

/-! ### What the press does to the contactor (06 R109, R112, R117) -/

theorem startClosing_starts {s : State} (empty : s.sss.reasons.isEmpty = true) :
    (startClosing s).sss.contactor = .closing ∧ (startClosing s).sss.phase = .pulse := by
  rw [startClosing_of_empty empty]
  exact ⟨rfl, rfl⟩

/-- The last reason leaves an open contactor at an accepting press: it closes at once (06 R109). -/
theorem removeReason_closes {r : Reason} {s : State} (active : s.ps.power = .active)
    (opened : s.sss.contactor = .opened) (there : s.sss.reasons.get r = true) (last : (s.sss.reasons.set r false).isEmpty = true) :
    (removeReason r .acceptingPress s).sss.contactor = .closing ∧
    (removeReason r .acceptingPress s).sss.phase = .pulse := by
  have run : removeReason r .acceptingPress s = becomeArmed (s.setSss
      { s.sss with reasons := s.sss.reasons.set r false, origin := .acceptingPress }) := by
    simp [removeReason, there, last, opened, active, actOnEmptied]
  rw [run]
  exact startClosing_starts last

/-- An armed contactor with an empty set closes at the press (06 R117). -/
theorem acceptedPress_closes {s : State} (armed : s.sss.contactor = .armed) (empty : s.sss.reasons.isEmpty = true) :
    (acceptedPress s).sss.contactor = .closing ∧ (acceptedPress s).sss.phase = .pulse := by
  rw [acceptedPress, armed]
  exact startClosing_starts empty

/-! ### The press -/

theorem takeEmergency_recomputed (s : State) :
    (takeEmergency s).cl = (recompute .acceptingPress (s.setAcct s.acct.accepting)).cl := by
  unfold takeEmergency
  dsimp only
  split
  · rfl
  · simp only [acceptedPress_frame]; rfl

theorem takeEmergency_held (s : State) :
    (takeEmergency s).cl.creditHeld = wantsCredit (takeEmergency s).acct.state s.tc.friendly := by
  rw [State.acct, takeEmergency_recomputed, recompute, decideCredit_held, ← State.acct, decideCredit_acct]
  simp

section
variable {s : State} (offer : creditStateOf s.params s.acct = .offer)
include offer

theorem takeEmergency_acct : (takeEmergency s).acct = { s.acct.accepting with
    state := if -(s.params.eAllow : Int) < s.acct.balance then .emergency else .exhausted } := by
  rw [State.acct, takeEmergency_recomputed]
  exact (recompute_acct _ _).trans (Account.accepting_settled offer)

section
variable (above : -(s.params.eAllow : Int) < s.acct.balance)
include above

/-- Emergency credit above −E_ALLOW asks for no CREDIT (04 R71). -/
theorem accepting_unasked :
    wantsCredit ((s.setAcct s.acct.accepting).acct.settled (s.setAcct s.acct.accepting).params).state
      (s.setAcct s.acct.accepting).tc.friendly = false := by
  have settled := Account.accepting_settled offer
  rw [if_pos above] at settled
  simp [State.setAcct_acct, settled, wantsCredit]

theorem takeEmergency_removes (held : s.cl.creditHeld = true) :
    ∃ u, u.sss = s.sss ∧ u.ps = s.ps ∧ takeEmergency s = removeReason .credit .acceptingPress u := by
  obtain ⟨u, sss, ps, run⟩ := recompute_removes .acceptingPress (s := s.setAcct s.acct.accepting) held
    (accepting_unasked offer above)
  refine ⟨u, sss, ps, ?_⟩
  rw [takeEmergency, if_pos held]
  exact run

theorem takeEmergency_presses (free : s.cl.creditHeld = false) :
    ∃ u, u.sss = s.sss ∧ takeEmergency s = acceptedPress u := by
  refine ⟨_, recompute_rests .acceptingPress (s := s.setAcct s.acct.accepting) free (accepting_unasked offer above), ?_⟩
  rw [takeEmergency, if_neg (by simp [free])]
  rfl

end

end

/-- An ACCEPT_EMERGENCY press reaches CL (12 R180). -/
theorem exec_acceptEmergency {s : State} (ready : s.ready) (active : s.ps.power = .active) :
    exec (.acceptEmergency []) s = .next (doAcceptEmergency s) :=
  congrArg Host.Outcome.next (takeFrame_of_ready ready (by simp) (by decide) (by rw [active]; rfl))

/-- Settles O36: the account is that of `takeEmergency_acct`; above −E_ALLOW CL either removes CREDIT with the press as
its origin, or tells SSS of the press. -/
theorem emergencyIsTakenInOfferAlone : Obligations.EmergencyIsTakenInOfferAlone := by
  intro s ready active
  have pressed := exec_acceptEmergency ready active
  refine ⟨fun other => ?_, fun offered agrees => ?_⟩
  · rw [pressed, doAcceptEmergency, if_neg (by simpa [emergencyOffered] using other), replyOk, handReply_of_ready ready]
    rfl
  have offer : creditStateOf s.params s.acct = .offer := agrees.symm.trans offered
  have taken : (takeEmergency s).ready :=
    State.ready_of_noticed ready (takeEmergency_noticed s (.refl _)) (by simp) (by simp)
  rw [doAcceptEmergency, if_pos (by simp [emergencyOffered, offered]), replyOk, handReply_of_ready taken] at pressed
  have acct := takeEmergency_acct offer
  have emergency {P : Prop} (whenAbove : -(s.params.eAllow : Int) < s.acct.balance → P) :
      (if -(s.params.eAllow : Int) < s.acct.balance then CreditState.emergency else .exhausted) = .emergency → P := by
    split
    · next above => exact fun _ => whenAbove above
    · exact nofun
  refine ⟨_, pressed, acct, ?held, rfl, fun opened only held => emergency fun above => ?opened,
    fun armed empty free => emergency fun above => ?armed, fun closing held => emergency fun above => ?closing,
    by simp [State.replying]⟩
  case held =>
    refine (takeEmergency_held s).trans ?_
    rw [acct]
    dsimp only
    split <;> rfl
  case opened =>
    obtain ⟨u, sss, ps, run⟩ := takeEmergency_removes offer above held
    rw [run]
    exact removeReason_closes (by rw [ps, active]) (by rw [sss, opened]) (by rw [sss, only]; rfl)
      (by rw [sss, only]; rfl)
  case armed =>
    obtain ⟨u, sss, run⟩ := takeEmergency_presses offer above free
    rw [run]
    exact acceptedPress_closes (by rw [sss, armed]) (by rw [sss, empty]; rfl)
  case closing =>
    obtain ⟨u, sss, -, run⟩ := takeEmergency_removes offer above held
    rw [run]
    have kept := removeReason_closing .credit .acceptingPress u (by rw [sss, closing])
    exact (congrArg State.sss kept).trans (by rw [State.setSss_sss, sss]; rfl)

end Sys2Proof.Machine
end

section
/-! CREDIT codes (04 R61, 05 R84): the notices of a recomputation, and the code that is applied or refused. -/

namespace Sys2Proof.Machine

/-! ### Notices that join together -/

/-- What joins is a part of what was raised, in its order. -/
theorem joinAll_appends (l : List Notice) (h : Hlc) :
    ∃ m, (l.foldl Hlc.join h).queue = h.queue ++ m ∧ m ⊆ l := by
  induction l generalizing h with
  | nil => exact ⟨[], by simp⟩
  | cons n l ih =>
    obtain ⟨m, queue, part⟩ := ih (h.join n)
    by_cases room : h.queue.length < 16
    · rw [h.join_queue n room, List.append_assoc] at queue
      exact ⟨n :: m, queue, List.cons_subset_cons n part⟩
    · rw [(h.join_of_full n (not_lt.mp room)).1] at queue
      exact ⟨m, queue, List.subset_cons_of_subset n part⟩

/-- Notices that find room are told first, and behind them only others. -/
theorem joinAll_tells (told others : List Notice) (h : Hlc) (room : (h.queue ++ told).length ≤ 16) :
    h.queue ++ told <+: ((told ++ others).foldl Hlc.join h).queue ∧
      ((told ++ others).foldl Hlc.join h).queue.drop (h.queue ++ told).length ⊆ others := by
  obtain ⟨m, queue, part⟩ := joinAll_appends others (told.foldl Hlc.join h)
  rw [(joinAll_of_room told h room).1] at queue
  rw [List.foldl_append, queue]
  exact ⟨List.prefix_append _ _, by rwa [List.drop_left]⟩

/-! ### The notices of a recomputation (04 R66, R71, 06 R121) -/

/-- Notices have joined, none of them CL's. -/
def OthersTold (s t : State) : Prop :=
  ∃ l : List Notice, t.hlc = l.foldl Hlc.join s.hlc ∧ ∀ n ∈ l, ∀ x, n.body ≠ .credit x

theorem OthersTold.of_same {s t : State} (same : t.hlc = s.hlc) : OthersTold s t := ⟨[], same, nofun⟩

theorem raiseSupply_told (s : State) : OthersTold s (raiseSupply s) :=
  ⟨[⟨.supply s.sss.contactor s.sss.unverified, s.clock⟩], rfl, by simp⟩

theorem becomeArmed_told (s : State) : OthersTold s (becomeArmed s) := by
  unfold becomeArmed
  dsimp only
  split
  · exact .of_same (by simp)
  · exact raiseSupply_told _

theorem actOnAddition_told (s : State) : OthersTold s (actOnAddition s) := by
  unfold actOnAddition
  split
  case h_2 => exact raiseSupply_told _
  all_goals exact .of_same (by simp)

theorem actOnEmptied_told (s : State) : OthersTold s (actOnEmptied s) := by
  unfold actOnEmptied
  split
  case h_1 => exact becomeArmed_told s
  case h_2 => split <;> exact .of_same (by simp)
  all_goals exact .of_same rfl

theorem addReason_told (r : Reason) (s : State) : OthersTold s (addReason r s) := by
  unfold addReason
  dsimp only
  split
  · exact .of_same rfl
  split
  · exact actOnAddition_told _
  · exact .of_same rfl

theorem removeReason_told (r : Reason) (origin : Origin) (s : State) : OthersTold s (removeReason r origin s) := by
  unfold removeReason
  dsimp only
  split
  · split
    · split
      · exact actOnEmptied_told _
      · exact .of_same rfl
    · exact .of_same rfl
  · exact .of_same rfl

theorem decideCredit_told (origin : Origin) (s : State) : OthersTold s (decideCredit origin s) := by
  unfold decideCredit
  split <;> split
  · exact .of_same rfl
  · exact addReason_told _ (s.holdCredit true)
  · exact removeReason_told _ _ (s.holdCredit false)
  · exact .of_same rfl

/-- The notice of a credit state that has changed (04 R66). -/
def State.creditNotice (s : State) (now : CreditState) : List Notice :=
  if now = s.acct.state then [] else [⟨.credit now, s.clock⟩]

theorem holdCreditState_hlc (s : State) :
    (holdCreditState s).hlc = (s.creditNotice (creditStateOf s.params s.acct)).foldl Hlc.join s.hlc := by
  unfold holdCreditState State.creditNotice
  dsimp only
  split <;> rfl

/-- A recomputation tells a changed credit state once, and then what SSS makes of CL's decision. -/
theorem recompute_hlc (origin : Origin) (s : State) : ∃ others : List Notice, (∀ n ∈ others, ∀ x, n.body ≠ .credit x) ∧
    (recompute origin s).hlc =
      (s.creditNotice (recompute origin s).acct.state ++ others).foldl Hlc.join s.hlc := by
  obtain ⟨others, told, silent⟩ := decideCredit_told origin (holdCreditState (s.setAcct (s.acct.withFlags s.params)))
  refine ⟨others, silent, ?_⟩
  rw [recompute_acct, recompute, told, List.foldl_append, holdCreditState_hlc]
  rfl

/-! ### The code -/

section
variable {s : State} {src : Source} {chars : List Byte} {c : Code}

theorem topUpRefused_passAuthentic (cents : Nat) :
    topUpRefused cents (passAuthentic src c s) = topUpRefused cents s := by
  simp [topUpRefused]

/-- An applied code leaves no pending group, and the lockouts as they are (05 R84, R99). -/
theorem exec_submitCode_ce (presented : s.presents src chars c) (passes : s.passes c) (single : c.cls ≤ 7)
    (permitted : sourcePermitted src c.cls = true) {o : CodeOutcome} {detail : List Byte} {u t : State}
    (applied : applyCode src c (issueDay (dayOf s.clock) c.day) (passAuthentic src c s) = apply o c detail u)
    (ce : u.ce = (passAuthentic src c s).ce) (take : exec (.submitCode (sourceByte src :: chars)) s = .next t) :
    t.ce.group = none ∧ t.ce.lockout = s.ce.lockout := by
  obtain rfl := Host.Outcome.next.inj ((submitCode_of_passes presented passes single permitted).symm.trans take)
  have kept : (replyJudged (apply o c detail u)).ce = { u.ce with keys := u.ce.keys.consume c.sequence } :=
    (replyJudged_frame _).2.2.2.2.2.1
  rw [applied, kept, ce, passAuthentic_of_single src s (groupClassOf_of_single single)]
  exact ⟨rfl, rfl⟩

/-- A CREDIT code that the balance can hold (04 R61, 05 R91). -/
theorem submitCredit (presented : s.presents src chars c) (passes : s.passes c) (cls : c.cls = 0)
    (taken : topUpRefused c.value.toNat s = false) :
    ∃ t, exec (.submitCode (sourceByte src :: chars)) s = .next t ∧
      s.consumed t src c ([0x00#8, 0x00#8] ++
        bytesOf 4 (c.value.toNat - recoveryPart s.params s.acct c.value.toNat) ++
        bytesOf 4 (recoveryPart s.params s.acct c.value.toNat)) ∧
      AppliedAs (topUp c.value.toNat (passAuthentic src c s)) t ∧ t.ce.group = none ∧ t.ce.lockout = s.ce.lockout := by
  have applied : applyCode src c (issueDay (dayOf s.clock) c.day) (passAuthentic src c s) = apply .accepted c
      (bytesOf 4 (c.value.toNat - recoveryPart s.params s.acct c.value.toNat) ++
        bytesOf 4 (recoveryPart s.params s.acct c.value.toNat))
      (topUp c.value.toNat (passAuthentic src c s)) := by
    simp [applyCode, cls, applyCredit, topUpRefused_passAuthentic, taken]
  have permitted := sourcePermitted_of_ne src (cls := c.cls) (by omega) (by omega)
  obtain ⟨t, take, consumed, left⟩ := submitCode_consumed presented passes (by omega) permitted applied
    (by simp) (by simp)
  refine ⟨t, take, ?_, left, exec_submitCode_ce presented passes (by omega) permitted applied (by simp) take⟩
  rw [cls] at consumed
  rwa [List.append_assoc]

/-- A CREDIT code that would pass the greatest balance (04 R61). -/
theorem submitCredit_refused (presented : s.presents src chars c) (passes : s.passes c) (cls : c.cls = 0)
    (refused : topUpRefused c.value.toNat s = true) (alone : s.ce.group = none) :
    exec (.submitCode (sourceByte src :: chars)) s =
      .next ((s.setAttempts src 5).replying ⟨0x90#8, [0x00#8, 0x0C#8, 0x00#8]⟩) := by
  have permitted := sourcePermitted_of_ne src (cls := c.cls) (by omega) (by omega)
  have found : passAuthentic src c s = s.setAttempts src 5 := by
    have absent : (s.setAttempts src 5).ce.group = none := alone
    simp [passAuthentic, compareGroup, absent]
  have judged : applyCode src c (issueDay (dayOf s.clock) c.day) (passAuthentic src c s) =
      refuse .balanceLimit (some 0) [] (s.setAttempts src 5) := by
    rw [← found]
    simp [applyCode, cls, applyCredit, topUpRefused_passAuthentic, refused]
  have ready : (s.setAttempts src 5).ready := presented.ready
  rw [submitCode_of_passes presented passes (by omega) permitted, judged]
  rw [← handReply_of_ready ready]
  simp [replyJudged, refuse, Judged.bytes, replyTo, Status.byte, bytesOf, CodeOutcome.number]

/-- The account a top-up leaves (04 R61, R66). -/
theorem topUp_acct (cents : Nat) (s : State) :
    (topUp cents s).acct = (s.acct.toppedUp s.params cents).settled s.params := recompute_acct _ _

theorem topUp_hlc (cents : Nat) (s : State) : ∃ others : List Notice, (∀ n ∈ others, ∀ x, n.body ≠ .credit x) ∧
    (topUp cents s).hlc = (s.creditNotice (topUp cents s).acct.state ++ others).foldl Hlc.join s.hlc :=
  recompute_hlc .ordinary (s.setAcct (s.acct.toppedUp s.params cents))

end

/-- A top-up that leaves debt below its greatest value takes the mark of a saturation back (04 R58, R61). -/
theorem toppedUp_satNoted {a : Account} (p : Params) (cents : Nat) (debt : a.debt ≤ maxCents) :
    (a.toppedUp p cents).satNoted =
      (a.satNoted && decide (a.debt - min a.debt (cents * p.recoveryPct / 100) = maxCents)) := by
  show (if a.debt - min a.debt (cents * p.recoveryPct / 100) < maxCents then false else a.satNoted) = _
  split
  · next below => rw [decide_eq_false below.ne, Bool.and_false]
  · next full =>
    rw [decide_eq_true (le_antisymm ((Nat.sub_le _ _).trans debt) (not_lt.mp full)), Bool.and_true]

/-- Settles O30: the top-up of `submitCredit`, with the notices of `topUp_hlc`; or the refusal. -/
theorem creditCodeTopsUp : Obligations.CreditCodeTopsUp := by
  intro s src chars c presented passes cls pct debt a q dropped
  have fits : topUpRefused a s = decide (99999999 < s.acct.balance + ((a - q : Nat) : Int)) := rfl
  refine ⟨fun within => ?_, fun above alone => ?_⟩
  · obtain ⟨t, take, consumed, applied, group, lockout⟩ :=
      submitCredit presented passes cls (fits.trans (decide_eq_false (not_lt.mpr within)))
    have acct : t.acct = (s.acct.toppedUp s.params a).settled s.params := by
      rw [applied.acct, topUp_acct, passAuthentic_acct, (passAuthentic_frame _ _ _).1]
    obtain ⟨others, silent, hlc⟩ := topUp_hlc a (passAuthentic src c s)
    rw [← applied.acct, State.creditNotice, passAuthentic_acct, passAuthentic_clock,
      passAuthentic_hlc src s (by omega), ← List.foldl_append, ← List.append_assoc] at hlc
    refine ⟨t, take, consumed, ?_⟩
    rw [applied.queue, applied.overflow, hlc, acct]
    refine ⟨rfl, rfl, rfl, rfl, rfl, rfl, rfl, rfl, rfl, toppedUp_satNoted s.params a debt,
      Account.settled_recomputed _ _, fun room => ?_, fun full => ?_, by simp [applied.params, applied.mli, applied.be,
        applied.tc, group, lockout, applied.ll, applied.tm, applied.tl, applied.pins]⟩
    · obtain ⟨first, behind⟩ := joinAll_tells _ others s.hlc (by rwa [← List.append_assoc])
      rw [← List.append_assoc] at first behind
      exact ⟨first, fun n told => silent n (behind told)⟩
    · obtain ⟨queue, overflow⟩ := joinAll_of_full _ s.hlc full
      rw [queue, overflow]
      refine ⟨rfl, fun changed => ?_⟩
      simp [changed]
  · exact submitCredit_refused presented passes cls (fits.trans (decide_eq_true above)) alone

end Sys2Proof.Machine
end

section
/-! The requests of the open-reason set's owners (06 R105, R106). Every block reaches the supply switch sequencer by
additions of reasons and ordinary removals alone; the relation `Asked` says so, once for every shared operation. A key
press and an automatic reclose remove with an origin of their own, and are not among these. -/

namespace Sys2Proof.Machine

/-- Additions and ordinary removals have been asked of the sequencer and nothing else has happened to it; REMOTE is
asked for only where `remote` says so. -/
inductive Asked (remote : Prop) (x : Sss) : Sss → Prop
  | nothing : Asked remote x x
  | addition (r : Reason) (s : State) (who : r = .remote → remote) (before : Asked remote x s.sss) :
      Asked remote x (addReason r s).sss
  | removal (r : Reason) (s : State) (who : r = .remote → remote) (before : Asked remote x s.sss) :
      Asked remote x (removeReason r .ordinary s).sss

/-- What every request keeps is kept. -/
theorem Asked.keeps {remote : Prop} {P : Sss → Prop} {x y : Sss} (asked : Asked remote x y)
    (add : ∀ r s, (r = .remote → remote) → P s.sss → P (addReason r s).sss)
    (remove : ∀ r s, (r = .remote → remote) → P s.sss → P (removeReason r .ordinary s).sss) (hx : P x) : P y := by
  induction asked with
  | nothing => exact hx
  | addition r s who _ ih => exact add r s who ih
  | removal r s who _ ih => exact remove r s who ih

section
variable {remote : Prop} {x : Sss}

@[simp] theorem Asked.refl : Asked remote x x := .nothing

/-- Requests that a fold of operations makes. -/
theorem Asked.foldl {β : Type} (g : State → β → State) (each : ∀ t b, Asked remote x t.sss → Asked remote x (g t b).sss)
    (l : List β) (s : State) (hs : Asked remote x s.sss) : Asked remote x (l.foldl g s).sss := by
  induction l generalizing s with
  | nil => exact hs
  | cons b l ih => exact ih _ (each s b hs)

@[simp] theorem addReason_asked (r : Reason) (s : State) (who : r = .remote → remote) (hs : Asked remote x s.sss) :
    Asked remote x (addReason r s).sss := .addition r s who hs

@[simp] theorem removeReason_asked (r : Reason) (s : State) (who : r = .remote → remote) (hs : Asked remote x s.sss) :
    Asked remote x (removeReason r .ordinary s).sss := .removal r s who hs

/-! ### The ledger and the calendar (04 R71) -/

@[simp] theorem decideCredit_asked (s : State) (hs : Asked remote x s.sss) :
    Asked remote x (decideCredit .ordinary s).sss := by
  simp only [decideCredit, State.holdCredit]
  (repeat' split) <;> simp -implicitDefEqProofs [hs]

@[simp] theorem recompute_asked (s : State) (hs : Asked remote x s.sss) :
    Asked remote x (recompute .ordinary s).sss := by
  simp -implicitDefEqProofs [recompute, hs]

@[simp] theorem charge_asked (cost : Nat) (s : State) (hs : Asked remote x s.sss) :
    Asked remote x (charge cost s).sss := by
  simp only [charge, debit]
  split <;> simp -implicitDefEqProofs [hs]

@[simp] theorem topUp_asked (cents : Nat) (s : State) (hs : Asked remote x s.sss) :
    Asked remote x (topUp cents s).sss := by
  simp -implicitDefEqProofs [topUp, hs]

@[simp] theorem changeAllowance_asked (p : Params) (s : State) (hs : Asked remote x s.sss) :
    Asked remote x (changeAllowance p s).sss := by
  simp -implicitDefEqProofs [changeAllowance, hs]

@[simp] theorem evaluateCalendar_asked (s : State) (hs : Asked remote x s.sss) :
    Asked remote x (evaluateCalendar s).sss := by
  simp only [evaluateCalendar, friendlyEdge, rollCycle_frame]
  split <;> simp -implicitDefEqProofs [hs]

@[simp] theorem trimClock_asked (d : Int) (s : State) (hs : Asked remote x s.sss) :
    Asked remote x (trimClock d s).sss := by
  simp -implicitDefEqProofs [trimClock, hs]

@[simp] theorem tcEdgeEvaluation_asked (s : State) (hs : Asked remote x s.sss) :
    Asked remote x (tcEdgeEvaluation s).sss := by
  simp only [tcEdgeEvaluation]
  split <;> simp -implicitDefEqProofs [hs]

@[simp] theorem setClock_asked (day minute second : Nat) (s : State) (hs : Asked remote x s.sss) :
    Asked remote x (setClock day minute second s).sss := by
  simp -implicitDefEqProofs [setClock, hs]

/-! ### The limiter and billing (07 R127, 02 R29) -/

@[simp] theorem offerLoad_asked (power : Nat) (s : State) (hs : Asked remote x s.sss) :
    Asked remote x (offerLoad power s).sss := by
  simp only [offerLoad, watchLoad, compareLoad, trip]
  (repeat' split) <;> simp -implicitDefEqProofs [hs]

@[simp] theorem billEnergy_asked (e : Nat) (s : State) (hs : Asked remote x s.sss) :
    Asked remote x (billEnergy e s).sss := by
  simp only [billEnergy]
  split <;> simp -implicitDefEqProofs [hs]

@[simp] theorem silenceTick_asked (s : State) (hs : Asked remote x s.sss) : Asked remote x (silenceTick s).sss := by
  simp only [silenceTick]
  split <;> simp -implicitDefEqProofs [hs]

@[simp] theorem billRecord_asked (power : Nat) (r : IntervalRecord) (s : State) (hs : Asked remote x s.sss) :
    Asked remote x (billRecord power r s).sss := by
  simp -implicitDefEqProofs [billRecord, hs]

@[simp] theorem billGap_asked (m : Nat) (s : State) (hs : Asked remote x s.sss) :
    Asked remote x (billGap m s).sss := by
  simp only [billGap]
  split <;> simp -implicitDefEqProofs [hs]

/-! ### The tamper monitor (08 R143) -/

@[simp] theorem evaluateTamper_asked (s : State) (hs : Asked remote x s.sss) :
    Asked remote x (evaluateTamper s).sss := by
  simp only [evaluateTamper, holdTamper]
  (repeat' split) <;> simp -implicitDefEqProofs [hs]

@[simp] theorem startCond_asked (c : CondId) (measure : Option Int) (s : State) (hs : Asked remote x s.sss) :
    Asked remote x (startCond c measure s).sss := by
  simp -implicitDefEqProofs [startCond, hs]

@[simp] theorem endCond_asked (c : CondId) (s : State) (hs : Asked remote x s.sss) :
    Asked remote x (endCond c s).sss := by
  simp -implicitDefEqProofs [endCond, hs]

@[simp] theorem observe_asked (o : Observation) (s : State) (hs : Asked remote x s.sss) :
    Asked remote x (observe o s).sss := by
  simp only [observe]
  (repeat' split) <;> simp -implicitDefEqProofs [hs]

@[simp] theorem silenceToTm_asked (s : State) (hs : Asked remote x s.sss) : Asked remote x (silenceToTm s).sss := by
  simp only [silenceToTm]
  split <;> simp -implicitDefEqProofs [hs]

@[simp] theorem linkGoodToTm_asked (s : State) (hs : Asked remote x s.sss) : Asked remote x (linkGoodToTm s).sss := by
  simp only [linkGoodToTm]
  split <;> simp -implicitDefEqProofs [hs]

@[simp] theorem lockoutStartToTm_asked (src : Source) (s : State) (hs : Asked remote x s.sss) :
    Asked remote x (lockoutStartToTm src s).sss := by
  simp only [lockoutStartToTm]
  (repeat' split) <;> simp -implicitDefEqProofs [hs]

@[simp] theorem lockoutEndToTm_asked (src : Source) (s : State) (hs : Asked remote x s.sss) :
    Asked remote x (lockoutEndToTm src s).sss := by
  simp only [lockoutEndToTm]
  (repeat' split) <;> simp -implicitDefEqProofs [hs]

@[simp] theorem clearLatches_asked (mask : PerKind Bool) (cutoff : Int) (s : State) (hs : Asked remote x s.sss) :
    Asked remote x (clearLatches mask cutoff s).1.sss :=
  evaluateTamper_asked _ (Asked.foldl _ (fun t c ht => by simpa -implicitDefEqProofs using ht) _ s hs)

@[simp] theorem sampleInput_asked (i : Sensor) (s : State) (hs : Asked remote x s.sss) :
    Asked remote x (sampleInput i s).sss := by
  simp only [sampleInput]
  (repeat' split) <;> simp -implicitDefEqProofs [hs]

@[simp] theorem enterActiveTm_asked (s : State) (hs : Asked remote x s.sss) :
    Asked remote x (enterActiveTm s).sss := by
  simp -implicitDefEqProofs [enterActiveTm, hs]

@[simp] theorem sensorFilterExpiry_asked (i : Sensor) (s : State) (hs : Asked remote x s.sss) :
    Asked remote x (sensorFilterExpiry i s).sss := by
  simp only [sensorFilterExpiry]
  (repeat' split) <;> simp -implicitDefEqProofs [hs]

@[simp] theorem deemedHoldExpiry_asked (s : State) (hs : Asked remote x s.sss) :
    Asked remote x (deemedHoldExpiry s).sss := by
  simp only [deemedHoldExpiry]
  split <;> simp -implicitDefEqProofs [hs]

@[simp] theorem holdupSample_asked (s : State) (hs : Asked remote x s.sss) :
    Asked remote x (holdupSample s).sss := by
  simp only [holdupSample]
  split
  · exact sampleInput_asked _ _ (sampleInput_asked _ _ (sampleInput_asked _ _ hs))
  · exact hs

/-! ### The meter link (01) -/

@[simp] theorem reportSilence_asked (s : State) (hs : Asked remote x s.sss) : Asked remote x (reportSilence s).sss := by
  simp -implicitDefEqProofs [reportSilence, hs]

@[simp] theorem silenceReport_asked (s : State) (hs : Asked remote x s.sss) : Asked remote x (silenceReport s).sss := by
  simp only [silenceReport]
  split <;> simp -implicitDefEqProofs [hs]

@[simp] theorem suppressionTimerExpiry_asked (s : State) (hs : Asked remote x s.sss) :
    Asked remote x (suppressionTimerExpiry s).sss := by
  simp only [suppressionTimerExpiry]
  (repeat' split) <;> simp -implicitDefEqProofs [hs]

@[simp] theorem burstEnd_asked (bytes : List LineByte) (s : State) (hs : Asked remote x s.sss) :
    Asked remote x (burstEnd bytes s).sss := by
  simp only [burstEnd, arrival]
  (repeat' split) <;> simp -implicitDefEqProofs [hs]

/-! ### The code engine (05) -/

@[simp] theorem failAttempt_asked (src : Source) (s : State) (hs : Asked remote x s.sss) :
    Asked remote x (failAttempt src s).sss := by
  simp only [failAttempt, startLockout]
  split <;> simp -implicitDefEqProofs [hs]

@[simp] theorem reportLockoutEnd_asked (src : Source) (s : State) (hs : Asked remote x s.sss) :
    Asked remote x (reportLockoutEnd src s).sss := by
  simp -implicitDefEqProofs [reportLockoutEnd, hs]

@[simp] theorem lockoutEnd_asked (src : Source) (s : State) (hs : Asked remote x s.sss) :
    Asked remote x (lockoutEnd src s).sss := by
  simp only [lockoutEnd, endLockout]
  split <;> simp -implicitDefEqProofs [hs]

@[simp] theorem configEffect_asked (index v : Nat) (s : State) (hs : Asked remote x s.sss) :
    Asked remote x (configEffect index v s).sss := by
  simp only [configEffect]
  (repeat' split) <;> simp -implicitDefEqProofs [hs]

@[simp] theorem changeKeys_asked (content : Nat) (s : State) (hs : Asked remote x s.sss) :
    Asked remote x (changeKeys content s).sss := by
  simp only [changeKeys, endIfLocked]
  (repeat' split) <;> simp -implicitDefEqProofs [hs]

@[simp] theorem completeGroup_asked (g : PendingGroup) (c : Code) (s : State) (hs : Asked remote x s.sss) :
    Asked remote x (completeGroup g c s).state.sss := by
  simp only [completeGroup, applyRateGroup, applyProfileGroup, applyKeyGroup, setRate, setProfile]
  (repeat' split) <;> simp -implicitDefEqProofs [hs]

@[simp] theorem applyPart_asked (cls : GroupClass) (src : Source) (c : Code) (s : State)
    (hs : Asked remote x s.sss) : Asked remote x (applyPart cls src c s).state.sss := by
  simp only [applyPart]
  (repeat' split) <;> simp -implicitDefEqProofs [hs]

end

section
variable {x : Sss}

/-- Of the codes REMOTE_SWITCH asks for REMOTE (05 R92). -/
theorem applyCode_asked (src : Source) (c : Code) (day : Int) (s : State) (hs : Asked True x s.sss) :
    Asked True x (applyCode src c day s).state.sss := by
  simp only [applyCode]
  split
  · simp only [applyCredit]; split <;> simp -implicitDefEqProofs [hs]
  · simp -implicitDefEqProofs [applyDebtAdd, hs]
  · simp only [applyRemoteSwitch]; split <;> simp -implicitDefEqProofs [hs]
  · simp -implicitDefEqProofs [applyClearTamper, hs]
  · simp only [applySetConfig]; split <;> simp -implicitDefEqProofs [hs]
  · simp -implicitDefEqProofs [applyTempLimitCode, hs]
  · simp -implicitDefEqProofs [applySetClock, hs]
  · simp -implicitDefEqProofs [applySetWeekmap, hs]
  · split <;> simp -implicitDefEqProofs [hs]

/-- A code, whatever its outcome, reaches the sequencer by requests alone. -/
theorem judgeCode_asked (src : Source) (chars : List Byte) (s : State) (hs : Asked True x s.sss) :
    Asked True x (judgeCode src chars s).state.sss := by
  simp only [judgeCode, judgeAuthentic]
  (repeat' split) <;> simp -implicitDefEqProofs [hs, applyCode_asked]

end

end Sys2Proof.Machine
end

section
/-! What each operation of the supply switch sequencer does to its coil: activity belongs to OPENING and CLOSING alone
(06 section 6.2), and a close pulse starts only when the open-reason set is empty (06 R110). -/

namespace Sys2Proof.Machine

/-- Coil activity belongs to OPENING and CLOSING alone. -/
def Sss.Coiled (x : Sss) : Prop := x.phase ≠ .idle ↔ x.contactor.moving = true

/-- A close pulse is in progress. -/
def Sss.ClosePulse (x : Sss) : Prop := x.contactor = .closing ∧ x.phase = .pulse

theorem Reasons.isEmpty_iff (t : Reasons) : t.isEmpty = true ↔ t = ⟨false, false, false, false, false⟩ := by
  obtain ⟨credit, overload, tamper, remote, service⟩ := t
  simp [Reasons.isEmpty, and_assoc]

/-- The sequencer keeps its coil law and has started no close pulse. -/
structure Sss.Eases (x y : Sss) : Prop where
  coiled : x.Coiled → y.Coiled
  pulse : y.ClosePulse → x.ClosePulse

/-- A step keeps the coil law, and a close pulse that it starts finds the set empty and `P` true. -/
structure Sequenced (P : Prop) (s t : State) : Prop where
  coiled : s.sss.Coiled → t.sss.Coiled
  pulse : t.sss.ClosePulse → s.sss.ClosePulse ∨ (t.sss.reasons = ⟨false, false, false, false, false⟩ ∧ P)

section
variable {x y z : Sss}

theorem Sss.Eases.refl (x : Sss) : x.Eases x := ⟨id, id⟩

theorem Sss.Eases.trans (h : x.Eases y) (g : y.Eases z) : x.Eases z := ⟨g.coiled ∘ h.coiled, h.pulse ∘ g.pulse⟩

theorem Sss.Coiled.congr (h : x.Coiled) (contactor : y.contactor = x.contactor) (phase : y.phase = x.phase) :
    y.Coiled := by
  rwa [Sss.Coiled, contactor, phase]

theorem Sss.Coiled.idle (h : x.Coiled) (rests : x.contactor.moving = false) : x.phase = .idle := by
  by_contra busy
  simp [h.mp busy] at rests

/-- Whatever else changes, contactor and phase stay. -/
theorem Sss.Eases.same (contactor : y.contactor = x.contactor) (phase : y.phase = x.phase) : x.Eases y :=
  ⟨fun h => h.congr contactor phase, by rw [Sss.ClosePulse, contactor, phase]; exact id⟩

theorem Sss.coiled_of_rest (rests : y.contactor.moving = false) (idle : y.phase = .idle) : y.Coiled := by
  simp [Sss.Coiled, rests, idle]

theorem Sss.coiled_of_moving (moving : y.contactor.moving = true) (busy : y.phase ≠ .idle) : y.Coiled := by
  simp [Sss.Coiled, moving, busy]

theorem Sss.Eases.rest (rests : y.contactor.moving = false) (idle : y.phase = .idle) : x.Eases y :=
  ⟨fun _ => coiled_of_rest rests idle, fun h => by simp [Sss.ClosePulse, idle] at h⟩

/-- From one rest to another. -/
theorem Sss.Eases.rests (before : x.contactor.moving = false) (after : y.contactor.moving = false)
    (phase : y.phase = x.phase) : x.Eases y :=
  ⟨fun h => coiled_of_rest after (phase.trans (h.idle before)), fun h => by simp [h.1, Contactor.moving] at after⟩

theorem Sss.Eases.opening (opening : y.contactor = .opening) (pulse : y.phase = .pulse) : x.Eases y :=
  ⟨fun _ => coiled_of_moving (by rw [opening]; rfl) (by simp [pulse]), fun h => by simp [Sss.ClosePulse, opening] at h⟩

end

section
variable {P : Prop}

theorem Sss.Eases.sequenced {s t : State} (h : s.sss.Eases t.sss) : Sequenced P s t := ⟨h.coiled, .inl ∘ h.pulse⟩

theorem Sequenced.refl (s : State) : Sequenced P s s := (Sss.Eases.refl _).sequenced

theorem Sequenced.frame {s t : State} (sss : t.sss = s.sss) : Sequenced P s t :=
  Sss.Eases.sequenced (by rw [sss]; exact .refl _)

/-- A change that starts no pulse comes first. -/
theorem Sequenced.after {s t u : State} (h : s.sss.Eases t.sss) (g : Sequenced P t u) : Sequenced P s u :=
  ⟨g.coiled ∘ h.coiled, fun d => (g.pulse d).imp_left h.pulse⟩

/-- The sequencer stays behind. -/
theorem Sequenced.before {s t u : State} (h : Sequenced P s t) (sss : u.sss = t.sss) : Sequenced P s u :=
  ⟨by rw [sss]; exact h.coiled, by rw [sss]; exact h.pulse⟩

/-! ### Openings and closings (06 R108 to R110) -/

theorem startOpening_eases {x : Sss} (limit : Nat) (s : State) : x.Eases (startOpening limit s).sss :=
  .opening rfl rfl

/-- A closing attempt that finds the set occupied is an opening (06 R112). -/
theorem closeAttempt_sequenced {s : State} (a : State) (closing : s.sss.contactor = .closing)
    (active : P) : Sequenced P a (closeAttempt s) := by
  unfold closeAttempt
  split
  · next empty =>
    exact ⟨fun _ => Sss.coiled_of_moving (congrArg Contactor.moving closing) (by simp [startPulse]),
      fun _ => .inr ⟨(Reasons.isEmpty_iff _).mp empty, active⟩⟩
  · exact (startOpening_eases 3 s).sequenced

theorem startClosing_sequenced {s : State} (a : State) (active : P) :
    Sequenced P a (startClosing s) :=
  closeAttempt_sequenced a rfl active

/-- An OPEN found empty is ARMED, or closes at once (06 R109). -/
theorem becomeArmed_sequenced {s : State} (opened : s.sss.contactor = .opened) (active : P) :
    Sequenced P s (becomeArmed s) := by
  unfold becomeArmed
  dsimp only
  split
  · exact startClosing_sequenced s active
  · exact Sss.Eases.sequenced (.rests (by rw [opened]; rfl) (by simp [Contactor.moving]) (by simp))

/-- An OPEN found empty with no origin rests in ARMED. -/
theorem becomeArmed_ordinary {s : State} (opened : s.sss.contactor = .opened) (origin : s.sss.origin = .ordinary) :
    s.sss.Eases (becomeArmed s).sss := by
  have rests : closesAtOnce s = false := by simp [closesAtOnce, origin]
  rw [becomeArmed, if_neg (by simp [rests])]
  exact .rests (by rw [opened]; rfl) (by simp [Contactor.moving]) (by simp)

/-! ### Additions and removals (06 R105, R106) -/

theorem actOnAddition_eases (s : State) : s.sss.Eases (actOnAddition s).sss := by
  unfold actOnAddition
  split
  · exact startOpening_eases 3 s
  · next armed => exact .rests (by rw [armed]; rfl) (by simp [Contactor.moving]) (by simp)
  · exact startOpening_eases 3 s
  · exact startOpening_eases 3 s
  all_goals exact .refl _

theorem addReason_eases (r : Reason) (s : State) : s.sss.Eases (addReason r s).sss := by
  have added : s.sss.Eases { s.sss with reasons := s.sss.reasons.set r true, origin := .ordinary } := .same rfl rfl
  unfold addReason
  dsimp only
  (repeat' split)
  · exact .refl _
  · exact added.trans (actOnAddition_eases (s.setSss _))
  · exact added

/-- A removal that empties the set lets an open contactor close where its origin says so (06 R109, R117). -/
theorem actOnEmptied_sequenced {s : State} (active : P) : Sequenced P s (actOnEmptied s) := by
  unfold actOnEmptied
  split
  · next opened => exact becomeArmed_sequenced opened active
  · split
    · exact startClosing_sequenced s active
    · exact .refl s
  all_goals exact .refl s

/-- The set without a reason that was its last, and the origin of the removal (06 R105, R112). -/
def State.emptied (s : State) (r : Reason) (origin : Origin) : State :=
  s.setSss { s.sss with
    reasons := s.sss.reasons.set r false
    origin := if s.sss.contactor = .closing then s.sss.origin else origin }

theorem removeReason_absent {r : Reason} {s : State} (absent : s.sss.reasons.get r = false) (origin : Origin) :
    removeReason r origin s = s :=
  if_neg (by simp [absent])

theorem removeReason_left {r : Reason} {s : State} (there : s.sss.reasons.get r = true)
    (left : (s.sss.reasons.set r false).isEmpty = false) (origin : Origin) :
    removeReason r origin s = s.setSss { s.sss with reasons := s.sss.reasons.set r false } := by
  simp [removeReason, there, left]

/-- A removal of the last reason is acted upon in ACTIVE (06 R106). -/
theorem removeReason_last {r : Reason} {s : State} (there : s.sss.reasons.get r = true)
    (last : (s.sss.reasons.set r false).isEmpty = true) (origin : Origin) :
    removeReason r origin s =
      if s.ps.power = .active then actOnEmptied (s.emptied r origin) else s.emptied r origin := by
  simp [removeReason, there, last, State.emptied]

/-- Contactor and phase are those of the act on an emptied set, if there is one. -/
theorem removeReason_cases (r : Reason) (origin : Origin) (s : State) :
    (s.ps.power = .active ∧ removeReason r origin s = actOnEmptied (s.emptied r origin)) ∨
      ((removeReason r origin s).sss.contactor = s.sss.contactor ∧
        (removeReason r origin s).sss.phase = s.sss.phase) := by
  cases there : s.sss.reasons.get r with
  | false => rw [removeReason_absent there]; exact .inr ⟨rfl, rfl⟩
  | true =>
    cases last : (s.sss.reasons.set r false).isEmpty with
    | false => rw [removeReason_left there last]; exact .inr ⟨rfl, rfl⟩
    | true =>
      rw [removeReason_last there last]
      split
      · next active => exact .inl ⟨active, rfl⟩
      · exact .inr ⟨rfl, rfl⟩

theorem emptied_eases (s : State) (r : Reason) (origin : Origin) : s.sss.Eases (s.emptied r origin).sss :=
  .same rfl rfl

theorem removeReason_sequenced (r : Reason) (origin : Origin) (s : State) (active : s.ps.power = .active → P) :
    Sequenced P s (removeReason r origin s) := by
  rcases removeReason_cases r origin s with ⟨acting, acts⟩ | ⟨contactor, phase⟩
  · rw [acts]; exact .after (emptied_eases s r origin) (actOnEmptied_sequenced (active acting))
  · exact Sss.Eases.sequenced (.same contactor phase)

theorem actOnEmptied_ordinary {s : State} (origin : s.sss.contactor ≠ .closing → s.sss.origin = .ordinary) :
    s.sss.Eases (actOnEmptied s).sss := by
  unfold actOnEmptied
  split
  · next opened => exact becomeArmed_ordinary opened (origin (by simp [opened]))
  · next armed =>
    have rests : closesAtOnce s = false := by simp [closesAtOnce, origin (by simp [armed])]
    rw [if_neg (by simp [rests])]
    exact .refl _
  all_goals exact .refl _

/-- An ordinary removal starts no pulse (06 R109). -/
theorem removeReason_ordinary (r : Reason) (s : State) : s.sss.Eases (removeReason r .ordinary s).sss := by
  rcases removeReason_cases r .ordinary s with ⟨-, acts⟩ | ⟨contactor, phase⟩
  · rw [acts]
    exact (emptied_eases s r .ordinary).trans (actOnEmptied_ordinary fun other => if_neg other)
  · exact .same contactor phase

/-- Requests of the set's owners start no pulse. -/
theorem Asked.eases {remote : Prop} {x y : Sss} (asked : Asked remote x y) : x.Eases y :=
  asked.keeps (P := x.Eases) (fun r s _ h => h.trans (addReason_eases r s))
    (fun r s _ h => h.trans (removeReason_ordinary r s)) (.refl x)

/-! ### The keys (06 R116, R117) -/

theorem acceptedPress_sequenced {s : State} (active : P) : Sequenced P s (acceptedPress s) := by
  unfold acceptedPress
  split
  · exact startClosing_sequenced s active
  · split
    · exact Sss.Eases.sequenced (.same rfl rfl)
    · exact .refl s
  all_goals exact .refl s

theorem restorePress_sequenced {s : State} (active : P) : Sequenced P s (restorePress s) := by
  unfold restorePress clearLockout
  split
  · exact .after (t := s.setLl { s.ll with reclose := .rest }) (.refl _) (removeReason_sequenced _ _ _ fun _ => active)
  · exact startClosing_sequenced s active

/-- CL decides on CREDIT after a press. -/
theorem decideCredit_sequenced (origin : Origin) (s : State) (active : P) : Sequenced P s (decideCredit origin s) := by
  unfold decideCredit
  (repeat' split)
  · exact .refl s
  · exact .after (t := s.holdCredit true) (.refl _) (addReason_eases .credit _).sequenced
  · exact .after (t := s.holdCredit false) (.refl _) (removeReason_sequenced .credit origin _ fun _ => active)
  · exact .refl s

/-- Where CL does not hold CREDIT, its decision asks for no removal. -/
theorem decideCredit_free {s : State} (free : s.cl.creditHeld = false) (origin : Origin) :
    s.sss.Eases (decideCredit origin s).sss := by
  unfold decideCredit
  simp only [free, Bool.false_eq_true, if_false]
  split
  · exact addReason_eases .credit (s.holdCredit true)
  · exact .refl _

theorem takeEmergency_sequenced {s : State} (active : P) : Sequenced P s (takeEmergency s) := by
  let u := holdCreditState ((s.setAcct s.acct.accepting).setAcct (s.acct.accepting.withFlags s.params))
  have same : u.sss = s.sss := by simp [u]
  have held : u.cl.creditHeld = s.cl.creditHeld := by simp [u]
  have taken : takeEmergency s =
      if s.cl.creditHeld then decideCredit .acceptingPress u else acceptedPress (decideCredit .acceptingPress u) := rfl
  rw [taken]
  cases free : s.cl.creditHeld with
  | true => exact .after (same ▸ .refl _) (decideCredit_sequenced _ u active)
  | false =>
    refine .after ?_ (acceptedPress_sequenced active)
    exact same ▸ decideCredit_free (held.trans free) .acceptingPress

/-! ### The coil (06 R108, R111 to R115, R119) -/

theorem coilPulseEnd_eases (s : State) : s.sss.Eases (coilPulseEnd s).sss := by
  unfold coilPulseEnd
  split
  · next ends =>
    exact ⟨fun h => Sss.coiled_of_moving (h.mp (by simp [ends.1])) (by simp), fun pulse => by
      simp [Sss.ClosePulse] at pulse⟩
  · exact .refl _

theorem commandedEnd_rests (c : Contactor) : c.commandedEnd.moving = false := by
  cases c <;> rfl

theorem abandon_eases (x : Sss) : x.Eases x.abandon := .rest (commandedEnd_rests _) rfl

theorem pulseCleared_eases (s : State) : s.sss.Eases (pulseCleared s).sss := by
  unfold pulseCleared
  dsimp only
  (repeat' split)
  · exact startOpening_eases 3 _
  · next clearance _ _ =>
    exact ⟨fun h => Sss.coiled_of_moving (h.mp (by simp [clearance])) (by simp), fun pulse => by
      simp [Sss.ClosePulse] at pulse⟩
  · exact abandon_eases s.sss
  · exact .refl _

theorem coilCutoff_eases (s : State) : s.sss.Eases (coilCutoff s).sss := by
  unfold coilCutoff
  split
  · exact .rest rfl rfl
  · exact .refl _

theorem weldRetryExpiry_eases (s : State) : s.sss.Eases (weldRetryExpiry s).sss := by
  unfold weldRetryExpiry
  (repeat' split)
  · exact .same rfl rfl
  · exact startOpening_eases 3 s
  · exact .refl _

theorem verifyOpening_sequenced {s : State} (a : State) (opening : s.sss.contactor = .opening)
    (active : P) : Sequenced P a (verifyOpening s) := by
  unfold verifyOpening
  (repeat' split)
  · exact Sss.Eases.sequenced (.opening opening rfl)
  · exact Sss.Eases.sequenced (.rest rfl rfl)
  · unfold openingDone
    dsimp only
    split
    · exact .after (.rest rfl rfl) (becomeArmed_sequenced rfl active)
    · exact Sss.Eases.sequenced (.rest rfl rfl)

theorem verifyClosing_sequenced {s : State} (a : State) (closing : s.sss.contactor = .closing)
    (active : P) : Sequenced P a (verifyClosing s) := by
  unfold verifyClosing
  (repeat' split)
  · exact (startOpening_eases 3 s).sequenced
  · exact Sss.Eases.sequenced (.rest rfl rfl)
  · exact Sss.Eases.sequenced (.rest rfl rfl)
  · exact closeAttempt_sequenced a closing active
  · exact Sss.Eases.sequenced (.rest rfl rfl)

theorem settleEnd_sequenced (loadv : PerPhase Bool) (s : State) (active : s.ps.power = .active → P) :
    Sequenced P s (settleEnd loadv s) := by
  unfold settleEnd
  dsimp only
  (repeat' split)
  · next due opening => exact verifyOpening_sequenced s opening (active due.1)
  · next due _ closing => exact verifyClosing_sequenced s closing (active due.1)
  · next due notOpening notClosing =>
    have rests : s.sss.contactor.moving = false := by
      cases c : s.sss.contactor <;> simp_all [Contactor.moving]
    exact Sss.Eases.sequenced (.rest rests rfl)
  · exact .refl s

theorem recloseTimerExpiry_sequenced (s : State) (active : s.ps.power = .active → P) :
    Sequenced P s (recloseTimerExpiry s) := by
  unfold recloseTimerExpiry
  dsimp only
  (repeat' split)
  · exact .after (t := s.setLl { s.ll with recloseTimer := none, recloseCount := s.ll.recloseCount + 1, reclose := .rest })
      (.refl _) (removeReason_sequenced _ _ _ active)
  · exact .frame (by simp)
  · exact .refl s

/-! ### Position checks and entries (06 R118 to R120) -/

theorem positionCheck_sequenced (r : IntervalRecord) (s : State) : Sequenced True s (positionCheck r s) := by
  by_cases due : checkDue r s = true
  · obtain ⟨-, -, closed | rests⟩ := (checkDue_iff r s).mp due
    · rw [positionCheck_of_closed due closed]
      (repeat' split)
      · exact Sss.Eases.sequenced (.same rfl rfl)
      · exact startClosing_sequenced s trivial
      · exact .refl s
    · rw [positionCheck_of_open due rests]
      split
      · exact (startOpening_eases 1 s).sequenced
      · exact Sss.Eases.sequenced (.same rfl rfl)
  · rw [positionCheck_of_not_due due]
    exact .refl s

theorem checkAt_sequenced (place here : Nat) (r : IntervalRecord) (s : State) :
    Sequenced True s (checkAt place here r s) := by
  unfold checkAt
  split
  · exact positionCheck_sequenced r s
  · exact .refl s

theorem actOnEntry_sequenced (s : State) : Sequenced True s (actOnEntry s) := by
  unfold actOnEntry
  split
  case h_2 opened =>
    split
    · exact becomeArmed_sequenced opened trivial
    · exact .refl s
  case h_3 armed =>
    split
    · exact .refl s
    · exact Sss.Eases.sequenced (.rests (by rw [armed]; rfl) (by simp [Contactor.moving]) (by simp))
  case h_1 | h_4 | h_5 =>
    split
    · exact .refl s
    · exact (startOpening_eases 3 s).sequenced
  all_goals exact .refl s

theorem enterActiveSss_sequenced (s : State) : Sequenced True s (enterActiveSss s) :=
  .after (t := s.setSss { s.sss with verified := .unknown }) (.same rfl rfl) (actOnEntry_sequenced _)

theorem enterHoldup_eases (x : Sss) : x.Eases x.enterHoldup := by
  unfold Sss.enterHoldup
  split
  case h_3 => exact abandon_eases x
  all_goals exact .same rfl rfl

theorem stopAll_eases (x : Sss) : x.Eases x.stopAll := by
  unfold Sss.stopAll
  split
  · exact .same rfl rfl
  · exact (abandon_eases x).trans (.same rfl rfl)

end

end Sys2Proof.Machine
end

section
/-! The coil law and the start of a close pulse, command by command (06 R108, R110, R119). -/

namespace Sys2Proof.Machine

/-! ### COMMISSION (11 R173) -/

/-- The contactor rests with its contacts open, and no removal has left an origin. -/
def Sss.RestsOrdinary (x : Sss) : Prop :=
  x.phase = .idle ∧ (x.contactor = .opened ∨ x.contactor = .armed) ∧ x.origin = .ordinary

theorem Sss.RestsOrdinary.eased {x y : Sss} (h : y.RestsOrdinary) : x.Eases y := by
  obtain ⟨idle, rests, -⟩ := h
  exact .rest (by rcases rests with e | e <;> rw [e] <;> rfl) idle

theorem becomeArmed_restsOrdinary {s : State} (h : s.sss.RestsOrdinary) : (becomeArmed s).sss.RestsOrdinary := by
  have rests : closesAtOnce s = false := by simp [closesAtOnce, h.2.2]
  rw [becomeArmed, if_neg (by simp [rests])]
  exact ⟨by simpa using h.1, .inr (by simp), by simp⟩

theorem actOnEmptied_restsOrdinary {s : State} (h : s.sss.RestsOrdinary) : (actOnEmptied s).sss.RestsOrdinary := by
  have rests : closesAtOnce s = false := by simp [closesAtOnce, h.2.2]
  unfold actOnEmptied
  split
  · exact becomeArmed_restsOrdinary h
  · rw [if_neg (by simp [rests])]; exact h
  all_goals exact h

theorem Sss.RestsOrdinary.add (r : Reason) {s : State} (h : s.sss.RestsOrdinary) :
    (addReason r s).sss.RestsOrdinary := by
  obtain ⟨idle, rests, origin⟩ := h
  unfold addReason actOnAddition
  rcases rests with e | e <;> (repeat' split) <;> simp_all [Sss.RestsOrdinary]

theorem Sss.RestsOrdinary.remove (r : Reason) {s : State} (h : s.sss.RestsOrdinary) :
    (removeReason r .ordinary s).sss.RestsOrdinary := by
  cases there : s.sss.reasons.get r with
  | false => rwa [removeReason_absent there]
  | true =>
    cases last : (s.sss.reasons.set r false).isEmpty with
    | false => rw [removeReason_left there last]; exact h
    | true =>
      have emptied : (s.emptied r .ordinary).sss.RestsOrdinary := by
        obtain ⟨idle, rests, origin⟩ := h
        exact ⟨idle, rests, by simp [State.emptied, origin]⟩
      rw [removeReason_last there last]
      split
      · exact actOnEmptied_restsOrdinary emptied
      · exact emptied

/-- Requests of the set's owners move such a contactor between OPEN and ARMED alone. -/
theorem Sss.RestsOrdinary.asked {remote : Prop} {x y : Sss} (asked : Asked remote x y) (h : x.RestsOrdinary) :
    y.RestsOrdinary :=
  asked.keeps (fun r _ _ h => h.add r) (fun r _ _ h => h.remove r) h

theorem actOnEntry_restsOrdinary {s : State} (h : s.sss.RestsOrdinary) : (actOnEntry s).sss.RestsOrdinary := by
  have rests := h.2.1
  unfold actOnEntry
  split
  case h_2 =>
    split
    · exact becomeArmed_restsOrdinary h
    · exact h
  case h_3 =>
    split
    · exact h
    · exact ⟨by simpa using h.1, .inl (by simp), by simpa using h.2.2⟩
  case h_6 | h_7 | h_8 => exact h
  all_goals simp_all

theorem Sss.RestsOrdinary.entry (a : EntryAction) {s : State} (h : s.sss.RestsOrdinary) :
    (a.run s).sss.RestsOrdinary := by
  cases a with
  | calendarAndCredit => exact h.asked (recompute_asked (remote := True) _ (evaluateCalendar_asked _ .refl))
  | limiterAndTamper => exact h.asked (enterActiveTm_asked (remote := True) _ (by simp))
  | switch => exact actOnEntry_restsOrdinary (s := s.setSss _) h

theorem Sss.RestsOrdinary.entries (l : List EntryAction) {s : State} (h : s.sss.RestsOrdinary) :
    (l.foldl (fun t a => a.run t) s).sss.RestsOrdinary := by
  induction l generalizing s with
  | nil => exact h
  | cons a rest ih => exact ih (h.entry a)

/-- A part just commissioned rests with its contacts open (11 R173). -/
theorem commissioned_restsOrdinary (r : CommissionRequest) (s : State) :
    (Machine.commissioned r s).sss.RestsOrdinary := by
  have blocks : (commissionBlocks r (commissionCalendar r s)).sss.RestsOrdinary := ⟨rfl, .inl rfl, rfl⟩
  have tamper : (commissionTamper (commissionLedger r (commissionBlocks r (commissionCalendar r s)))).sss.RestsOrdinary :=
    blocks.asked (evaluateTamper_asked (remote := True) _ (recompute_asked (State.setCl _ _) .refl))
  unfold Machine.commissioned commissionEntry
  exact Sss.RestsOrdinary.entries _ (s := startActive _) tamper

/-! ### Requests (12 R180) -/

section
variable {P : Prop} {s : State}

/-- A request that is executed is served in the power state (12 R181). -/
theorem served_of_passes {kind : Byte} {payload : List Byte} {power : Power}
    (passes : refusal kind payload power = none) : servedIn kind.toNat power = true := by
  unfold refusal at passes
  split_ifs at passes with _ _ served _
  simpa using served

theorem doCustomerKey_sequenced (payload : List Byte) (active : P) : Sequenced P s (doCustomerKey payload s) := by
  unfold doCustomerKey doRestore doAcceptEmergency
  (repeat' split)
  · exact (restorePress_sequenced active).before (by simp)
  · exact .frame (by simp)
  · exact (takeEmergency_sequenced active).before (by simp)
  · exact .frame (by simp)

theorem runRequest_sequenced (kind : Byte) (payload : List Byte) (passes : refusal kind payload s.ps.power = none)
    (active : s.ps.power = .active → P) : Sequenced P s (runRequest kind payload s) := by
  have served := served_of_passes passes
  unfold runRequest
  split
  iterate 8 exact .frame (by simp)
  · exact Sss.Eases.sequenced (by simpa [doSubmitCode] using (judgeCode_asked _ _ s .refl).eases)
  · next key =>
    rw [key] at served
    exact doCustomerKey_sequenced payload (active (by simpa [servedIn] using served))
  · exact Sss.Eases.sequenced (by
      simpa [doTrimClock] using (trimClock_asked (remote := True) (signedOf 8 (fieldAt payload 0 1)) s .refl).eases)
  · refine Sss.Eases.sequenced ?_
    simpa [doCommission, commission_eq] using (commissioned_restsOrdinary (commissionOf payload) s).eased
  · exact .refl s

theorem takeFrame_sequenced (kind : Byte) (payload : List Byte) (active : s.ps.power = .active → P) :
    Sequenced P s (takeFrame kind payload s) := by
  unfold takeFrame takeRequest
  (repeat' split)
  · exact .frame (by simp)
  · next passes => exact runRequest_sequenced kind payload passes active
  · exact .frame (by simp)
  · exact .refl s

theorem receiveByte_sequenced (b : LineByte) (active : s.ps.power = .active → P) :
    Sequenced P s (receiveByte s b) := by
  have hunts (rx : Option PartialFrame) : Sequenced P s (s.setRx rx) := .frame (by simp)
  unfold receiveByte collectByte frameComplete
  dsimp only
  (repeat' split)
  · exact hunts _
  · exact hunts _
  · exact .refl s
  · exact hunts _
  · exact hunts _
  · exact .after (t := s.setRx none) (by simpa using .refl _) (takeFrame_sequenced _ _ (by simpa using active))
  · exact hunts _
  · exact .refl s

theorem receiveBytes_coiled (bytes : List LineByte) (h : s.sss.Coiled) : (bytes.foldl receiveByte s).sss.Coiled := by
  induction bytes generalizing s with
  | nil => exact h
  | cons b rest ih => exact ih ((receiveByte_sequenced (P := True) b fun _ => trivial).coiled h)

/-- A request served in ACTIVE leaves the part in ACTIVE. -/
theorem takeFrame_active (kind : Byte) (payload : List Byte) (active : s.ps.power = .active) :
    (takeFrame kind payload s).ps.power = .active := by
  unfold takeFrame takeRequest
  (repeat' split)
  · simpa using active
  · next passes =>
    have served := served_of_passes passes
    unfold runRequest
    split
    iterate 8 simpa using active
    · unfold doSubmitCode replyJudged
      dsimp only
      split <;> simpa using active
    · simpa using active
    · simpa using active
    · next commission => simp [commission, servedIn, active] at served
    · exact active
  · simpa using active
  · exact active

theorem receiveByte_active (b : LineByte) (active : s.ps.power = .active) : (receiveByte s b).ps.power = .active := by
  unfold receiveByte collectByte frameComplete
  dsimp only
  (repeat' split)
  case h_2.isFalse.isFalse.isTrue => exact takeFrame_active _ _ (by simpa using active)
  all_goals simpa using active

/-! ### Departures from ACTIVE and the end of a write (06 R119, 10 R166) -/

theorem enterHoldup_sss (s : State) : (enterHoldup s).sss = s.sss.enterHoldup := by
  unfold enterHoldup
  dsimp only
  split <;> simp [departBlocks]

theorem writeFollows_eases (occ : Occasion) (good : Bool) (s : State) : s.sss.Eases (writeFollows occ good s).sss := by
  cases occ
  case dormantEntry => exact stopAll_eases s.sss
  all_goals exact .refl _

theorem releaseHoldup_eases (s : State) : s.sss.Eases (releaseHoldup s).sss := by
  unfold releaseHoldup
  split
  · rw [enterHoldup_sss]; exact enterHoldup_eases _
  · exact .refl _

theorem writeDone_eases (good : Bool) (s : State) : s.sss.Eases (writeDone good s).sss := by
  unfold writeDone
  split
  · next w _ =>
    have followed := writeFollows_eases w.img.occasion good (restartPeriodic (s.setPs (s.ps.store w good)))
    have released := releaseHoldup_eases (beginNext (writeFollows w.img.occasion good
      (restartPeriodic (s.setPs (s.ps.store w good)))))
    simp only [beginNext_frame] at released
    simp only [restartPeriodic_frame, State.setPs_sss] at followed
    exact followed.trans released
  · exact .refl _

theorem holdupEntry_eases (vback : Bool) (s : State) : s.sss.Eases (holdupEntry vback s).sss := by
  unfold holdupEntry
  dsimp only
  (repeat' split)
  case h_1 | isFalse => exact .refl _
  all_goals rw [enterHoldup_sss]; exact enterHoldup_eases _

end

/-! ### Commands -/

/-- The command changes the open-reason set at most before a pulse that it starts: it is no record take, no return to
ACTIVE, and no FRAME_DISCARD of several bytes. -/
structure PulsesLast (c : Instr) : Prop where
  take : ∀ loadv, c ≠ .recordTake loadv
  returns : c ≠ .returnDecision ∧ c ≠ .deferredReturn ∧ c ≠ .powerUp
  bytes : ∀ bytes, c = .frameDiscard bytes → bytes.length ≤ 1

theorem exec_sequenced {c : Instr} {s t : State} (last : PulsesLast c) (run : exec c s = .next t) :
    Sequenced (t.ps.power = .active) s t := by
  cases c <;> obtain rfl := Host.Outcome.next.inj run
  case identify | getStatus | getLedger | getEnergy | getTariff | getTime | getEvents | readTamperLog | submitCode |
      restore | acceptEmergency | trimClock | commission | badKind | busy =>
    exact takeFrame_sequenced _ _ (takeFrame_active _ _)
  case frameDiscard bytes =>
    match bytes, last.bytes bytes rfl with
    | [], _ => exact .refl s
    | [b], _ => exact receiveByte_sequenced b (receiveByte_active b)
  case recordTake loadv => exact absurd rfl (last.take loadv)
  case returnDecision => exact absurd rfl last.returns.1
  case deferredReturn => exact absurd rfl last.returns.2.1
  case powerUp => exact absurd rfl last.returns.2.2
  case settleEnd loadv => exact settleEnd_sequenced loadv s (by simp)
  case recloseTimerExpiry => exact recloseTimerExpiry_sequenced s (by simp)
  case burstEnd | silenceReport | suppressionTimerExpiry | silenceTick | sensorFilterExpiry | deemedHoldExpiry |
      holdupSample | lockoutEnd | tcEdgeEvaluation =>
    refine Sss.Eases.sequenced (Asked.eases (remote := True) ?_)
    simp
  case coilPulseEnd => exact (coilPulseEnd_eases s).sequenced
  case pulseCleared => exact (pulseCleared_eases s).sequenced
  case coilCutoff => exact (coilCutoff_eases s).sequenced
  case weldRetryExpiry => exact (weldRetryExpiry_eases s).sequenced
  case holdupEntry vback => exact (holdupEntry_eases vback s).sequenced
  case checkpointWriteDone good => exact (writeDone_eases good s).sequenced
  case holdUpReserveExhaustion =>
    refine Sss.Eases.sequenced ?_
    unfold reserveExhausted
    split
    · exact writeDone_eases false s
    · exact .refl _
  case shelfPowerLoss =>
    refine Sss.Eases.sequenced ?_
    unfold shelfPowerLoss
    split
    · exact .rest rfl rfl
    · exact .refl _
  case frameTimeout | replySent | linkResetAssert | linkResetRelease | sensorInputChange | linklossMeasure |
      groupTimeout | recloseWindowExpiry | vmainFall | vmainRise | dormantEntry | periodicCheckpoint |
      deferredPeriodicWrite | clockAdvance => exact .frame (by simp)

/-- Settles O10: the pulse that a command starts comes last, and a check's and an entry's finds the set empty. -/
theorem closePulseStartsWithTheSetEmpty : Obligations.ClosePulseStartsWithTheSetEmpty := by
  have pulse {P : Prop} {a b : State} (step : Sequenced P a b) (before : ¬a.sss.ClosePulse) (after : b.sss.ClosePulse) :
      b.sss.reasons = ⟨false, false, false, false, false⟩ ∧ P := (step.pulse after).resolve_left before
  refine ⟨fun s t c rest queued take decision deferred powerUp bytes run before after => ?_, fun s r before after => ?_,
    fun s before after => ?_⟩
  · simp only [step, queued] at run
    exact pulse (exec_sequenced ⟨take, ⟨decision, deferred, powerUp⟩, bytes⟩ run) before after
  · exact (pulse (positionCheck_sequenced r s) before after).1
  · exact (pulse (enterActiveSss_sequenced s) before after).1

end Sys2Proof.Machine
end

section
/-! The coil law in every state, and the contactor states that the images of the checkpoint hold (06 R119). -/

namespace Sys2Proof.Machine

/-! ### The images: those held before, and snapshots (10 R167) -/

/-- Every image of the next state was held before or is a snapshot. -/
def Snapshots (s t : State) : Prop := ∀ img ∈ t.images, img ∈ s.images ∨ ∃ u : State, img.contents = u.snapshot

section
variable {s t u : State}

theorem Snapshots.of_subset (h : ∀ img ∈ t.images, img ∈ s.images) : Snapshots s t := fun img mem => .inl (h img mem)

theorem Snapshots.of_ps (ps : t.ps = s.ps) : Snapshots s t :=
  .of_subset fun img mem => by rwa [State.images, ps] at mem

theorem Snapshots.of_slots (a : t.ps.slotA = s.ps.slotA) (b : t.ps.slotB = s.ps.slotB) (write : t.ps.write = s.ps.write) :
    Snapshots s t :=
  .of_subset fun img mem => by simpa [State.images, Ps.images, a, b, write] using mem

/-- A start of the core keeps the images of the two slots, and the write under way is lost. -/
theorem Snapshots.of_start (a : t.ps.slotA = s.ps.slotA) (b : t.ps.slotB = s.ps.slotB) (write : t.ps.write = none) :
    Snapshots s t :=
  .of_subset fun img mem => by
    rw [State.images, Ps.mem_images, a, b, write] at mem
    exact (s.ps.mem_images img).mpr (mem.imp_right (Or.imp_right (by simp)))

theorem Snapshots.refl (s : State) : Snapshots s s := .of_ps rfl

theorem Snapshots.trans (h : Snapshots s t) (g : Snapshots t u) : Snapshots s u := fun img mem =>
  (g img mem).elim (h img) .inr

theorem startWrite_snapshots (occ : Occasion) (s : State) : Snapshots s (startWrite occ s) := fun _ mem =>
  (mem_images_startWrite mem).imp_right fun now => ⟨s, now⟩

theorem beginNext_snapshots (s : State) : Snapshots s (beginNext s) := by
  unfold beginNext
  split
  · next occ rest _ =>
    exact fun _ mem => (mem_images_beginWrite mem).imp_right fun now => ⟨_, now⟩
  · exact .refl s

theorem enterDormant_snapshots (s : State) : Snapshots s (enterDormant s) :=
  .trans (t := s.setPs _) (.of_slots rfl rfl rfl) (startWrite_snapshots _ _)

theorem enterHoldup_snapshots (s : State) : Snapshots s (enterHoldup s) := by
  have held : Snapshots s (startWrite .holdupEntry (departBlocks s)) :=
    .trans (.of_slots rfl rfl rfl) (startWrite_snapshots _ _)
  unfold enterHoldup
  dsimp only
  split
  · exact held
  · exact held.trans (enterDormant_snapshots _)

theorem startPeriodic_snapshots (s : State) : Snapshots s (startPeriodic s) :=
  .trans (t := s.setHlc _) (.of_ps rfl) (startWrite_snapshots _ _)

theorem writeDone_snapshots (good : Bool) (s : State) : Snapshots s (writeDone good s) := by
  unfold writeDone
  split
  · next w writing =>
    have followed : Snapshots s (writeFollows w.img.occasion good (restartPeriodic (s.setPs (s.ps.store w good)))) :=
      .of_subset fun img mem => by
        rw [writeFollows_images, restartPeriodic_images] at mem
        exact mem_images_store writing mem
    have begun := followed.trans (beginNext_snapshots _)
    dsimp only [releaseHoldup]
    split
    · exact begun.trans (enterHoldup_snapshots _)
    · exact begun
  · exact .refl s

theorem takeFrame_snapshots (kind : Byte) (payload : List Byte) (s : State) :
    Snapshots s (takeFrame kind payload s) := by
  unfold takeFrame takeRequest
  (repeat' split)
  · exact .of_ps (by simp)
  · unfold runRequest
    split
    iterate 8 exact .of_ps (by simp)
    · unfold doSubmitCode replyJudged
      dsimp only
      split
      · exact .trans (t := State.setHlc _ _) (.of_ps (by simp)) (startWrite_snapshots _ _)
      · exact .of_ps (by simp)
    · exact .of_ps (by simp)
    · exact .of_ps (by simp)
    · unfold doCommission
      rw [commission_eq]
      refine .trans (.of_subset fun img mem => ?_) (startWrite_snapshots _ _)
      exact commissioned_images (commissionOf payload) s ▸ mem
    · exact .refl s
  · exact .of_ps (by simp)
  · exact .refl s

theorem receiveByte_snapshots (s : State) (b : LineByte) : Snapshots s (receiveByte s b) := by
  unfold receiveByte collectByte frameComplete
  dsimp only
  (repeat' split)
  case h_2.isFalse.isFalse.isTrue => exact .trans (t := s.setRx none) (.of_ps rfl) (takeFrame_snapshots _ _ _)
  all_goals exact .of_ps (by simp)

theorem receiveBytes_snapshots (bytes : List LineByte) (s : State) : Snapshots s (bytes.foldl receiveByte s) := by
  induction bytes generalizing s with
  | nil => exact .refl s
  | cons b rest ih => exact (receiveByte_snapshots s b).trans (ih _)

theorem startCore_snapshots (s : State) : Snapshots s (startCore s) := by
  unfold startCore
  split
  · exact .of_start (by simp [restoreFrom, restoredState, Ps.restored])
      (by simp [restoreFrom, restoredState, Ps.restored])
      (by simp [restoreFrom, restoredState, Ps.restored, Ps.manufacture])
  · exact .of_start rfl rfl rfl

theorem doReturn_snapshots (s : State) : Snapshots s (doReturn s) := by
  unfold doReturn warmReturn
  dsimp only
  split
  · exact .of_slots (by simp) (by simp) (by simp)
  · exact startCore_snapshots s

end

theorem exec_snapshots {c : Instr} {s t : State} (run : exec c s = .next t) : Snapshots s t := by
  cases c <;> obtain rfl := Host.Outcome.next.inj run
  case identify | getStatus | getLedger | getEnergy | getTariff | getTime | getEvents | readTamperLog | submitCode |
      restore | acceptEmergency | trimClock | commission | badKind | busy => exact takeFrame_snapshots _ _ s
  case frameDiscard bytes => exact receiveBytes_snapshots bytes s
  case holdupSample =>
    unfold holdupSample
    split
    · exact .of_slots (by simp) (by simp) (by simp)
    · exact .refl s
  case vmainFall | vmainRise =>
    simp only [vmainFall, vmainRise]
    (repeat' split) <;> exact .of_slots rfl rfl rfl
  case holdupEntry vback =>
    have entered := Snapshots.trans (t := s.setPins { s.pins with vback := vback }) (.of_ps rfl)
      (enterHoldup_snapshots _)
    unfold holdupEntry
    dsimp only
    (repeat' split)
    case h_1 => exact .of_slots rfl rfl rfl
    case isFalse => exact .refl s
    all_goals exact entered
  case shelfPowerLoss =>
    unfold shelfPowerLoss
    split
    · exact .of_start rfl rfl rfl
    · exact .refl s
  case returnDecision =>
    unfold returnDecision
    (repeat' split)
    · exact .of_slots rfl rfl rfl
    · exact doReturn_snapshots s
    · exact .refl s
  case deferredReturn =>
    unfold deferredReturn
    split
    · exact doReturn_snapshots s
    · exact .refl s
  case dormantEntry =>
    unfold dormantEntry
    dsimp only
    split
    · exact .trans (t := s.setPins _) (.of_ps rfl) (enterDormant_snapshots _)
    · exact .of_ps rfl
  case powerUp =>
    unfold powerUp
    split
    · exact startCore_snapshots s
    · exact .refl s
  case periodicCheckpoint =>
    unfold periodicCheckpoint
    (repeat' split)
    · exact .trans (t := s.setPs _) (.of_slots rfl rfl rfl) (startPeriodic_snapshots _)
    · exact .of_slots rfl rfl rfl
    · exact .refl s
  case deferredPeriodicWrite =>
    unfold deferredPeriodicWrite
    split
    · exact .trans (t := s.setPs _) (.of_slots rfl rfl rfl) (startPeriodic_snapshots _)
    · exact .refl s
  case checkpointWriteDone good => exact writeDone_snapshots good s
  case holdUpReserveExhaustion =>
    unfold reserveExhausted
    split
    · exact writeDone_snapshots false s
    · exact .refl s
  all_goals exact .of_ps (by simp)

/-- A snapshot holds a sequence as its commanded end. -/
theorem Snapshots.rests {s t : State} (h : Snapshots s t)
    (before : ∀ img ∈ s.images, img.contents.contactor.moving = false) :
    ∀ img ∈ t.images, img.contents.contactor.moving = false := by
  intro img mem
  rcases h img mem with held | ⟨u, now⟩
  · exact before img held
  · rw [now]; exact commandedEnd_rests _

/-! ### The coil law (06 section 6.2) -/

theorem Asked.coiled {remote : Prop} {x y : Sss} (asked : Asked remote x y) (h : x.Coiled) : y.Coiled :=
  asked.eases.coiled h

theorem takeItem_coiled (place : Nat) (missing : Option Nat) (r : IntervalRecord) {s : State} (h : s.sss.Coiled) :
    (takeItem place missing r s).sss.Coiled := by
  have check (here : Nat) {t : State} := (checkAt_sequenced place here r t).coiled
  have billed := check 1 (Asked.coiled (remote := True)
    (billRecord_asked (intervalPower s r) r _ (billGap_asked (gapIntervals missing s.be.ticks) _ .refl)) (check 0 h))
  have offered := check 2 (Asked.coiled (remote := True) (offerLoad_asked (intervalPower s r) _ .refl) billed)
  exact check 3 (Asked.coiled (remote := True)
    (Asked.foldl _ (fun t o ht => observe_asked o t ht) (observations s.params _ r) _ .refl) offered)

theorem recordTake_coiled (loadv : PerPhase Bool) {s : State} (h : s.sss.Coiled) : (recordTake loadv s).sss.Coiled := by
  unfold recordTake
  dsimp only
  (repeat' split)
  · exact takeItem_coiled _ _ _ (by simpa using h)
  · exact takeItem_coiled _ _ _ (by simpa using h)
  · exact h

theorem EntryAction_run_coiled (a : EntryAction) {s : State} (h : s.sss.Coiled) : (a.run s).sss.Coiled := by
  cases a with
  | calendarAndCredit => exact Asked.coiled (recompute_asked (remote := True) _ (evaluateCalendar_asked _ .refl)) h
  | switch => exact (enterActiveSss_sequenced s).coiled h
  | limiterAndTamper => exact Asked.coiled (enterActiveTm_asked (remote := True) _ (by simp)) h

theorem enterActive_coiled {s : State} (h : s.sss.Coiled) : (enterActive s).sss.Coiled := by
  have entries (l : List EntryAction) : ∀ u : State, u.sss.Coiled → (l.foldl (fun t a => a.run t) u).sss.Coiled := by
    induction l with
    | nil => exact fun _ hu => hu
    | cons a rest ih => exact fun u hu => ih _ (EntryAction_run_coiled a hu)
  simp only [enterActive, State_countDraw_frame]
  exact entries _ _ h

/-- A restore finds the contactor of the image at rest (06 R119, R120). -/
theorem startCore_coiled {s : State} (images : ∀ img ∈ s.images, img.contents.contactor.moving = false) :
    (startCore s).sss.Coiled := by
  have restored (c : Contactor) (h : c.moving = false) : c.restored.moving = false := by
    cases c
    case fault kind => cases kind <;> rfl
    all_goals exact h
  unfold startCore
  split
  · next img newest =>
    refine enterActive_coiled ?_
    simp only [raise_frame, reconcile_frame]
    exact Sss.coiled_of_rest (restored _ (images img (Ps.mem_images_of_newest newest))) rfl
  · exact Sss.coiled_of_rest rfl rfl

theorem doReturn_coiled {s : State} (h : s.sss.Coiled)
    (images : ∀ img ∈ s.images, img.contents.contactor.moving = false) : (doReturn s).sss.Coiled := by
  unfold doReturn warmReturn
  dsimp only
  split
  · exact enterActive_coiled (by simpa using h)
  · exact startCore_coiled images

theorem exec_coiled {c : Instr} {s t : State} (h : s.sss.Coiled)
    (images : ∀ img ∈ s.images, img.contents.contactor.moving = false) (run : exec c s = .next t) : t.sss.Coiled := by
  have once (last : PulsesLast c) : t.sss.Coiled := (exec_sequenced last run).coiled h
  cases c
  case recordTake loadv => obtain rfl := Host.Outcome.next.inj run; exact recordTake_coiled loadv h
  case frameDiscard bytes => obtain rfl := Host.Outcome.next.inj run; exact receiveBytes_coiled bytes h
  case returnDecision =>
    obtain rfl := Host.Outcome.next.inj run
    unfold returnDecision
    (repeat' split)
    · exact h
    · exact doReturn_coiled h images
    · exact h
  case deferredReturn =>
    obtain rfl := Host.Outcome.next.inj run
    unfold deferredReturn
    split
    · exact doReturn_coiled h images
    · exact h
  case powerUp =>
    obtain rfl := Host.Outcome.next.inj run
    unfold powerUp
    split
    · exact startCore_coiled images
    · exact h
  all_goals exact once ⟨nofun, ⟨nofun, nofun, nofun⟩, nofun⟩

theorem tick_coiled {s : State} (h : s.sss.Coiled) : (tick s).sss.Coiled := by
  simp only [tick, queueDue_frame]
  unfold passMs
  split <;> exact h

/-- Settles O13: each command keeps the coil law and adds no image but a snapshot, and so does the passing of a
millisecond. -/
theorem stepKeepsSwitchLaw : Obligations.StepKeepsSwitchLaw := by
  rintro s t ⟨coiled, images⟩ run
  unfold step at run
  split at run
  · next c rest _ =>
    exact ⟨exec_coiled (s := s.setPending rest) coiled images run, (exec_snapshots run).rests images⟩
  · obtain rfl := Host.Outcome.next.inj run
    have snapshots : Snapshots s (tick s) := .of_subset fun img mem => by
      rw [← passMs_images]
      simpa [tick, State.images] using mem
    exact ⟨tick_coiled coiled, snapshots.rests images⟩

end Sys2Proof.Machine
end

section
/-! Equations of the supply switch sequencer (06 R108 to R116), and the commands that are read from them: the RESTORE
press, the limiter's and the weld retry timers, the coil's monitor. -/

namespace Sys2Proof.Machine

/-! ### Openings, closings and emptied sets -/

theorem startOpening_eq (limit : Nat) (s : State) : startOpening limit s = s.setSss { s.sss with
    contactor := .opening, attempts := 1, pulseLimit := limit, weldRetry := none, phase := .pulse
    phaseTimer := some s.params.coilMs, cutoff := some 250, openNext := false, verified := .unknown } := rfl

/-- An origin that closes: a key press, or an automatic reclose where AUTO_RECLOSE_KEYLESS is 1 (06 R109). -/
theorem closesAtOnce_iff (s : State) : closesAtOnce s = true ↔
    s.sss.origin = .acceptingPress ∨ s.sss.origin = .restorePress ∨
      (s.sss.origin = .autoReclose ∧ s.params.autoRecloseKeyless = 1) := by
  unfold closesAtOnce
  cases s.sss.origin <;> simp

theorem becomeArmed_of_closes {s : State} (closes : closesAtOnce s = true)
    (empty : s.sss.reasons = ⟨false, false, false, false, false⟩) : becomeArmed s =
    s.setSss { s.sss with
      attempts := 1, phase := .pulse, phaseTimer := some s.params.coilMs, cutoff := some 250, openNext := false
      verified := .unknown, contactor := .closing, origin := .ordinary } := by
  have isEmpty := (Reasons.isEmpty_iff _).mpr empty
  rw [becomeArmed, if_pos closes]
  exact startClosing_of_empty (s := s.setSss { s.sss with contactor := .armed }) isEmpty

theorem becomeArmed_of_rests {s : State} (rests : closesAtOnce s = false) :
    becomeArmed s = raiseSupply (s.setSss { s.sss with contactor := .armed, origin := .ordinary }) := by
  rw [becomeArmed, if_neg (by simp [rests])]
  rfl

/-- The last reason leaves an open contactor in ACTIVE (06 R109). -/
theorem removeReason_of_opened {r : Reason} {s : State} (active : s.ps.power = .active)
    (opened : s.sss.contactor = .opened) (there : s.sss.reasons.get r = true)
    (last : s.sss.reasons.set r false = ⟨false, false, false, false, false⟩) (origin : Origin) :
    removeReason r origin s = becomeArmed (s.setSss { s.sss with
      reasons := ⟨false, false, false, false, false⟩, origin := origin }) := by
  rw [removeReason_last there ((Reasons.isEmpty_iff _).mpr last), if_pos active, State.emptied, last]
  simp [actOnEmptied, opened]

/-- Where the origin of that removal closes, the contactor closes at once. -/
theorem removeReason_of_closes {r : Reason} {s : State} (active : s.ps.power = .active)
    (opened : s.sss.contactor = .opened) (there : s.sss.reasons.get r = true)
    (last : s.sss.reasons.set r false = ⟨false, false, false, false, false⟩) {origin : Origin}
    (closes : origin = .acceptingPress ∨ origin = .restorePress ∨
      (origin = .autoReclose ∧ s.params.autoRecloseKeyless = 1)) :
    removeReason r origin s = s.setSss { s.sss with
      reasons := ⟨false, false, false, false, false⟩, attempts := 1, phase := .pulse
      phaseTimer := some s.params.coilMs, cutoff := some 250, openNext := false, verified := .unknown
      contactor := .closing, origin := .ordinary } := by
  rw [removeReason_of_opened active opened there last]
  exact becomeArmed_of_closes ((closesAtOnce_iff _).mpr closes) rfl

/-! ### The RESTORE press (06 R116) -/

/-- A RESTORE press reaches SSS (12 R180). -/
theorem exec_restore {s : State} (ready : s.ready) (active : s.ps.power = .active) :
    exec (.restore []) s = .next (doRestore s) := by
  have run : takeFrame 0x11#8 [0x00#8] s = doCustomerKey [0x00#8] s :=
    takeFrame_of_ready ready (by simp) (by decide) (by rw [active]; rfl)
  have key : doCustomerKey [0x00#8] s = doRestore s := if_pos (by decide)
  exact congrArg Host.Outcome.next (run.trans key)

theorem doRestore_of_taken {s : State} (ready : s.ready) (taken : restoreTaken s = true) :
    doRestore s = (restorePress s).replying ⟨0x91#8, [0x00#8, 0x00#8]⟩ := by
  have pressed : (restorePress s).ready :=
    State.ready_of_noticed ready (restorePress_noticed s (.refl _)) (by simp) (by simp)
  rw [doRestore, if_pos taken, replyOk, handReply_of_ready pressed]
  rfl

theorem doRestore_of_refused {s : State} (ready : s.ready) (refused : restoreTaken s = false) :
    doRestore s = s.replying ⟨0x91#8, [0x00#8, 0x01#8]⟩ := by
  rw [doRestore, if_neg (by simp [refused]), replyOk, handReply_of_ready ready]
  rfl

/-- Settles O35: a press that is taken starts a closing, or clears the lockout, which empties the set; any other is
answered alone. -/
theorem restorePressClosesWhereArmed : Obligations.RestorePressClosesWhereArmed := by
  intro s ready active
  rw [exec_restore ready active]
  refine ⟨fun rests empty => ?closes, fun opened alone lockout => ?lockout, fun other => ?refused⟩
  case closes =>
    have isEmpty := (Reasons.isEmpty_iff _).mpr empty
    have taken : restoreTaken s = true := by rcases rests with e | e <;> simp [restoreTaken, e, isEmpty]
    have closed : s.sss.contactor ≠ .opened := by rcases rests with e | e <;> simp [e]
    rw [doRestore_of_taken ready taken, restorePress, if_neg closed, startClosing_of_empty isEmpty, ← empty]
  case lockout =>
    have taken : restoreTaken s = true := by simp [restoreTaken, opened, alone, lockout, Reasons.empty]
    rw [doRestore_of_taken ready taken, restorePress, if_pos opened, clearLockout,
      removeReason_of_closes (by exact active) (by exact opened) (by simp [alone, Reasons.get])
        (by simp [alone, Reasons.set]) (.inr (.inl rfl))]
    rfl
  case refused =>
    refine congrArg Host.Outcome.next (doRestore_of_refused ready ?_)
    rcases other with e | e | e | e | e | ⟨e, occupied⟩ | ⟨e, unlocked⟩
    iterate 5 simp [restoreTaken, e]
    · simpa [restoreTaken, e, ← Reasons.isEmpty_iff] using occupied
    · simpa [restoreTaken, e, Reasons.empty, or_iff_not_imp_left] using unlocked

/-! ### The reclose timer, the reclose window and the weld retry timer (07 R128, R130, 06 R113) -/

theorem recloseTimerExpiry_of_due {s : State} (active : s.ps.power = .active) (waits : s.ll.reclose = .wait)
    (due : s.ll.recloseTimer = some 0) : recloseTimerExpiry s =
      if s.ll.recloseCount < s.params.recloseMax then
        removeReason .overload .autoReclose (s.setLl
          { s.ll with recloseTimer := none, recloseCount := s.ll.recloseCount + 1, reclose := .rest })
      else raise (.overload true s.limit s.ll.recloseCount)
        (s.setLl { s.ll with recloseTimer := none, reclose := .lockout }) := by
  rw [recloseTimerExpiry, if_pos ⟨active, waits, by simp [timerDue, due]⟩]
  rfl

/-- Settles O48: the expiry of the reclose timer is a removal of OVERLOAD or a lockout, that of the weld retry timer a
load or an opening. -/
theorem limiterAndWeldTimersExpire : Obligations.LimiterAndWeldTimersExpire := by
  intro s active
  refine ⟨fun waits due => ⟨fun exhausted => ?lockout, fun left => ?reclose⟩, fun due => ?window,
    fun welded due => ⟨fun empty => ?load, fun occupied => ?opens⟩⟩
  case lockout =>
    refine ⟨_, rfl, ?_⟩
    rw [recloseTimerExpiry_of_due active waits due, if_neg (by omega)]
    exact ⟨by simp, by simp, fun room => Hlc.join_queue _ _ room⟩
  case reclose =>
    have expired : recloseTimerExpiry s = removeReason .overload .autoReclose (s.setLl
        { s.ll with recloseTimer := none, recloseCount := s.ll.recloseCount + 1, reclose := .rest }) := by
      rw [recloseTimerExpiry_of_due active waits due, if_pos left]
    refine ⟨fun opened alone keyless => ?_, fun opened alone keyed => ⟨_, rfl, ?_⟩, fun both => ?_⟩
    · refine congrArg Host.Outcome.next (expired.trans ?_)
      rw [removeReason_of_closes (by exact active) (by exact opened) (by simp [alone, Reasons.get])
        (by simp [alone, Reasons.set]) (.inr (.inr ⟨rfl, by exact keyless⟩))]
      rfl
    · rw [expired, removeReason_of_opened (by exact active) (by exact opened) (by simp [alone, Reasons.get])
          (by simp [alone, Reasons.set]), becomeArmed_of_rests (by simp [closesAtOnce, keyed])]
      simp
    · refine congrArg Host.Outcome.next (expired.trans ?_)
      rw [removeReason_left (by simp [both, Reasons.get]) (by simp [both, Reasons.set, Reasons.isEmpty])]
      simp [both, Reasons.set]
  case window => exact congrArg Host.Outcome.next (if_pos ⟨active, by simp [timerDue, due]⟩)
  case load =>
    have retry : weldRetryExpiry s = s.setSss { s.sss with weldRetry := some 900000 } := by
      rw [weldRetryExpiry, if_pos ⟨active, welded, by simp [timerDue, due]⟩, if_pos ((Reasons.isEmpty_iff _).mpr empty)]
      rfl
    exact congrArg Host.Outcome.next retry
  case opens =>
    have retry : weldRetryExpiry s = startOpening 3 s := by
      rw [weldRetryExpiry, if_pos ⟨active, welded, by simp [timerDue, due]⟩,
        if_neg (fun empty => occupied ((Reasons.isEmpty_iff _).mp empty))]
    exact congrArg Host.Outcome.next retry

/-! ### The coil's monitor (06 R108, R112, R115, R119) -/

theorem pulseCleared_of_clearance {s : State} (clearance : s.sss.phase = .clearance) : pulseCleared s =
    let quiet := s.setPins { s.pins with coilSense := false }
    if s.ps.power = .active then
      if s.sss.openNext then startOpening 3 quiet
      else quiet.setSss { s.sss with phase := .settle, phaseTimer := some s.params.settleMs, cutoff := none }
    else quiet.setSss s.sss.abandon :=
  if_pos clearance

theorem coilCutoff_of_due {s : State} (due : s.sss.cutoff = some 0)
    (flowing : s.sss.phase = .pulse ∨ s.sss.phase = .clearance) : coilCutoff s =
    raise (.contactorFault .driver s.sss.attempts s.pins.loadv s.sss.contactor.coil)
      ((s.setPins { s.pins with coilSense := true }).setSss
        { s.sss.endSequence with verified := .unknown, contactor := .fault .driver, coilEnable := false }) :=
  if_pos ⟨by simp [timerDue, due], flowing⟩

/-- Settles O55: each of the monitor's three events by its own condition. -/
theorem coilPulsesAreMonitored : Obligations.CoilPulsesAreMonitored := by
  intro s
  refine ⟨fun pulse ends => ?release, fun clearance => ?clearance, fun due flowing => ?cutoff⟩
  case release =>
    have occupied : (!s.sss.reasons.isEmpty) = decide (s.sss.reasons ≠ ⟨false, false, false, false, false⟩) := by
      rw [Bool.eq_iff_iff]
      simp [← Reasons.isEmpty_iff]
    have released : coilPulseEnd s = _ := if_pos ⟨pulse, by simp [timerDue, ends]⟩
    refine congrArg Host.Outcome.next (released.trans ?_)
    rw [occupied]
    simp only [beq_eq_decide, ← Bool.decide_and, and_assoc]
  case clearance =>
    refine ⟨fun active settles => ?_, fun active opens => ?_, fun inactive moving => ?_⟩ <;>
      refine congrArg Host.Outcome.next ((pulseCleared_of_clearance clearance).trans ?_)
    · simp [active, settles]
    · simp [active, opens, startOpening_eq]
    · rcases moving with e | e <;> simp [inactive, e, Sss.abandon, Sss.endSequence, Contactor.commandedEnd]
  case cutoff =>
    refine ⟨_, congrArg Host.Outcome.next (coilCutoff_of_due due flowing), by simp [Sss.endSequence],
      by simp [State.coilOpen, Sss.endSequence], by simp [State.coilClose, Sss.endSequence],
      fun room moving => ?_, by simp⟩
    have coil : s.sss.contactor.coil = if s.sss.contactor = .opening then .open else .close := by
      rcases moving with e | e <;> simp [e, Contactor.coil]
    rw [← coil]
    exact Hlc.join_queue _ _ room

end Sys2Proof.Machine
end

section
/-! The verification at the end of a settle (06 R108, R109, R111 to R114). -/

namespace Sys2Proof.Machine

/-- The state in which a settle's end verifies: the LOADV inputs read, the phase over (06 R108, R111). -/
def State.settled (s : State) (loadv : PerPhase Bool) : State :=
  (s.setPins { s.pins with loadv := loadv }).setSss { s.sss with phase := .idle, phaseTimer := none }

section
variable {s : State} (loadv : PerPhase Bool) (active : s.ps.power = .active) (settle : s.sss.phase = .settle)
  (due : s.sss.phaseTimer = some 0)
include active settle due

theorem settleEnd_of_opening (opening : s.sss.contactor = .opening) :
    settleEnd loadv s = verifyOpening (s.settled loadv) := by
  rw [settleEnd, if_pos ⟨active, settle, by simp [timerDue, due]⟩]
  exact if_pos opening

theorem settleEnd_of_closing (closing : s.sss.contactor = .closing) :
    settleEnd loadv s = verifyClosing (s.settled loadv) := by
  rw [settleEnd, if_pos ⟨active, settle, by simp [timerDue, due]⟩]
  exact (if_neg (by simp [closing])).trans (if_pos closing)

end

/-! ### Openings (06 R108, R109, R113) -/

section
variable {s : State}

theorem verifyOpening_of_load (load : anyLoad s.pins.loadv = true) :
    verifyOpening s = if s.sss.attempts < s.sss.pulseLimit then startPulse s else faultWelded s :=
  if_pos load

theorem verifyOpening_of_no_load (load : anyLoad s.pins.loadv = false) : verifyOpening s = openingDone s :=
  if_neg (by simp [load])

/-- The contacts are found open: the sequence is over, and the notice says so. -/
def State.foundOpen (s : State) : State :=
  raiseSupply (s.setSss { s.sss.endSequence with verified := .opened, contactor := .opened })

theorem openingDone_of_occupied (occupied : s.sss.reasons.isEmpty = false) : openingDone s = s.foundOpen :=
  if_neg (by simpa [Sss.endSequence] using occupied)

theorem openingDone_of_empty (empty : s.sss.reasons.isEmpty = true) : openingDone s = becomeArmed s.foundOpen :=
  if_pos (by simpa [Sss.endSequence] using empty)

/-! ### Closings (06 R111, R112, R114) -/

theorem verifyClosing_of_occupied (occupied : s.sss.reasons.isEmpty = false) : verifyClosing s = startOpening 3 s :=
  if_pos (by simp [occupied])

theorem verifyClosing_of_empty (empty : s.sss.reasons.isEmpty = true) : verifyClosing s =
    if !latestVerifiable s then closingDone .unknown s
    else if latestConfirms s then verifiedClose (closingDone .closed s)
    else if s.sss.attempts < 3 then startPulse s
    else faultNoClose s := by
  simp only [verifyClosing, closeAttempt, empty, Bool.not_true, Bool.false_eq_true, if_false, if_true]

/-- Without LOADV on some phase that the latest record verifies, the closing is not confirmed (06 R111). -/
theorem latest_unconfirmed {r : IntervalRecord} (latest : s.mli.latest = some r)
    (missing : ∃ p, s.params.vNom * 10 ≤ 2 * r.v.get p ∧ s.pins.loadv.get p = false) :
    latestVerifiable s = true ∧ latestConfirms s = false := by
  obtain ⟨p, verifiable, absent⟩ := missing
  refine ⟨?_, ?_⟩
  · simpa [latestVerifiable, latest, anyVerifiable_iff] using ⟨p, verifiable⟩
  · rw [Bool.eq_false_iff, latestConfirms, latest]
    intro confirms
    have present := (loadOnVerifiable_iff _ _ _).mp confirms p verifiable
    simp [absent] at present

end

section
variable {s : State} (loadv : PerPhase Bool) (active : s.ps.power = .active) (settle : s.sss.phase = .settle)
  (due : s.sss.phaseTimer = some 0)
include active settle due

/-- A settle's end in OPENING without load is the end of the opening. -/
theorem settleEnd_opened (opening : s.sss.contactor = .opening)
    (load : (loadv.p1 || loadv.p2 || loadv.p3) = false) : settleEnd loadv s = openingDone (s.settled loadv) :=
  (settleEnd_of_opening loadv active settle due opening).trans (verifyOpening_of_no_load load)

/-- A settle's end in CLOSING with the set empty goes by the latest record. -/
theorem settleEnd_closed (closing : s.sss.contactor = .closing)
    (empty : s.sss.reasons = ⟨false, false, false, false, false⟩) : settleEnd loadv s =
    if !latestVerifiable (s.settled loadv) then closingDone .unknown (s.settled loadv)
    else if latestConfirms (s.settled loadv) then verifiedClose (closingDone .closed (s.settled loadv))
    else if s.sss.attempts < 3 then startPulse (s.settled loadv)
    else faultNoClose (s.settled loadv) :=
  (settleEnd_of_closing loadv active settle due closing).trans
    (verifyClosing_of_empty ((Reasons.isEmpty_iff _).mpr empty))

end

/-- Settles O56: the opening by its load, the set and the origin; the closing by the set, the latest record, the load
and the attempts. -/
theorem settlesAreVerified : Obligations.SettlesAreVerified := by
  intro s loadv active settle due
  have next {t : State} (run : settleEnd loadv s = t) : exec (.settleEnd loadv) s = .next t :=
    congrArg Host.Outcome.next run
  have occupied' (h : s.sss.reasons ≠ ⟨false, false, false, false, false⟩) :
      (s.settled loadv).sss.reasons.isEmpty = false := by
    rwa [← Bool.not_eq_true, Reasons.isEmpty_iff]
  have empty' (h : s.sss.reasons = ⟨false, false, false, false, false⟩) :
      (s.settled loadv).sss.reasons.isEmpty = true := (Reasons.isEmpty_iff _).mpr h
  refine ⟨fun opening => ?_, fun closing => ?_⟩
  · have opened := settleEnd_opened loadv active settle due opening
    have loaded := settleEnd_of_opening loadv active settle due opening
    refine ⟨fun load occupied => next ?_, fun load empty origin => ?_, fun load empty origin => next ?_,
      fun load left => next ?_, fun load spent => next ?_⟩
    · exact (opened load).trans (openingDone_of_occupied (occupied' occupied))
    · have rests : closesAtOnce (s.settled loadv).foundOpen = false := by
        rw [Bool.eq_false_iff, ne_eq, closesAtOnce_iff]
        rcases origin with e | ⟨e, keyed⟩ <;> simp_all [State.foundOpen, State.settled, Sss.endSequence]
      have armed := (openingDone_of_empty (empty' empty)).trans (becomeArmed_of_rests rests)
      refine ⟨_, next ((opened load).trans armed), by simp [State.foundOpen, State.settled, Sss.endSequence],
        fun room => ?_, by simp [State.foundOpen, State.settled]⟩
      have told : (s.settled loadv).foundOpen.hlc.queue = s.hlc.queue ++ [⟨.supply .opened false, s.clock⟩] :=
        Hlc.join_queue _ _ (Nat.lt_succ_of_lt room)
      refine (Hlc.join_queue _ _ ?_).trans ?_
      · show (s.settled loadv).foundOpen.hlc.queue.length < 16
        rw [told, List.length_append]
        exact Nat.succ_lt_succ room
      · show (s.settled loadv).foundOpen.hlc.queue ++ _ = _
        rw [told, List.append_assoc]
        rfl
    · have closes : closesAtOnce (s.settled loadv).foundOpen = true := (closesAtOnce_iff _).mpr origin
      exact (opened load).trans ((openingDone_of_empty (empty' empty)).trans (becomeArmed_of_closes closes empty))
    · exact loaded.trans ((verifyOpening_of_load (s := s.settled loadv) load).trans (if_pos left))
    · exact loaded.trans ((verifyOpening_of_load (s := s.settled loadv) load).trans (if_neg (Nat.not_lt.mpr spent)))
  · have closed := settleEnd_closed loadv active settle due closing
    refine ⟨fun occupied => next ?_, fun empty => ⟨fun unread => next ?_, fun r latest => ⟨fun unverifiable => next ?_,
      fun verifiable present => next ?_, fun missing left => next ?_, fun missing spent => next ?_⟩⟩⟩
    · exact (settleEnd_of_closing loadv active settle due closing).trans
        (verifyClosing_of_occupied (occupied' occupied))
    · have unseen : latestVerifiable (s.settled loadv) = false := by simp [latestVerifiable, State.settled, unread]
      rw [closed empty, unseen]
      rfl
    · have unseen : latestVerifiable (s.settled loadv) = false := by
        rw [Bool.eq_false_iff]
        simpa [latestVerifiable, State.settled, latest, anyVerifiable_iff] using unverifiable
      rw [closed empty, unseen]
      rfl
    · have seen : latestVerifiable (s.settled loadv) = true := by
        simpa [latestVerifiable, State.settled, latest, anyVerifiable_iff] using verifiable
      have confirmed : latestConfirms (s.settled loadv) = true := by
        simpa [latestConfirms, State.settled, latest, loadOnVerifiable_iff] using present
      rw [closed empty, seen, confirmed]
      rfl
    · obtain ⟨seen, unconfirmed⟩ := latest_unconfirmed (s := s.settled loadv) latest missing
      rw [closed empty, seen, unconfirmed, if_pos left]
      rfl
    · obtain ⟨seen, unconfirmed⟩ := latest_unconfirmed (s := s.settled loadv) latest missing
      rw [closed empty, seen, unconfirmed, if_neg (Nat.not_lt.mpr spent)]
      rfl

end Sys2Proof.Machine
end

section
/-! The entries to HOLDUP and to DORMANT (10 R163, R166). -/

namespace Sys2Proof.Machine

section
variable {s : State}

/-- With a write under way a further one waits its turn (10 R166). -/
theorem startWrite_of_busy (occ : Occasion) (busy : s.ps.write ≠ none) :
    startWrite occ s = s.setPs { s.ps with nextWrites := s.ps.nextWrites ++ [occ] } :=
  if_pos (Option.isSome_iff_ne_none.mpr busy)

theorem startWrite_eq_beginWrite (occ : Occasion) (free : s.ps.write = none) : startWrite occ s = beginWrite occ s :=
  if_neg (by simp [free])

theorem enterHoldup_of_vback (vback : s.pins.vback = true) :
    enterHoldup s = startWrite .holdupEntry (departBlocks s) := if_pos vback

theorem enterHoldup_of_no_vback (vback : s.pins.vback = false) :
    enterHoldup s = enterDormant (startWrite .holdupEntry (departBlocks s)) := if_neg (by simp [vback])

/-- DORMANT asks for its own write behind one under way (10 R166). -/
theorem enterDormant_of_busy (busy : s.ps.write ≠ none) : enterDormant s = s.setPs { s.ps with
    power := .dormant, vmainTimer := waitForMains s.pins.vmain, sampleTimer := none, returnHeld := false
    nextWrites := s.ps.nextWrites ++ [.dormantEntry] } :=
  startWrite_of_busy (s := s.setPs _) .dormantEntry busy

theorem enterDormant_of_free (free : s.ps.write = none) : enterDormant s = beginWrite .dormantEntry (s.setPs { s.ps with
    power := .dormant, vmainTimer := waitForMains s.pins.vmain, sampleTimer := none, returnHeld := false }) :=
  startWrite_eq_beginWrite (s := s.setPs _) .dormantEntry free

/-- No request waits for its write: the entry to HOLDUP is made at once (10 R163, log 22). -/
theorem holdupEntry_of_unrequested (vback : Bool) (active : s.ps.power = .active) (due : s.ps.vmainTimer = some 0)
    (low : s.pins.vmain = false) (unrequested : ∀ r, s.hlc.slot ≠ .awaitingWrite r) :
    holdupEntry vback s = enterHoldup (s.setPins { s.pins with vback := vback }) := by
  rw [holdupEntry, if_pos ⟨active, by simp [timerDue, due], low⟩]
  cases slot : s.hlc.slot with
  | awaitingWrite r => exact absurd slot (unrequested r)
  | empty => rfl
  | periodicWrite => rfl
  | replyWaits r => rfl

/-- The write of the entry to HOLDUP begins with the state as it departs, and DORMANT's waits behind it. -/
theorem enterHoldup_ps_of_free (low : s.pins.vmain = false) (free : s.ps.write = none) :
    (enterHoldup s).ps = { s.ps with
      power := if s.pins.vback then .holdup else .dormant, entryTime := s.clock, periodic := none
      periodicWaits := false, vmainTimer := none, returnHeld := false, holdupHeld := false
      sampleTimer := if s.pins.vback then some 1000 else none
      write := some ⟨(departBlocks s).imageNow .holdupEntry, s.ps.target⟩, valid := false
      nextWrites := s.ps.nextWrites ++ if s.pins.vback then [] else [.dormantEntry] } := by
  have begun := startWrite_eq_beginWrite (s := departBlocks s) .holdupEntry free
  cases vback : s.pins.vback with
  | true =>
    rw [enterHoldup_of_vback vback, begun]
    simp [beginWrite, departBlocks, Ps.enterHoldup, waitForMains, low, secondsTimer, Ps.target, Ps.newest]
  | false =>
    rw [enterHoldup_of_no_vback vback, begun, enterDormant_of_busy (by simp [beginWrite])]
    simp [beginWrite, departBlocks, Ps.enterHoldup, waitForMains, low, Ps.target, Ps.newest]

/-- Behind a write under way both writes wait. -/
theorem enterHoldup_ps_of_busy (low : s.pins.vmain = false) (busy : s.ps.write ≠ none) :
    (enterHoldup s).ps = { s.ps with
      power := if s.pins.vback then .holdup else .dormant, entryTime := s.clock, periodic := none
      periodicWaits := false, vmainTimer := none, returnHeld := false, holdupHeld := false
      sampleTimer := if s.pins.vback then some 1000 else none
      nextWrites := s.ps.nextWrites ++ if s.pins.vback then [.holdupEntry] else [.holdupEntry, .dormantEntry] } := by
  have waits := startWrite_of_busy (s := departBlocks s) .holdupEntry busy
  cases vback : s.pins.vback with
  | true =>
    rw [enterHoldup_of_vback vback, waits]
    simp [departBlocks, Ps.enterHoldup, waitForMains, low, secondsTimer]
  | false =>
    rw [enterHoldup_of_no_vback vback, waits, enterDormant_of_busy (by exact busy)]
    simp [departBlocks, Ps.enterHoldup, waitForMains, low]

/-- What PS keeps and times after the entry, the write apart. -/
theorem enterHoldup_timers (low : s.pins.vmain = false) :
    (enterHoldup s).ps.power = (if s.pins.vback then .holdup else .dormant) ∧ (enterHoldup s).ps.entryTime = s.clock ∧
      (enterHoldup s).ps.periodic = none ∧ (enterHoldup s).ps.periodicWaits = false ∧
      (enterHoldup s).ps.vmainTimer = none ∧
      (enterHoldup s).ps.sampleTimer = (if s.pins.vback then some 1000 else none) := by
  by_cases free : s.ps.write = none
  · rw [enterHoldup_ps_of_free low free]
    exact ⟨rfl, rfl, rfl, rfl, rfl, rfl⟩
  · rw [enterHoldup_ps_of_busy low free]
    exact ⟨rfl, rfl, rfl, rfl, rfl, rfl⟩

/-- The entry to HOLDUP is the departure of every block; the rest is PS's own. -/
theorem enterHoldup_eq (s : State) : enterHoldup s = (departBlocks s).setPs (enterHoldup s).ps := by
  have wrote (occ : Occasion) (u : State) : startWrite occ u = u.setPs (startWrite occ u).ps := by
    by_cases free : u.ps.write = none
    · rw [startWrite_eq_beginWrite occ free]
      rfl
    · rw [startWrite_of_busy occ free]
      rfl
  cases vback : s.pins.vback with
  | true => rw [enterHoldup_of_vback vback, ← wrote]
  | false =>
    rw [enterHoldup_of_no_vback vback]
    refine (wrote _ _).trans ?_
    rw [wrote .holdupEntry (departBlocks s)]
    rfl

theorem Sss.enterHoldup_of_settle {x : Sss} (settle : x.phase = .settle) : x.enterHoldup = x.abandon := by
  rw [Sss.enterHoldup, settle]

theorem Sss.enterHoldup_of_not_settle {x : Sss} (other : x.phase ≠ .settle) :
    x.enterHoldup = { x with verified := .unknown } := by
  unfold Sss.enterHoldup
  cases phase : x.phase with
  | settle => exact absurd phase other
  | idle => rfl
  | pulse => rfl
  | clearance => rfl

end

/-- Settles O58, by the departure of the blocks and the two cases of the write. -/
theorem powerFailureKeepsTheState : Obligations.PowerFailureKeepsTheState := by
  intro s
  refine ⟨fun active due low vback => ⟨fun r waits => ?_, fun unrequested => ?_⟩, fun holdup unheld => ?_,
    fun other => ?_⟩
  · refine congrArg Host.Outcome.next ?_
    rw [holdupEntry, if_pos ⟨active, by simp [timerDue, due], low⟩, waits]
  · let u := s.setPins { s.pins with vback := vback }
    have run : exec (.holdupEntry vback) s = .next ((departBlocks u).setPs (enterHoldup u).ps) :=
      congrArg Host.Outcome.next
        ((holdupEntry_of_unrequested vback active due low unrequested).trans (enterHoldup_eq u))
    obtain ⟨power, entered, periodic, waits, vmain, sample⟩ := enterHoldup_timers (s := u) low
    refine ⟨_, run, power, entered, periodic, waits, vmain, sample, rfl, rfl, rfl, rfl, rfl, rfl, fun settle moving => ?_,
      fun other => Sss.enterHoldup_of_not_settle other, enterHoldup_reasons _, rfl, rfl, rfl, rfl, rfl, rfl,
      fun free => ?_, fun busy => ?_, rfl, rfl, rfl, rfl, rfl, rfl⟩
    · have abandoned : ((departBlocks u).setPs (enterHoldup u).ps).sss = s.sss.abandon :=
        Sss.enterHoldup_of_settle settle
      rw [abandoned]
      rcases moving with opening | closing
      · exact ⟨rfl, by simp [Sss.abandon, Contactor.commandedEnd, opening]⟩
      · exact ⟨rfl, by simp [Sss.abandon, Contactor.commandedEnd, closing]⟩
    · have ps := enterHoldup_ps_of_free (s := u) low free
      rw [State.setPs, ps]
      exact ⟨rfl, _, rfl, rfl, by simp [State.imageNow, State.snapshot, departBlocks, Ps.enterHoldup], rfl⟩
    · have ps := enterHoldup_ps_of_busy (s := u) low busy
      rw [State.setPs, ps]
      exact ⟨rfl, rfl⟩
  · have run : exec .dormantEntry s = .next (enterDormant (s.setPins { s.pins with vback := false })) :=
      congrArg Host.Outcome.next (if_pos ⟨holdup, unheld⟩)
    refine ⟨_, run, ?_⟩
    by_cases free : s.ps.write = none
    · rw [enterDormant_of_free (by exact free)]
      exact ⟨rfl, rfl, rfl, rfl, fun _ => ⟨_, rfl, rfl, rfl⟩, absurd free, rfl, rfl, rfl, rfl, rfl, rfl, rfl, rfl, rfl,
        rfl, rfl⟩
    · rw [enterDormant_of_busy (by exact free)]
      exact ⟨rfl, rfl, rfl, rfl, fun none => absurd none free, fun _ => ⟨rfl, rfl⟩, rfl, rfl, rfl, rfl, rfl, rfl, rfl,
        rfl, rfl, rfl, rfl⟩
  · exact congrArg Host.Outcome.next (if_neg (by simp [other]))

end Sys2Proof.Machine
end

section
/-! The supply switch at an entry to ACTIVE (06 R120): its own act by the set and the contactor, and where the whole
entry leaves the sequencer, whatever order the blocks act in (log 5). -/

namespace Sys2Proof.Machine

/-! ### The switch's own act -/

/-- The contactor is in a state from which a reason in the set opens it (06 R108, R113, R114). -/
def Sss.Closes (x : Sss) : Prop :=
  x.contactor = .closed ∨ x.contactor = .fault .welded ∨ x.contactor = .fault .noClose

section
variable {s : State}

theorem actOnEntry_of_closed_or_fault (rests : s.sss.Closes) :
    actOnEntry s = if s.sss.reasons.isEmpty then s else startOpening 3 s := by
  unfold actOnEntry
  rcases rests with h | h | h <;> rw [h]

theorem actOnEntry_of_opened (opened : s.sss.contactor = .opened) :
    actOnEntry s = if s.sss.reasons.isEmpty then becomeArmed s else s := by
  rw [actOnEntry, opened]

theorem actOnEntry_of_armed (armed : s.sss.contactor = .armed) :
    actOnEntry s = if s.sss.reasons.isEmpty then s else raiseSupply (s.setSss { s.sss with contactor := .opened }) := by
  rw [actOnEntry, armed]

/-- A sequence in progress and FAULT DRIVER are left alone (06 R115, R119). -/
theorem actOnEntry_of_busy
    (busy : s.sss.contactor = .opening ∨ s.sss.contactor = .closing ∨ s.sss.contactor = .fault .driver) :
    actOnEntry s = s := by
  unfold actOnEntry
  rcases busy with h | h | h <;> rw [h]

end

/-- The sequencer as an entry to ACTIVE finds it: the position is unknown (06 R120). -/
def Sss.entered (x : Sss) : Sss := { x with verified := .unknown }

section
variable {s : State}

/-- A reason in the set opens a closed contactor, and one in FAULT WELDED or FAULT NO_CLOSE (06 R108, R113, R114). -/
theorem enterActiveSss_of_occupied_closed (occupied : ¬s.sss.reasons.isEmpty = true) (closes : s.sss.Closes) :
    enterActiveSss s = startOpening 3 (s.setSss s.sss.entered) :=
  (actOnEntry_of_closed_or_fault (s := s.setSss s.sss.entered) closes).trans (if_neg occupied)

theorem enterActiveSss_of_occupied_armed (occupied : ¬s.sss.reasons.isEmpty = true) (armed : s.sss.contactor = .armed) :
    enterActiveSss s = raiseSupply (s.setSss { s.sss.entered with contactor := .opened }) :=
  (actOnEntry_of_armed (s := s.setSss s.sss.entered) armed).trans (if_neg occupied)

theorem enterActiveSss_of_occupied_opened (occupied : ¬s.sss.reasons.isEmpty = true)
    (opened : s.sss.contactor = .opened) : enterActiveSss s = s.setSss s.sss.entered :=
  (actOnEntry_of_opened (s := s.setSss s.sss.entered) opened).trans (if_neg occupied)

/-- An OPEN found with the set empty becomes ARMED, or closes, by its origin (06 R109). -/
theorem enterActiveSss_of_empty_opened (empty : s.sss.reasons.isEmpty = true) (opened : s.sss.contactor = .opened) :
    enterActiveSss s = becomeArmed (s.setSss s.sss.entered) :=
  (actOnEntry_of_opened (s := s.setSss s.sss.entered) opened).trans (if_pos empty)

theorem enterActiveSss_of_empty_rest (empty : s.sss.reasons.isEmpty = true)
    (rests : s.sss.Closes ∨ s.sss.contactor = .armed) : enterActiveSss s = s.setSss s.sss.entered := by
  rcases rests with closes | armed
  · exact (actOnEntry_of_closed_or_fault (s := s.setSss s.sss.entered) closes).trans (if_pos empty)
  · exact (actOnEntry_of_armed (s := s.setSss s.sss.entered) armed).trans (if_pos empty)

theorem enterActiveSss_of_busy
    (busy : s.sss.contactor = .opening ∨ s.sss.contactor = .closing ∨ s.sss.contactor = .fault .driver) :
    enterActiveSss s = s.setSss s.sss.entered :=
  actOnEntry_of_busy (s := s.setSss s.sss.entered) busy

end

/-! ### What the owners' requests keep -/

/-- An addition finds a sequence in progress, or FAULT DRIVER, and leaves it (06 R108, R115). -/
theorem actOnAddition_of_busy {s : State}
    (busy : s.sss.contactor = .opening ∨ s.sss.contactor = .closing ∨ s.sss.contactor = .fault .driver) :
    actOnAddition s = s := by
  unfold actOnAddition
  rcases busy with h | h | h <;> rw [h]

@[simp] theorem startClosing_verified (s : State) : (startClosing s).sss.verified = .unknown := by
  unfold startClosing closeAttempt startPulse
  split <;> simp [startOpening_eq]

@[simp] theorem startClosing_coilEnable (s : State) : (startClosing s).sss.coilEnable = s.sss.coilEnable := by
  unfold startClosing closeAttempt startPulse
  split <;> simp [startOpening_eq]

@[simp] theorem becomeArmed_verified (s : State) :
    (becomeArmed s).sss.verified = if closesAtOnce s then .unknown else s.sss.verified := by
  unfold becomeArmed
  dsimp only
  split <;> simp

@[simp] theorem becomeArmed_coilEnable (s : State) : (becomeArmed s).sss.coilEnable = s.sss.coilEnable := by
  unfold becomeArmed
  dsimp only
  split <;> simp

section
variable {P : Sss → Prop} {x y : Sss}

theorem Reasons.set_remote {r : Reason} (other : r ≠ .remote) (t : Reasons) (b : Bool) :
    (t.set r b).remote = t.remote := by
  cases r <;> simp_all [Reasons.set]

/-- A property of the sequencer that is about neither the set nor the origin is kept when the acts on the set keep
it. -/
theorem Asked.keeps_of_acts {remote : Prop} (asked : Asked remote x y)
    (set : ∀ x t o, P x → P { x with reasons := t, origin := o })
    (add : ∀ s, P s.sss → P (actOnAddition s).sss) (empty : ∀ s, P s.sss → P (actOnEmptied s).sss) (hx : P x) :
    P y := by
  refine asked.keeps (fun r s _ h => ?_) (fun r s _ h => ?_) hx
  · unfold addReason
    dsimp only
    (repeat' split)
    · exact h
    · exact add (s.setSss _) (set _ _ _ h)
    · exact set _ _ _ h
  · cases there : s.sss.reasons.get r with
    | false => rwa [removeReason_absent there]
    | true =>
      cases last : (s.sss.reasons.set r false).isEmpty with
      | false =>
        rw [removeReason_left there last]
        exact set _ _ s.sss.origin h
      | true =>
        rw [removeReason_last there last]
        split
        · exact empty (s.emptied r .ordinary) (set _ _ _ h)
        · exact set _ _ _ h

/-- While REMOTE is in the set the other owners' removals never empty it: an addition is the one act. -/
theorem Asked.keeps_of_remote (asked : Asked False x y)
    (set : ∀ x t o, P x → P { x with reasons := t, origin := o })
    (add : ∀ s, P s.sss → P (actOnAddition s).sss) (hx : x.reasons.remote = true ∧ P x) :
    y.reasons.remote = true ∧ P y := by
  refine asked.keeps (P := fun z => z.reasons.remote = true ∧ P z) (fun r s other h => ?_) (fun r s other h => ?_) hx
  · refine ⟨by rw [addReason_reasons, Reasons.set_remote other, h.1], ?_⟩
    unfold addReason
    dsimp only
    (repeat' split)
    · exact h.2
    · exact add (s.setSss _) (set _ _ _ h.2)
    · exact set _ _ _ h.2
  · refine ⟨by rw [removeReason_reasons, Reasons.set_remote other, h.1], ?_⟩
    cases there : s.sss.reasons.get r with
    | false => rw [removeReason_absent there]; exact h.2
    | true =>
      have left : (s.sss.reasons.set r false).isEmpty = false := by
        rw [← Bool.not_eq_true, Reasons.isEmpty_iff]
        intro empty
        have gone := Reasons.set_remote other s.sss.reasons false
        simp [empty, h.1] at gone
      rw [removeReason_left there left]
      exact set _ _ s.sss.origin h.2

theorem Asked.keeps_remote (asked : Asked False x y) : y.reasons.remote = x.reasons.remote :=
  asked.keeps (P := fun z => z.reasons.remote = x.reasons.remote)
    (fun r s other h => by rw [addReason_reasons, Reasons.set_remote other, h])
    (fun r s other h => by rw [removeReason_reasons, Reasons.set_remote other, h]) rfl

theorem Asked.keeps_unknown {remote : Prop} (asked : Asked remote x y) (unknown : x.verified = .unknown) :
    y.verified = .unknown := by
  refine asked.keeps_of_acts (P := fun z => z.verified = .unknown) (fun _ _ _ h => h) (fun s h => ?_) (fun s h => ?_)
    unknown
  · unfold actOnAddition
    split <;> simp [startOpening_eq, h]
  · unfold actOnEmptied
    (repeat' split) <;> simp [h]

theorem Asked.keeps_coilEnable {remote : Prop} (asked : Asked remote x y) : y.coilEnable = x.coilEnable := by
  refine asked.keeps_of_acts (P := fun z => z.coilEnable = x.coilEnable) (fun _ _ _ h => h) (fun s h => ?_)
    (fun s h => ?_) rfl
  · unfold actOnAddition
    split <;> simp [startOpening_eq, h]
  · unfold actOnEmptied
    (repeat' split) <;> simp [h]

end

/-! ### The order of the entry (06 R120, log 5) -/

/-- Every block acts once at an entry to ACTIVE. -/
theorem entryOrder_split (n : Nat) (a : EntryAction) :
    ∃ before after, entryOrder n = before ++ a :: after ∧ a ∉ before ∧ a ∉ after := by
  obtain ⟨before, after, split⟩ := List.append_of_mem (mem_entryOrder n a)
  have nodup : (entryOrder n).Nodup := (drawnOrder_perm _ _).nodup_iff.mpr (by decide)
  rw [split, List.nodup_middle, List.nodup_cons, List.mem_append, not_or] at nodup
  exact ⟨before, after, split, nodup.1⟩

section
variable {P Q : State → Prop} {a : EntryAction}

theorem entries_keep (keeps : ∀ b, b ≠ a → ∀ t, P t → P (b.run t)) {l : List EntryAction} (others : a ∉ l) {s : State}
    (hs : P s) : P (l.foldl (fun t b => b.run t) s) := by
  induction l generalizing s with
  | nil => exact hs
  | cons b rest ih =>
    rw [List.mem_cons, not_or] at others
    exact ih others.2 (keeps b (Ne.symm others.1) s hs)

/-- What holds until a block's act, what the act makes of it and what holds from then on. -/
theorem enterActive_by (a : EntryAction) (before : ∀ b, b ≠ a → ∀ t, P t → P (b.run t)) (acts : ∀ t, P t → Q (a.run t))
    (after : ∀ b, b ≠ a → ∀ t, Q t → Q (b.run t)) (draw : ∀ t, Q t → Q t.countDraw) {s : State}
    (hs : P (startActive s)) : Q (enterActive s) := by
  obtain ⟨first, last, order, notFirst, notLast⟩ := entryOrder_split s.free a
  refine draw _ ?_
  rw [order, List.foldl_append, List.foldl_cons]
  exact entries_keep after notLast (acts _ (entries_keep before notFirst hs))

end

/-- The other blocks reach the sequencer by requests for CREDIT and TAMPER alone. -/
theorem EntryAction_run_asked {b : EntryAction} (other : b ≠ .switch) (t : State) :
    Asked False t.sss (b.run t).sss := by
  cases b with
  | switch => exact absurd rfl other
  | calendarAndCredit => exact recompute_asked _ (evaluateCalendar_asked _ .refl)
  | limiterAndTamper => exact enterActiveTm_asked _ (by simp)

/-! ### Where the entry leaves the sequencer -/

/-- A first pulse of an opening of up to three is in progress. -/
def Sss.Opens (x : Sss) : Prop :=
  x.contactor = .opening ∧ x.phase = .pulse ∧ x.attempts = 1 ∧ x.pulseLimit = 3

theorem startOpening_opens (s : State) : (startOpening 3 s).sss.Opens := ⟨rfl, rfl, rfl, rfl⟩

section
variable {s : State}

theorem remote_not_empty (remote : s.sss.reasons.remote = true) : ¬s.sss.reasons.isEmpty = true := fun empty => by
  simp [(Reasons.isEmpty_iff _).mp empty] at remote

theorem enterActive_sss {P Q : Sss → Prop} (before : ∀ {x y}, Asked False x y → P x → P y)
    (acts : ∀ t : State, P t.sss → Q (enterActiveSss t).sss) (after : ∀ {x y}, Asked False x y → Q x → Q y)
    (hs : P s.sss.withCoilEnable) : Q (enterActive s).sss :=
  enterActive_by (P := fun t => P t.sss) (Q := fun t => Q t.sss) .switch
    (fun _ other t => before (EntryAction_run_asked other t)) acts
    (fun _ other t => after (EntryAction_run_asked other t)) (fun _ h => h) hs

/-- The position is unknown after every entry to ACTIVE (06 R120). -/
theorem enterActive_unknown (s : State) : (enterActive s).sss.verified = .unknown := by
  refine enterActive_sss (P := fun _ => True) (Q := fun x => x.verified = .unknown) (fun _ h => h) (fun t _ => ?_)
    (fun asked => asked.keeps_unknown) trivial
  unfold enterActiveSss actOnEntry
  (repeat' split) <;> simp [startOpening_eq]

theorem enterActive_coilEnable (s : State) :
    (enterActive s).sss.coilEnable = decide (s.sss.contactor ≠ .fault .driver) := by
  refine enterActive_sss (P := fun x => x.coilEnable = decide (s.sss.contactor ≠ .fault .driver))
    (Q := fun x => x.coilEnable = decide (s.sss.contactor ≠ .fault .driver))
    (fun asked h => asked.keeps_coilEnable.trans h) (fun t h => ?_) (fun asked h => asked.keeps_coilEnable.trans h) ?_
  · rw [← h]
    unfold enterActiveSss actOnEntry
    (repeat' split) <;> simp [startOpening_eq]
  · simp [Sss.withCoilEnable, bne, beq_eq_decide]

theorem enterActive_remote (s : State) : (enterActive s).sss.reasons.remote = s.sss.reasons.remote :=
  enterActive_sss (P := fun x => x.reasons.remote = s.sss.reasons.remote)
    (Q := fun x => x.reasons.remote = s.sss.reasons.remote)
    (fun asked h => asked.keeps_remote.trans h) (fun t h => by rw [enterActiveSss_reasons, h])
    (fun asked h => asked.keeps_remote.trans h) rfl

/-- With REMOTE in the set a closed contactor opens (06 R120). -/
theorem enterActive_opens (remote : s.sss.reasons.remote = true) (closes : s.sss.Closes) :
    (enterActive s).sss.Opens := by
  have opens : (enterActive s).sss.reasons.remote = true ∧ (enterActive s).sss.Opens := by
    refine enterActive_sss (P := fun x => x.reasons.remote = true ∧ (x.Closes ∨ x.Opens))
      (Q := fun x => x.reasons.remote = true ∧ x.Opens)
      (fun asked => asked.keeps_of_remote (P := fun x => x.Closes ∨ x.Opens) (fun _ _ _ h => h) fun t h => ?_)
      (fun t h => ?_) (fun asked => asked.keeps_of_remote (P := Sss.Opens) (fun _ _ _ h => h) fun t h => ?_)
      ⟨remote, .inl closes⟩
    · rcases h with (h | h | h) | h
      iterate 3 rw [actOnAddition, h]; exact .inr (startOpening_opens t)
      rw [actOnAddition_of_busy (.inl h.1)]; exact .inr h
    · refine ⟨by rw [enterActiveSss_reasons]; exact h.1, ?_⟩
      rcases h.2 with closes | opens
      · rw [enterActiveSss_of_occupied_closed (remote_not_empty h.1) closes]
        exact startOpening_opens _
      · rw [enterActiveSss_of_busy (.inl opens.1)]
        exact opens
    · rw [actOnAddition_of_busy (.inl h.1)]
      exact h
  exact opens.2

/-- With REMOTE in the set an open contactor is OPEN (06 R120). -/
theorem enterActive_opened (remote : s.sss.reasons.remote = true)
    (rests : s.sss.contactor = .opened ∨ s.sss.contactor = .armed) : (enterActive s).sss.contactor = .opened := by
  have opened : (enterActive s).sss.reasons.remote = true ∧ (enterActive s).sss.contactor = .opened := by
    refine enterActive_sss (P := fun x => x.reasons.remote = true ∧ (x.contactor = .opened ∨ x.contactor = .armed))
      (Q := fun x => x.reasons.remote = true ∧ x.contactor = .opened)
      (fun asked => asked.keeps_of_remote (P := fun x => x.contactor = .opened ∨ x.contactor = .armed)
        (fun _ _ _ h => h) fun t h => ?_) (fun t h => ?_)
      (fun asked => asked.keeps_of_remote (P := fun x => x.contactor = .opened)
        (fun _ _ _ h => h) fun t h => ?_) ⟨remote, rests⟩
    · unfold actOnAddition
      rcases h with h | h
      · rw [h]; exact .inl h
      · rw [h]; exact .inl (by simp)
    · have occupied := remote_not_empty h.1
      refine ⟨by rw [enterActiveSss_reasons]; exact h.1, ?_⟩
      rcases h.2 with opened | armed
      · rw [enterActiveSss_of_occupied_opened occupied opened]
        exact opened
      · rw [enterActiveSss_of_occupied_armed occupied armed]
        simp
    · rw [actOnAddition, h]
      exact h
  exact opened.2

/-- With REMOTE in the set a sequence in progress and FAULT DRIVER stay (06 R115, R119). -/
theorem enterActive_busy (remote : s.sss.reasons.remote = true)
    (busy : s.sss.contactor = .opening ∨ s.sss.contactor = .closing ∨ s.sss.contactor = .fault .driver) :
    (enterActive s).sss.contactor = s.sss.contactor ∧ (enterActive s).sss.phase = s.sss.phase := by
  have same : (enterActive s).sss.reasons.remote = true ∧
      (enterActive s).sss.contactor = s.sss.contactor ∧ (enterActive s).sss.phase = s.sss.phase := by
    have kept {x y : Sss} (asked : Asked False x y) := asked.keeps_of_remote
      (P := fun x => x.contactor = s.sss.contactor ∧ x.phase = s.sss.phase) (fun _ _ _ h => h) fun t h => by
        rw [actOnAddition_of_busy (h.1 ▸ busy)]
        exact h
    refine enterActive_sss (P := fun x => x.reasons.remote = true ∧ x.contactor = s.sss.contactor ∧ x.phase = s.sss.phase)
      (Q := fun x => x.reasons.remote = true ∧ x.contactor = s.sss.contactor ∧ x.phase = s.sss.phase)
      kept (fun t h => ?_) kept ⟨remote, rfl, rfl⟩
    rw [enterActiveSss_of_busy (h.2.1.symm ▸ busy)]
    exact h
  exact same.2

end

end Sys2Proof.Machine
end

section
/-! What an entry to ACTIVE does to the blocks besides the switch (10 R165): the links, the calendar and the ledger,
the tamper monitor, the limiter and the event queue. -/

namespace Sys2Proof.Machine

/-! ### One block's act -/

theorem EntryAction_run_calendar {b : EntryAction} (other : b ≠ .calendarAndCredit) (t : State) :
    (b.run t).be = t.be ∧ (b.run t).tc = t.tc ∧ (b.run t).acct = t.acct := by
  cases b with
  | calendarAndCredit => exact absurd rfl other
  | switch => simp [EntryAction.run, State.acct]
  | limiterAndTamper => simp [EntryAction.run, State.acct]

theorem EntryAction_run_tamper {b : EntryAction} (other : b ≠ .limiterAndTamper) (t : State) :
    (b.run t).tm = t.tm ∧ (b.run t).ll = t.ll := by
  cases b with
  | limiterAndTamper => exact absurd rfl other
  | switch => simp [EntryAction.run]
  | calendarAndCredit => simp [EntryAction.run]

theorem EntryAction_run_clock (b : EntryAction) (t : State) : (b.run t).clock = t.clock := by
  cases b with
  | calendarAndCredit => simp [EntryAction.run]
  | switch => simp [EntryAction.run, State.clock]
  | limiterAndTamper => simp [EntryAction.run, State.clock]

/-! ### The links, the calendar and the ledger -/

section
variable {s t : State}

theorem rolls_congr (tc : t.tc = s.tc) (params : t.params = s.params) : t.rolls = s.rolls := by
  rw [State.rolls, State.rolls, State.clock, State.clock, tc, params]

/-- The calendar an evaluation leaves is TC's own and the parameters' (03 R45). -/
theorem evaluateCalendar_tc_congr (tc : t.tc = s.tc) (params : t.params = s.params) :
    (evaluateCalendar t).tc = (evaluateCalendar s).tc := by
  rw [evaluateCalendar_tc, evaluateCalendar_tc, rolls_congr tc params, State.clock, State.clock, tc, params]

theorem evaluateCalendar_be_congr (be : t.be = s.be) (tc : t.tc = s.tc) (params : t.params = s.params) :
    (evaluateCalendar t).be = (evaluateCalendar s).be := by
  rw [evaluateCalendar_be, evaluateCalendar_be, rolls_congr tc params, be]

end

section
variable (s : State)

theorem enterActive_mli : (enterActive s).mli = s.mli.enterActive := by
  simp only [enterActive, State_countDraw_frame]
  exact foldl_keeps State.mli _ (fun t b => (EntryAction_run_frame b t).2.1) _ _

/-- TC evaluates once, CL recomputes once, and no other block changes what they hold (03 R53, 04 R76). -/
theorem enterActive_be_tc_acct : (enterActive s).be = (evaluateCalendar (startActive s)).be ∧
    (enterActive s).tc = (evaluateCalendar (startActive s)).tc ∧
    (enterActive s).acct = s.acct.settled s.params := by
  let u := startActive s
  refine enterActive_by (P := fun t => t.be = u.be ∧ t.tc = u.tc ∧ t.acct = u.acct ∧ t.params = u.params)
    (Q := fun t => t.be = (evaluateCalendar u).be ∧ t.tc = (evaluateCalendar u).tc ∧
      t.acct = u.acct.settled u.params)
    .calendarAndCredit (fun b other t h => ?_) (fun t h => ?_) (fun b other t h => ?_) (fun _ h => h)
    ⟨rfl, rfl, rfl, rfl⟩
  · rwa [(EntryAction_run_calendar other t).1, (EntryAction_run_calendar other t).2.1,
      (EntryAction_run_calendar other t).2.2, (EntryAction_run_frame b t).1]
  · obtain ⟨be, tc, acct, params⟩ := h
    simp only [EntryAction.run, recompute_acct, recompute_frame, evaluateCalendar_frame, evaluateCalendar_acct, acct,
      params]
    exact ⟨evaluateCalendar_be_congr be tc params, evaluateCalendar_tc_congr tc params, trivial⟩
  · rwa [(EntryAction_run_calendar other t).1, (EntryAction_run_calendar other t).2.1,
      (EntryAction_run_calendar other t).2.2]

theorem enterActive_tc : (enterActive s).tc = (evaluateCalendar s).tc :=
  (enterActive_be_tc_acct s).2.1.trans (evaluateCalendar_tc_congr (startActive_frame s).2.1 (startActive_frame s).1)

theorem enterActive_clock : (enterActive s).clock = s.clock := by
  rw [State.clock, enterActive_tc]
  exact evaluateCalendar_clock s

theorem enterActive_acct : (enterActive s).acct = s.acct.settled s.params := (enterActive_be_tc_acct s).2.2

/-- The whole entry moves no money, and its credit state is that of the account (04 R66, R67). -/
theorem enterActive_money : (enterActive s).acct.balance = s.acct.balance ∧ (enterActive s).acct.debt = s.acct.debt ∧
    (enterActive s).acct.residue = s.acct.residue ∧
    (enterActive s).acct.state = creditStateOf s.params (enterActive s).acct := by
  obtain ⟨balance, residue, debt⟩ := recompute_money .ordinary s
  rw [recompute_acct] at balance residue debt
  rw [enterActive_acct]
  exact ⟨balance, debt, residue, Account.settled_state _ _⟩

theorem enterActive_be : (enterActive s).be = (evaluateCalendar (startActive s)).be := (enterActive_be_tc_acct s).1

end

/-! ### The tamper monitor (08 R149) -/

theorem PerSensor.get_set {α : Type} (t : PerSensor α) (i j : Sensor) (x : α) :
    (t.set i x).get j = if j = i then x else t.get j := by
  cases i <;> cases j <;> simp [PerSensor.set, PerSensor.get]

theorem stateAtEntry_sensor (sensor : PerSensor Bool) (i : Sensor) (x : CondState) :
    stateAtEntry sensor (sensorCond i) x =
      if x = .active then .active else if sensor.get i then .pending else .idle := by
  cases i <;> rfl

section
variable (s : State)

theorem resumeInput_cond (i : Sensor) (k : CondId) : (resumeInput i s).cond k =
    if k = sensorCond i then { s.cond k with state := stateAtEntry s.pins.sensor k (s.cond k).state } else s.cond k := by
  have same (f : Filter) : (s.setFilter i f).cond = s.cond := rfl
  by_cases its : k = sensorCond i
  · subst its
    rw [if_pos rfl, stateAtEntry_sensor, resumeInput]
    cases held : s.cond (sensorCond i) with
    | mk state latch lastEnd ongoing =>
      cases state <;> cases s.pins.sensor.get i <;> simp [held, same]
  · rw [if_neg its, resumeInput]
    cases (s.cond (sensorCond i)).state <;> cases s.pins.sensor.get i <;> simp [its, same]

/-- A filter runs exactly where the input and the condition disagree. -/
theorem resumeInput_filters (i : Sensor) : (resumeInput i s).tm.filters = s.tm.filters.set i
    (if s.pins.sensor.get i = ((s.cond (sensorCond i)).state == .active) then .stopped else .timing (filterMs i)) := by
  have kept (u : State) (k : CondId) (x : CondState) : (u.setCondState k x).tm.filters = u.tm.filters := rfl
  have written (f : Filter) : (s.setFilter i f).tm.filters = s.tm.filters.set i f := rfl
  unfold resumeInput
  cases state : (s.cond (sensorCond i)).state <;> cases s.pins.sensor.get i <;> simp [state, kept, written]

theorem resumeInput_rest (i : Sensor) :
    (resumeInput i s).tm.hold = s.tm.hold ∧ (resumeInput i s).tm.probeSources = s.tm.probeSources := by
  unfold resumeInput
  dsimp only
  split <;> exact ⟨rfl, rfl⟩

theorem Cond.dropPending_eq (x : Cond) :
    x.dropPending = { x with state := if x.state = .active then .active else .idle } := by
  obtain ⟨state, latch, lastEnd, ongoing⟩ := x
  cases state <;> simp [Cond.dropPending]

end

theorem dropPendingRecords_sensor (t : PerCond Cond) (i : Sensor) :
    (dropPendingRecords t).get (sensorCond i) = t.get (sensorCond i) := by
  cases i <;> rfl

/-- The record-based conditions lose PENDING; LINKLOSS and PROBE keep their states (08 R149). -/
theorem dropPendingRecords_other {k : CondId} (other : ∀ i, k ≠ sensorCond i) (t : PerCond Cond)
    (sensor : PerSensor Bool) : (dropPendingRecords t).get k =
      { t.get k with state := stateAtEntry sensor k (t.get k).state } := by
  have dropped (x : Cond) := x.dropPending_eq
  cases k with
  | meterCase => exact absurd rfl (other .meterCase)
  | cover => exact absurd rfl (other .cover)
  | mag => exact absurd rfl (other .mag)
  | linkloss => rfl
  | probe => rfl
  | neutral => exact dropped _
  | vloss p => cases p <;> exact dropped _
  | reverse p => cases p <;> exact dropped _
  | bypass p => cases p <;> exact dropped _

/-- TM after an entry to ACTIVE from what it held: the conditions' states, the filters that the inputs call for, the
deemed hold and PROBE's sources as they were (08 R149). -/
structure Tm.Resumed (x y : Tm) (sensor : PerSensor Bool) : Prop where
  conds : ∀ k, y.conds.get k = { x.conds.get k with state := stateAtEntry sensor k (x.conds.get k).state }
  filters : ∀ i, y.filters.get i =
    if sensor.get i = ((x.conds.get (sensorCond i)).state == .active) then .stopped else .timing (filterMs i)
  hold : y.hold = x.hold
  probeSources : y.probeSources = x.probeSources

/-- The three inputs are resumed, each for its own condition. -/
def resumeInputs (s : State) : State := resumeInput .mag (resumeInput .cover (resumeInput .meterCase s))

theorem resumeInputs_cond_sensor (s : State) (i : Sensor) : (resumeInputs s).cond (sensorCond i) =
    { s.cond (sensorCond i) with
      state := stateAtEntry s.pins.sensor (sensorCond i) (s.cond (sensorCond i)).state } := by
  cases i <;> simp [resumeInputs, resumeInput_cond, sensorCond]

theorem resumeInputs_cond_other (s : State) {k : CondId} (other : ∀ i, k ≠ sensorCond i) :
    (resumeInputs s).cond k = s.cond k := by
  simp [resumeInputs, resumeInput_cond, other]

theorem resumeInputs_filters (s : State) (i : Sensor) : (resumeInputs s).tm.filters.get i =
    if s.pins.sensor.get i = ((s.cond (sensorCond i)).state == .active) then .stopped else .timing (filterMs i) := by
  cases i <;> simp [resumeInputs, resumeInput_filters, resumeInput_cond, PerSensor.get_set, sensorCond] <;> rfl

theorem enterActiveTm_resumed (s : State) : s.tm.Resumed (enterActiveTm s).tm s.pins.sensor := by
  let d := s.setTm { s.tm with conds := dropPendingRecords s.tm.conds }
  have sensors (i : Sensor) : d.cond (sensorCond i) = s.tm.conds.get (sensorCond i) :=
    dropPendingRecords_sensor s.tm.conds i
  have evaluated : (enterActiveTm s).tm = (evaluateTamper (resumeInputs d)).tm := rfl
  rw [evaluated, evaluateTamper_tm]
  refine ⟨fun k => ?_, fun i => ?_, ?_, ?_⟩
  · by_cases sensor : ∃ i, k = sensorCond i
    · obtain ⟨i, rfl⟩ := sensor
      exact sensors i ▸ resumeInputs_cond_sensor d i
    · have other (i : Sensor) : k ≠ sensorCond i := fun h => sensor ⟨i, h⟩
      exact (resumeInputs_cond_other d other).trans (dropPendingRecords_other other s.tm.conds s.pins.sensor)
  · exact sensors i ▸ resumeInputs_filters d i
  · simp [resumeInputs, resumeInput_rest, d]
  · simp [resumeInputs, resumeInput_rest, d]

/-- No other block reaches TM during an entry to ACTIVE. -/
theorem enterActive_resumed (s : State) : s.tm.Resumed (enterActive s).tm s.pins.sensor := by
  refine enterActive_by (P := fun t => t.tm = s.tm ∧ t.pins = s.pins)
    (Q := fun t => s.tm.Resumed t.tm s.pins.sensor) .limiterAndTamper (fun b other t h => ?_) (fun t h => ?_)
    (fun b other t h => ?_) (fun _ h => h) ⟨rfl, rfl⟩
  · rwa [(EntryAction_run_tamper other t).1, (EntryAction_run_frame b t).2.2.2.2.2.1]
  · have resumed := enterActiveTm_resumed (lapseTest t)
    simpa [EntryAction.run, h.1, h.2] using resumed
  · rwa [(EntryAction_run_tamper other t).1]

/-- LL's lapse test is its whole entry (07 R124). -/
theorem enterActive_ll (s : State) : (enterActive s).ll = (lapseTest s).ll := by
  have lapse {t : State} (ll : t.ll = s.ll) (clock : t.clock = s.clock) : (lapseTest t).ll = (lapseTest s).ll := by
    unfold lapseTest
    rw [ll, clock]
    split
    · rfl
    · exact ll
  refine enterActive_by (P := fun t => t.ll = s.ll ∧ t.clock = s.clock) (Q := fun t => t.ll = (lapseTest s).ll)
    .limiterAndTamper (fun b other t h => ?_) (fun t h => ?_) (fun b other t h => ?_) (fun _ h => h) ⟨rfl, rfl⟩
  · rwa [(EntryAction_run_tamper other t).2, EntryAction_run_clock]
  · simpa [EntryAction.run] using lapse h.1 h.2
  · rwa [(EntryAction_run_tamper other t).2]

end Sys2Proof.Machine
end

section
/-! The return of mains (10 R165, R169, R170): which return a command makes, and where a warm return, a restore and a
power-up without an image leave the part. -/

namespace Sys2Proof.Machine

/-! ### What an entry to ACTIVE keeps of BE and of the host link -/

section
variable (s : State)

/-- BE's runs and ticks begin afresh; what was billed stays (02 R32, R34, R36). -/
theorem enterActive_be_afresh :
    (enterActive s).be.reg.billedWh = s.be.reg.billedWh ∧ (enterActive s).be.bLast = s.be.bLast ∧
      (enterActive s).be.ticks = 0 ∧ (enterActive s).be.runs = Runs.zero ∧
      (enterActive s).be.tickTimer = if (s.cond .linkloss).state = .active then some 250 else none := by
  have timer : (startActive s).be.tickTimer = if (s.cond .linkloss).state = .active then some 250 else none := by
    simp [startActive, Be.enterActive]
  rw [enterActive_be, evaluateCalendar_be]
  split <;> exact ⟨rfl, rfl, rfl, rfl, timer⟩

/-- Without a valid clock the evaluation rolls no cycle and gives no band and no friendly state (03 R47, R50, R51). -/
theorem enterActive_of_invalid_clock (invalid : s.tc.clockValid = false) :
    (enterActive s).be.reg = s.be.reg ∧ (enterActive s).tc.sched = s.tc.sched ∧
      (enterActive s).tc.clockValid = false ∧ (enterActive s).tc.band = 0 ∧ (enterActive s).tc.friendly = false := by
  have rests : s.rolls = false := by simp [State.rolls, invalid]
  have rests' : (startActive s).rolls = false := by simp [State.rolls, invalid]
  rw [enterActive_be, evaluateCalendar_be, enterActive_tc, evaluateCalendar_tc, rests, rests']
  exact ⟨rfl, rfl, invalid, by simp [bandInForce, invalid], by simp [friendlyNow, invalid]⟩

/-- Notices leave the receiver. -/
theorem Noticed.keeps_rx {h h' : Hlc} (noticed : Noticed h h') : h'.rx = h.rx := by
  refine noticed.keeps (P := fun x => x.rx = h.rx) (fun x n hx => ?_) rfl
  unfold Hlc.join
  split <;> exact hx

end

/-! ### Which return a command makes -/

/-- A command that returns: RETURN_DECISION, a return held back, POWER_UP. -/
def State.Returns (s : State) (c : Instr) : Prop :=
  (c = .returnDecision ∧ s.ps.power = .holdup ∧ s.ps.vmainTimer = some 0 ∧ s.pins.vmain = true) ∨
  (c = .deferredReturn ∧ s.ps.power = .holdup ∧ s.ps.returnHeld = true) ∨
  (c = .powerUp ∧ (s.ps.power = .off ∨ s.ps.power = .dormant) ∧ s.ps.vmainTimer = some 0 ∧ s.pins.vmain = true)

section
variable {s : State} {c : Instr} (returns : s.Returns c)
include returns

theorem exec_of_held (decides : c = .returnDecision) (busy : s.ps.write ≠ none) :
    exec c s = .next (s.setPs { s.ps with vmainTimer := none, returnHeld := true }) := by
  subst decides
  obtain ⟨holdup, due, vmain⟩ : s.ps.power = .holdup ∧ s.ps.vmainTimer = some 0 ∧ s.pins.vmain = true := by
    simpa [State.Returns] using returns
  refine congrArg Host.Outcome.next ((if_pos ⟨holdup, by simp [timerDue, due], vmain⟩).trans ?_)
  exact if_pos (Option.isSome_iff_ne_none.mpr busy)

theorem exec_of_return (free : s.ps.write = none) (other : c ≠ .powerUp) : exec c s = .next (doReturn s) := by
  rcases returns with ⟨rfl, holdup, due, vmain⟩ | ⟨rfl, holdup, held⟩ | ⟨rfl, -⟩
  · refine congrArg Host.Outcome.next ((if_pos ⟨holdup, by simp [timerDue, due], vmain⟩).trans ?_)
    exact if_neg (by simp [free])
  · exact congrArg Host.Outcome.next (if_pos ⟨holdup, held, by simp [free]⟩)
  · exact absurd rfl other

theorem exec_of_warm (free : s.ps.write = none) (other : c ≠ .powerUp) (valid : s.ps.valid = true) :
    exec c s = .next (warmReturn s) := by
  rw [exec_of_return returns free other, doReturn, if_pos valid]

theorem exec_of_start (free : s.ps.write = none) (cold : c = .powerUp ∨ s.ps.valid = false) :
    exec c s = .next (startCore s) := by
  by_cases up : c = .powerUp
  · subst up
    obtain ⟨power, due, vmain⟩ : (s.ps.power = .off ∨ s.ps.power = .dormant) ∧ s.ps.vmainTimer = some 0 ∧
        s.pins.vmain = true := by simpa [State.Returns] using returns
    exact congrArg Host.Outcome.next (if_pos ⟨power, by simp [timerDue, due], vmain, by simp [free]⟩)
  · rw [exec_of_return returns free up, doReturn, if_neg (by simp [cold.resolve_left up])]

end

/-! ### The log and the conditions of a restore (08 R150) -/

theorem PerCond.get_map (f : Cond → Cond) (t : PerCond Cond) (k : CondId) :
    (PerCond.map f t).get k = f (t.get k) := by
  cases k with
  | vloss p => cases p <;> rfl
  | reverse p => cases p <;> rfl
  | bypass p => cases p <;> rfl
  | _ => rfl

theorem claimed_iff (conds : PerCond Cond) (n : Nat) : claimed conds n = true ↔
    ∃ k, (conds.get k).state = .active ∧ (conds.get k).ongoing = .serial n := by
  have every (k : CondId) : k ∈ allConds := by
    cases k with
    | vloss p => cases p <;> decide
    | reverse p => cases p <;> decide
    | bypass p => cases p <;> decide
    | _ => decide
  simp [claimed, List.any_eq_true, Cond.claims, every]

/-- A claimed record is still open after the unclaimed ones are closed exactly where it was before. -/
theorem query_closeUnclaimed_opened (t : Tl) {claims : Nat → Bool} {n : Nat} (claimed : claims n = true) (stop : Nat) :
    (t.closeUnclaimed claims stop).query n = .opened ↔ ∃ r ∈ t.records, r.serial = n ∧ r.stop = none := by
  rw [Tl.query_opened_iff]
  simp only [Tl.closeUnclaimed, List.mem_map, exists_exists_and_eq_and]
  refine exists_congr fun r => and_congr_right fun _ => ?_
  split
  · next unclaimed =>
    have other : r.serial ≠ n := fun same => by simp [same, claimed] at unclaimed
    simp [other]
  · rfl

section
variable {y : Cond}

/-- An ACTIVE condition of a restore whose record is not open in the log goes on without one. -/
theorem reconciled_of_lost {t : Tl} {n : Nat} (active : y.state = .active) (ongoing : y.ongoing = .serial n)
    (lost : t.query n ≠ .opened) : y.reconciled t = { y with ongoing := .unrecorded } := by
  unfold Cond.reconciled
  cases found : t.query n with
  | opened => exact absurd found lost
  | closed => simp [active, ongoing, found]
  | absent => simp [active, ongoing, found]

theorem reconciled_of_open {t : Tl} {n : Nat} (ongoing : y.ongoing = .serial n) (found : t.query n = .opened) :
    y.reconciled t = y := by
  unfold Cond.reconciled
  rw [ongoing]
  cases y.state <;> simp [found]

theorem reconciled_of_idle {t : Tl} (idle : y.state ≠ .active) : y.reconciled t = y := by
  unfold Cond.reconciled
  cases state : y.state with
  | active => exact absurd state idle
  | idle => rfl
  | pending => rfl

theorem reconciled_of_unnumbered {t : Tl} (unnumbered : ∀ n, y.ongoing ≠ .serial n) : y.reconciled t = y := by
  unfold Cond.reconciled
  cases ongoing : y.ongoing with
  | serial n => exact absurd ongoing (unnumbered n)
  | unrecorded => cases y.state <;> rfl
  | none => cases y.state <;> rfl

end

/-- The record a condition of an image goes on with: none where the log holds it open no more (08 R150). -/
def Cond.recordIn (y : Cond) (records : List TamperRecord) : Ongoing :=
  match y.ongoing with
  | .serial n =>
    if y.state = .active ∧ ∀ r ∈ records, r.serial = n → r.stop ≠ none then .unrecorded else .serial n
  | .unrecorded => .unrecorded
  | .none => .none

theorem Cond.recordIn_of_serial {y : Cond} {n : Nat} (ongoing : y.ongoing = .serial n) (records : List TamperRecord) :
    y.recordIn records =
      if y.state = .active ∧ ∀ r ∈ records, r.serial = n → r.stop ≠ none then .unrecorded else .serial n := by
  rw [Cond.recordIn, ongoing]

theorem Cond.recordIn_of_unnumbered {y : Cond} (unnumbered : ∀ n, y.ongoing ≠ .serial n)
    (records : List TamperRecord) : y.recordIn records = y.ongoing := by
  cases ongoing : y.ongoing with
  | serial n => exact absurd ongoing (unnumbered n)
  | unrecorded => rw [Cond.recordIn, ongoing]
  | none => rw [Cond.recordIn, ongoing]

/-- A condition of an image after the log has been asked for its record (08 R150). -/
theorem reconciled_cond (conds : PerCond Cond) (t : Tl) (stop : Nat) (k : CondId) :
    (conds.get k).reconciled (t.closeUnclaimed (claimed conds) stop) =
      { conds.get k with ongoing := (conds.get k).recordIn t.records } := by
  by_cases numbered : ∃ n, (conds.get k).ongoing = .serial n
  · obtain ⟨n, ongoing⟩ := numbered
    rw [Cond.recordIn_of_serial ongoing]
    by_cases active : (conds.get k).state = .active
    · have query := query_closeUnclaimed_opened t ((claimed_iff conds n).mpr ⟨k, active, ongoing⟩) stop
      by_cases lost : ∀ r ∈ t.records, r.serial = n → r.stop ≠ none
      · rw [if_pos ⟨active, lost⟩]
        refine reconciled_of_lost active ongoing fun found => ?_
        obtain ⟨r, mem, serial, opened⟩ := query.mp found
        exact lost r mem serial opened
      · rw [if_neg fun h => lost h.2, ← ongoing]
        refine reconciled_of_open ongoing (query.mpr ?_)
        simpa using lost
    · rw [if_neg fun h => active h.1, ← ongoing]
      exact reconciled_of_idle active
  · have unnumbered (n : Nat) : (conds.get k).ongoing ≠ .serial n := fun h => numbered ⟨n, h⟩
    rw [Cond.recordIn_of_unnumbered unnumbered]
    exact reconciled_of_unnumbered unnumbered

/-! ### A power-up without an image (10 R169) -/

theorem enterShelf_eq (s : State) : enterShelf s = { State.reset with
    tl := { s.tl with records := s.tl.records.map fun r => if r.stop = none then { r with stop := some 0 } else r }
    pins := s.pins, free := s.free, pending := s.pending
    ps := { State.reset.ps with slotA := s.ps.slotA, slotB := s.ps.slotB } } := by
  have log : s.tl.closeUnclaimed (fun _ => false) 0 =
      { s.tl with records := s.tl.records.map fun r => if r.stop = none then { r with stop := some 0 } else r } := by
    simp [Tl.closeUnclaimed]
  rw [enterShelf, log]
  rfl

end Sys2Proof.Machine
end

section
/-! The return of mains, continued: the warm return, the restore, and the statement. -/

namespace Sys2Proof.Machine

/-- The filters of a resumed TM with their times (08 R134). -/
theorem Tm.Resumed.timed {x y : Tm} {sensor : PerSensor Bool} (resumed : x.Resumed y sensor) (i : Sensor) :
    y.filters.get i = if sensor.get i = ((x.conds.get (sensorCond i)).state == .active) then .stopped
      else .timing (if i = .mag then 2000 else 500) := by
  rw [resumed.filters]
  cases i <;> rfl

/-! ### The warm return (10 R165) -/

/-- The state that a warm return enters ACTIVE with. -/
def State.warmed (s : State) : State := raise (.restoredWarm (s.clock - s.ps.entryTime))
  ((s.setPs { s.ps with
      power := .active, periodic := secondsTimer 3600, vmainTimer := none, sampleTimer := none, returnHeld := false }).setHlc
    { s.hlc with rx := none, slot := .empty, sending := none, waiting := none })

theorem warmReturn_eq (s : State) : warmReturn s = enterActive s.warmed := rfl

/-- The host link begins afresh, and RESTORED_WARM follows the notices that wait. -/
theorem warmReturn_hlc (s : State) :
    (warmReturn s).hlc.slot = .empty ∧ (warmReturn s).hlc.sending = none ∧ (warmReturn s).hlc.waiting = none ∧
      (warmReturn s).hlc.rx = none ∧
      (s.hlc.queue.length < 16 →
        s.hlc.queue ++ [⟨.restoredWarm (s.clock - s.ps.entryTime), s.clock⟩] <+: (warmReturn s).hlc.queue) := by
  have noticed := enterActive_noticed s.warmed (.refl _)
  have begun : Noticed { s.hlc with rx := none, slot := .empty, sending := none, waiting := none } (warmReturn s).hlc :=
    enterActive_noticed s.warmed (Noticed.join (.refl _) _)
  obtain ⟨slot, sending, waiting⟩ := begun.keeps_reply
  refine ⟨slot, sending, waiting, begun.keeps_rx, fun room => ?_⟩
  have told : s.warmed.hlc.queue = s.hlc.queue ++ [⟨.restoredWarm (s.clock - s.ps.entryTime), s.clock⟩] :=
    Hlc.join_queue _ _ room
  exact told ▸ noticed.queue_grows

/-! ### The restore (10 R170) -/

/-- The state that a restore enters ACTIVE with. -/
def State.restoredBy (s : State) (img : Image) : State :=
  raise (.restoredCold img.occasion img.generation) (reconcile (restoredState img.contents s))

theorem startCore_of_image {s : State} {place : StoreId} {img : Image} (newest : s.ps.newest = some (place, img)) :
    startCore s = enterActive (s.restoredBy img) := by
  rw [startCore, newest]
  rfl

theorem startCore_of_none {s : State} (newest : s.ps.newest = none) : startCore s = enterShelf s := by
  rw [startCore, newest]

section
variable (s : State) (img : Image)

/-- RESTORED_COLD is the first notice of the life after a restore (10 R170). -/
theorem restoredBy_head : (enterActive (s.restoredBy img)).hlc.queue.head? =
    some ⟨.restoredCold img.occasion img.generation, img.contents.sched.clock⟩ := by
  have told : (s.restoredBy img).hlc.queue =
    [⟨.restoredCold img.occasion img.generation, img.contents.sched.clock⟩] := rfl
  obtain ⟨later, queue⟩ := (enterActive_noticed (s.restoredBy img) (.refl _)).queue_grows
  rw [← queue, told]
  rfl

/-- A condition of the image goes on in its state, and without its record where the log has none open (08 R150). -/
theorem restoredBy_conds (k : CondId) : (s.restoredBy img).tm.conds.get k =
    { img.contents.conds.get k with ongoing := (img.contents.conds.get k).recordIn s.tl.records } :=
  (PerCond.get_map _ _ k).trans (reconciled_cond img.contents.conds s.tl img.contents.sched.clock k)

/-- The deemed hold of an image runs at full length (08 R150). -/
theorem restoredBy_hold : (s.restoredBy img).tm.hold =
    if img.contents.holdRunning then some (img.contents.params.deemedHoldMin * 60000) else none := by
  have restored : (s.restoredBy img).tm.hold =
    if img.contents.holdRunning then some (img.contents.params.deemedHoldMin * 60 * 1000) else none := rfl
  rw [restored, Nat.mul_assoc]

/-- A record of the log after a restore: closed at the image's clock where it is ongoing and no condition holds it. -/
theorem restoredBy_record {i : Nat} {r : TamperRecord} (there : s.tl.records[i]? = some r) :
    (s.restoredBy img).tl.records[i]? =
      some (if r.stop = none ∧ claimed img.contents.conds r.serial = false then
        { r with stop := some img.contents.sched.clock } else r) := by
  have log : (s.restoredBy img).tl.records = s.tl.records.map fun r =>
    if r.stop = none ∧ claimed img.contents.conds r.serial = false then
      { r with stop := some img.contents.sched.clock } else r := rfl
  rw [log, List.getElem?_map, there]
  rfl

/-- A contactor restored: FAULT DRIVER is OPEN (06 R120). -/
theorem restoredBy_contactor : (s.restoredBy img).sss.contactor = img.contents.contactor.restored := rfl

theorem restored_ne_driver (c : Contactor) : c.restored ≠ .fault .driver := by
  unfold Contactor.restored
  split
  · simp
  · next other => exact other

/-- LL after a restore: no temporary limit, and the reclose wait where OVERLOAD is in the image's set (07 R132). -/
theorem restoredBy_ll : (enterActive (s.restoredBy img)).ll.tempLimit = 0 ∧
    (enterActive (s.restoredBy img)).ll.reclose = if img.contents.reasons.overload then .wait else .rest := by
  have restored : (s.restoredBy img).ll = Ll.restored img.contents := rfl
  have fresh : (Ll.restored img.contents).tempLimit = 0 ∧
      (Ll.restored img.contents).reclose = if img.contents.reasons.overload then .wait else .rest := by
    unfold Ll.restored
    split <;> exact ⟨rfl, rfl⟩
  rw [enterActive_ll, lapseTest, State.setLl, restored]
  by_cases lapsed : (Ll.restored img.contents).tempExpiry ≤ (s.restoredBy img).clock
  · rw [if_pos lapsed]
    exact ⟨rfl, fresh.2⟩
  · rw [if_neg lapsed, restored]
    exact fresh

/-- An image with REMOTE in its set opens, whatever contactor state it holds (06 R120). -/
theorem restoredBy_switch (remote : img.contents.reasons.remote = true) :
    (img.contents.contactor = .closed ∨ img.contents.contactor = .fault .welded ∨
        img.contents.contactor = .fault .noClose → (enterActive (s.restoredBy img)).sss.Opens) ∧
      (img.contents.contactor = .opened ∨ img.contents.contactor = .armed ∨ img.contents.contactor = .fault .driver →
        (enterActive (s.restoredBy img)).sss.contactor = .opened) := by
  have restored := restoredBy_contactor s img
  refine ⟨fun closes => enterActive_opens (s := s.restoredBy img) remote ?_,
    fun rests => enterActive_opened (s := s.restoredBy img) remote ?_⟩
  · rw [Sss.Closes, restored]
    rcases closes with h | h | h <;> simp [h, Contactor.restored]
  · rw [restored]
    rcases rests with h | h | h <;> simp [h, Contactor.restored]

end

/-- Settles O59: the case of the command, then each block's part of the entry to ACTIVE. -/
theorem mainsReturnIsWarmColdOrShelf : Obligations.MainsReturnIsWarmColdOrShelf := by
  refine ⟨fun s c => ?_, fun s => ?_⟩
  case refine_2 =>
    intro none? entry pulse told
    refine ⟨fun occupied => ?_, fun empty => ?_, fun busy => enterActiveSss_of_busy busy⟩
    · have left : ¬s.sss.reasons.isEmpty = true := fun h => occupied ((Reasons.isEmpty_iff _).mp h)
      exact ⟨fun closes => enterActiveSss_of_occupied_closed left closes,
        fun armed => enterActiveSss_of_occupied_armed left armed,
        fun opened => enterActiveSss_of_occupied_opened left opened⟩
    · have gone : s.sss.reasons.isEmpty = true := (Reasons.isEmpty_iff _).mpr empty
      refine ⟨fun opened origin => ?_, fun opened origin => ?_, fun rests => ?_⟩
      · have rests : closesAtOnce (s.setSss s.sss.entered) = false := by
          rw [Bool.eq_false_iff, ne_eq, closesAtOnce_iff]
          rcases origin with ordinary | ⟨reclose, keyed⟩
          · simp [Sss.entered, ordinary]
          · simp [Sss.entered, reclose, keyed]
        exact (enterActiveSss_of_empty_opened gone opened).trans (becomeArmed_of_rests rests)
      · exact (enterActiveSss_of_empty_opened gone opened).trans
          (becomeArmed_of_closes (s := s.setSss s.sss.entered) ((closesAtOnce_iff _).mpr origin) empty)
      · refine enterActiveSss_of_empty_rest gone ?_
        rcases rests with closed | armed | fault
        · exact .inl (.inl closed)
        · exact .inr armed
        · exact .inl (.inr fault)
  intro opens filtered returns
  refine ⟨exec_of_held returns, fun free other valid => ?_, fun free cold => ⟨fun place img newest => ?_, fun newest => ?_⟩⟩
  · refine ⟨_, exec_of_warm returns free other valid, ?_⟩
    let u := s.warmed
    have ps : (warmReturn s).ps = u.ps := (enterActive_frame u).2.2.2.1
    obtain ⟨billed, bLast, ticks, runs, tick⟩ := enterActive_be_afresh u
    obtain ⟨balance, debt, -, state⟩ := enterActive_money u
    obtain ⟨slot, sending, waiting, rx, queue⟩ := warmReturn_hlc s
    have resumed := enterActive_resumed u
    obtain ⟨params, ce, tl, pins⟩ := warmReturn_frame s
    refine ⟨by rw [ps]; rfl, by rw [ps]; rfl, enterActive_mli u, billed, bLast, ticks, runs, tick, enterActive_clock u,
      ?_, balance, debt, state, enterActive_unknown u, enterActive_coilEnable u, slot, sending, waiting, rx, queue,
      resumed.conds, resumed.timed, resumed.hold, resumed.probeSources,
      fun remote => ⟨enterActive_opens (s := u) remote, enterActive_opened (s := u) remote,
        enterActive_busy (s := u) remote⟩, params, ce, tl, pins.1⟩
    rw [warmReturn_eq, enterActive_tc, evaluateCalendar_tc]
    rfl
  · intro x
    let u := s.restoredBy img
    refine ⟨enterActive u, (exec_of_start returns free cold).trans
      (congrArg Host.Outcome.next (startCore_of_image newest)), ?_⟩
    obtain ⟨params, ce, tl, ps, pins, -⟩ := enterActive_frame u
    obtain ⟨reg, sched, clockValid, band, friendly⟩ := enterActive_of_invalid_clock u rfl
    obtain ⟨-, bLast, -⟩ := enterActive_be_afresh u
    obtain ⟨balance, debt, residue, state⟩ := enterActive_money u
    have resumed := enterActive_resumed u
    obtain ⟨tempLimit, reclose⟩ := restoredBy_ll s img
    refine ⟨by rw [ps]; rfl, by rw [ps]; rfl, params, by rw [ce]; rfl, by rw [ce]; rfl, fun src => ?_, reg, bLast,
      by rw [enterActive_mli]; rfl, enterActive_clock u, sched, clockValid, band, friendly, balance, debt, residue, state,
      enterActive_unknown u, ?_, enterActive_remote u, tempLimit, reclose, restoredBy_head s img, by rw [ps]; rfl,
      by rw [ps]; rfl, fun k => ?_, fun i => ?_, resumed.probeSources, ?_, ?_, fun i r there => ⟨fun opened loose => ?_,
      fun kept => ?_⟩, by rw [tl]; rfl, by rw [tl]; rfl, restoredBy_switch s img, pins⟩
    · rw [ce]
      cases src <;> rfl
    · rw [enterActive_coilEnable]
      exact decide_eq_true (restored_ne_driver _)
    · rw [State.cond, resumed.conds, restoredBy_conds]
      rfl
    · rw [resumed.timed, restoredBy_conds]
      rfl
    · rw [resumed.hold, restoredBy_hold]
    · rw [tl]
      exact List.length_map _
    · rw [tl, restoredBy_record s img there]
      rw [if_pos ⟨opened, Bool.eq_false_iff.mpr fun held => loose ((claimed_iff _ _).mp held)⟩]
    · rw [tl, restoredBy_record s img there, if_neg]
      rintro ⟨opened, unclaimed⟩
      rcases kept with closed | held
      · exact closed opened
      · exact Bool.false_ne_true (unclaimed.symm.trans ((claimed_iff _ _).mpr held))
  · exact (exec_of_start returns free cold).trans
      (congrArg Host.Outcome.next ((startCore_of_none newest).trans (enterShelf_eq s)))

end Sys2Proof.Machine
end

section
/-! The limiter's answer to a record's billed power (07 R123 to R127). -/

namespace Sys2Proof.Machine

/-! ### An addition in CLOSED (06 R106, R108) -/

section
variable {r : Reason} {s : State} (closed : s.sss.contactor = .closed)
include closed

theorem actOnAddition_of_closed : actOnAddition s = startOpening 3 s := by
  unfold actOnAddition
  rw [closed]

/-- Its opening reports no SUPPLY: the notice comes when the sequence ends. -/
theorem addReason_hlc_of_closed : (addReason r s).hlc = s.hlc := by
  unfold addReason
  dsimp only
  split
  · rfl
  split
  · rw [actOnAddition_of_closed (by exact closed)]
    simp
  · rfl

theorem addReason_of_closed (active : s.ps.power = .active) (absent : s.sss.reasons.get r = false) :
    addReason r s =
      startOpening 3 (s.setSss { s.sss with reasons := s.sss.reasons.set r true, origin := .ordinary }) := by
  rw [addReason, if_neg (by simp [absent]), if_pos active]
  exact actOnAddition_of_closed (by exact closed)

end

/-! ### The trip (07 R127) -/

@[simp] theorem trip_reasons (s : State) : (trip s).sss.reasons = { s.sss.reasons with overload := true } := by
  simp [trip, Reasons.set]

/-- The addition behind a trip is made in CLOSED, so the trip's own notice is the only one. -/
theorem trip_queue {s : State} (closed : s.sss.contactor = .closed) (room : s.hlc.queue.length < 16) :
    (trip s).hlc.queue = s.hlc.queue ++ [⟨.overload false s.limit s.ll.recloseCount, s.clock⟩] := by
  have joined : (trip s).hlc = s.hlc.join ⟨.overload false s.limit s.ll.recloseCount, s.clock⟩ := by
    simp [trip, raise, raiseAt, State.limit, State.clock, addReason_hlc_of_closed, closed]
  rw [joined, Hlc.join_queue _ _ room]

theorem trip_opens {s : State} (closed : s.sss.contactor = .closed) (active : s.ps.power = .active)
    (absent : s.sss.reasons.overload = false) :
    (trip s).sss.contactor = .opening ∧ (trip s).sss.phase = .pulse ∧ (trip s).sss.attempts = 1 := by
  simp [trip, addReason_of_closed, closed, active, absent, Reasons.get, startOpening_eq]

/-! ### The comparison with the limit in force (07 R123, R125) -/

section
variable {power : Nat} {s : State}

theorem compareLoad_of_within (within : s.limit = 0 ∨ power ≤ s.limit) :
    compareLoad power s = s.setLl { s.ll with overload := 0 } :=
  if_neg (by omega)

variable (limited : s.limit ≠ 0) (above : s.limit < power)
include limited above

theorem compareLoad_of_counted (short : s.ll.overload + 1 < s.params.olRecords) :
    compareLoad power s = s.setLl { s.ll with overload := s.ll.overload + 1 } := by
  rw [compareLoad, if_pos ⟨limited, above⟩]
  exact if_neg (by omega)

theorem compareLoad_of_trip (full : s.params.olRecords ≤ s.ll.overload + 1) :
    compareLoad power s = trip (s.setLl { s.ll with overload := s.ll.overload + 1 }) := by
  rw [compareLoad, if_pos ⟨limited, above⟩]
  exact if_pos full

end

/-! ### The offer (07 R124, R125) -/

theorem lapseTest_eq (s : State) : lapseTest s =
    s.setLl { s.ll with tempLimit := if s.ll.tempExpiry ≤ s.clock then 0 else s.ll.tempLimit } := by
  unfold lapseTest
  split <;> rfl

theorem offerLoad_of_closed {s : State} (power : Nat) (closed : s.sss.contactor = .closed) :
    offerLoad power s = watchLoad power (lapseTest s) :=
  if_pos (by simpa using closed)

theorem offerLoad_of_not_closed {s : State} (power : Nat) (elsewhere : s.sss.contactor ≠ .closed) :
    offerLoad power s =
      (lapseTest s).setLl { (lapseTest s).ll with watch := .off, overload := 0, window := none } :=
  if_neg (by simpa using elsewhere)

/-- Settles O47: the offer is the lapse test followed by the act of the watch's state, and the comparison's trip is one
addition of OVERLOAD and one notice. -/
theorem limiterTripsAtTheEndOfTheRun : Obligations.LimiterTripsAtTheEndOfTheRun := by
  intro s power temp limit ll
  have lapse : lapseTest s = s.setLl ll := lapseTest_eq s
  refine ⟨fun elsewhere => ?elsewhere, fun closed => ?closed⟩
  case elsewhere =>
    rw [offerLoad_of_not_closed power elsewhere, lapse]
    rfl
  case closed =>
    rw [offerLoad_of_closed power closed, lapse]
    refine ⟨fun off => ?off, fun blanking => ?blanking, fun watching => ?watching⟩
    case off => simp only [watchLoad, State.setLl_ll, off]
    case blanking =>
      have ended : ll.blanking - 1 = 0 ↔ ll.blanking ≤ 1 := by omega
      simp only [watchLoad, State.setLl_ll, blanking, ended]
      rfl
    case watching =>
      have compared : watchLoad power (s.setLl ll) = compareLoad power (s.setLl ll) := by
        simp only [watchLoad, State.setLl_ll, watching]
      rw [compared]
      refine ⟨fun within => compareLoad_of_within within,
        fun limited above short => compareLoad_of_counted limited above short, fun limited above full => ?_⟩
      rw [compareLoad_of_trip (s := s.setLl ll) limited above full]
      exact ⟨trip_ll _, trip_reasons _, fun absent active => trip_opens closed active absent,
        fun room => trip_queue closed room, by simp⟩

end Sys2Proof.Machine
end

section
/-! What a start and an end leave of TM's filters and deemed hold, of the event queue and of the contactor
(08 R135, R140, R141, R143, 09 R154, 12 R182). -/

namespace Sys2Proof.Machine

/-! ### Filters and the deemed hold -/

theorem startEffect_tm (c : CondId) (s : State) :
    (startEffect c s).tm = { s.tm with hold := if c = .mag then none else s.tm.hold } := by
  cases c <;> simp [startEffect]

theorem endEffect_tm (c : CondId) (s : State) : (endEffect c s).tm = { s.tm with
    hold := if c = .mag then
        if s.params.deemedHoldMin = 0 then none else secondsTimer (s.params.deemedHoldMin * 60)
      else s.tm.hold } := by
  cases c <;> simp [endEffect]

/-- A sensor condition's start leaves the filters, and that of MAG stops the deemed hold (08 R135). -/
theorem startCond_timers (i : Sensor) (measure : Option Int) (s : State) :
    (startCond (sensorCond i) measure s).tm.filters = s.tm.filters ∧
    (i = .mag → (startCond (sensorCond i) measure s).tm.hold = none) ∧
    (i ≠ .mag → (startCond (sensorCond i) measure s).tm.hold = s.tm.hold) := by
  cases i <;> simp [startCond, evaluateTamper_tm, State.setCond, startEffect_tm, sensorCond]

/-- A sensor condition's end leaves the filters, and that of MAG loads the deemed hold (08 R135). -/
theorem endCond_timers (i : Sensor) (s : State) :
    (endCond (sensorCond i) s).tm.filters = s.tm.filters ∧
    (i = .mag → (endCond (sensorCond i) s).tm.hold =
      if s.params.deemedHoldMin = 0 then none else some (s.params.deemedHoldMin * 60000)) ∧
    (i ≠ .mag → (endCond (sensorCond i) s).tm.hold = s.tm.hold) := by
  cases i <;> simp [endCond, evaluateTamper_tm, State.setCond, endEffect_tm, sensorCond, secondsTimer, Nat.mul_assoc]

theorem sensorCond_injective {i j : Sensor} (h : sensorCond i = sensorCond j) : i = j := by
  cases i <;> cases j <;> simp_all [sensorCond]

/-- Of the conditions, LINKLOSS alone reaches BE (02 R32). -/
@[simp] theorem startCond_be_sensor (i : Sensor) (measure : Option Int) (s : State) :
    (startCond (sensorCond i) measure s).be = s.be := by
  rw [startCond_be]; cases i <;> rfl

@[simp] theorem endCond_be_sensor (i : Sensor) (s : State) : (endCond (sensorCond i) s).be = s.be := by
  rw [endCond_be]; cases i <;> rfl

/-! ### Notices (12 R182) -/

/-- Notices have joined in their order, in front of any others, or a full queue has dropped them all. -/
def Told (l : List Notice) (h h' : Hlc) : Prop :=
  ((h.queue ++ l).length ≤ 16 → h.queue ++ l <+: h'.queue) ∧
    (16 ≤ h.queue.length → h'.queue = h.queue ∧ h'.overflow = true)

theorem Noticed.told {l : List Notice} (nonempty : l ≠ []) {h h' : Hlc} (hn : Noticed (l.foldl Hlc.join h) h') :
    Told l h h' := by
  refine ⟨fun room => ?_, fun full => ?_⟩
  · rw [← (joinAll_of_room l h room).1]
    exact hn.queue_grows
  · obtain ⟨kept, overflow⟩ := joinAll_of_full l h full
    have later := hn.full (by rwa [kept]) (by simpa [overflow] using .inr nonempty)
    rwa [kept] at later

/-- The notice of a log that a start is the first to find full (09 R154). -/
def fullNotice (c : CondId) (s : State) : List Notice :=
  if s.tl.isFull && !s.tl.fullNoticed then [⟨.logFull c, s.clock⟩] else []

theorem Tl.hasRoom_eq_false_iff (x : Tl) : x.hasRoom = false ↔ 64 ≤ x.records.length ∨ x.usedUp = true := by
  simp [Tl.hasRoom, imp_iff_not_or]

theorem Tl.isFull_iff (x : Tl) : x.isFull = true ↔ 64 ≤ x.records.length := by simp [Tl.isFull]

theorem Tl.isFull_eq_false_iff (x : Tl) : x.isFull = false ↔ x.records.length < 64 := by simp [Tl.isFull]

/-- A log with room is not full. -/
theorem Tl.isFull_of_hasRoom {x : Tl} (room : x.hasRoom = true) : x.isFull = false :=
  x.isFull_eq_false_iff.mpr (x.hasRoom_iff.mp room).1

theorem logOpen_hlc (c : CondId) (inHoldup : Bool) (actions : Actions) (measure : Option Int) (s : State) :
    (logOpen c inHoldup actions measure s).1.hlc = (fullNotice c s).foldl Hlc.join s.hlc := by
  cases room : s.tl.hasRoom with
  | true => simp [logOpen, fullNotice, room, Tl.isFull_of_hasRoom room]
  | false =>
    simp only [logOpen, fullNotice, room]
    cases s.tl.isFull && !s.tl.fullNoticed <;> rfl

/-- A start tells of a full log and then of itself, before any other notice of its own (log 7). -/
theorem startCond_told (c : CondId) (measure : Option Int) (s : State) :
    Told (fullNotice c s ++
      [⟨.tamperStart c (if s.tl.hasRoom then .serial s.tl.nextSerial else .unrecorded), s.clock⟩])
      s.hlc (startCond c measure s).hlc := by
  refine Noticed.told (by simp) (evaluateTamper_noticed _ ?_)
  simp [raise, raiseAt, logOpen_answer, logOpen_hlc, fullNotice, State.clock]

/-- An end tells of itself before any other notice of its own (log 7). -/
theorem endCond_told (c : CondId) (s : State) :
    Told [⟨.tamperEnd c (s.cond c).ongoing, s.clock⟩] s.hlc (endCond c s).hlc := by
  refine Noticed.told (by simp) (evaluateTamper_noticed _ ?_)
  simp [raise, raiseAt, State.clock]

/-! ### The reason TAMPER (08 R143) -/

/-- An evaluation that first finds TAMPER asked for adds it, and closed contacts open for it (06 R106, R108). -/
theorem evaluateTamper_opens {s : State} (asked : anyInForceWith s opensIn = true) (free : s.tm.tamperHeld = false)
    (active : s.ps.power = .active) (absent : s.sss.reasons.tamper = false) (closed : s.sss.contactor = .closed) :
    (evaluateTamper s).sss.contactor = .opening ∧ (evaluateTamper s).sss.phase = .pulse := by
  have flagged : anyInForceWith (setFlags s) opensIn = true := asked
  have unheld : (setFlags s).tm.tamperHeld = false := free
  have adds : evaluateTamper s =
      addReason .tamper ((setFlags s).setTm { (setFlags s).tm with tamperHeld := true }) := by
    simp [evaluateTamper, holdTamper, flagged, unheld]
  rw [adds, addReason_of_closed (by simpa using closed) (by simpa using active)
    (by simpa [Reasons.get] using absent)]
  exact ⟨rfl, rfl⟩

/-- What a start evaluates has the switch, the power state and the hold of TAMPER that the start found. -/
theorem recorded_kept (c : CondId) (measure : Option Int) (s : State) :
    (recorded c measure s).sss = s.sss ∧ (recorded c measure s).ps = s.ps ∧
    (recorded c measure s).params = s.params ∧ (recorded c measure s).tm.tamperHeld = s.tm.tamperHeld := by
  simp [recorded, starting, State.setCond, startEffect_tm]

/-- A start with OPEN in its setting adds TAMPER where TM does not hold it, and closed contacts open (08 R143). -/
theorem startCond_opens {c : CondId} {s : State} (measure : Option Int) (active : s.ps.power = .active)
    (opens : opensIn (s.params.actions.get c.kind) = true) (free : s.tm.tamperHeld = false) :
    (startCond c measure s).sss.reasons = { s.sss.reasons with tamper := true } ∧
    (s.sss.reasons.tamper = false → s.sss.contactor = .closed →
      (startCond c measure s).sss.contactor = .opening ∧ (startCond c measure s).sss.phase = .pulse) := by
  obtain ⟨sss, ps, params, held⟩ := recorded_kept c measure s
  have asked : anyInForceWith (recorded c measure s) opensIn = true :=
    anyInForceWith_of_active _ c _ (by simp [recorded_cond]) (by rw [params]; exact opens)
  rw [startCond_eq, ← sss]
  refine ⟨?_, evaluateTamper_opens asked (held.trans free) (by rw [ps]; exact active)⟩
  rw [evaluateTamper_reasons, asked, held, free]
  rfl

end Sys2Proof.Machine
end

section
/-! The sensor inputs and their filters in ACTIVE (08 R134, R135, R140, R141, R147). -/

namespace Sys2Proof.Machine

/-! ### A changed input (08 R134, R135, R147) -/

section
variable {i : Sensor} {shows : Bool} {s : State} (changes : s.pins.sensor.get i ≠ shows)
include changes

theorem sensorInputChange_of_inactive (inactive : s.ps.power ≠ .active) :
    sensorInputChange i shows s = s.setPins { s.pins with sensor := s.pins.sensor.set i shows } := by
  rw [sensorInputChange, if_neg changes, if_neg inactive]

theorem sensorInputChange_of_active (active : s.ps.power = .active) : sensorInputChange i shows s =
    followInput i shows (s.setPins { s.pins with sensor := s.pins.sensor.set i shows }) := by
  rw [sensorInputChange, if_neg changes, if_pos active]

end

section
variable {i : Sensor} {s : State}

theorem followInput_of_idle (idle : (s.cond (sensorCond i)).state = .idle) (shows : Bool) : followInput i shows s =
    if shows then (s.setFilter i (.timing (filterMs i))).setCondState (sensorCond i) .pending else s := by
  cases shows <;> simp [followInput, idle]

theorem followInput_of_pending (pending : (s.cond (sensorCond i)).state = .pending) (shows : Bool) :
    followInput i shows s =
      if shows then s else (s.setFilter i .stopped).setCondState (sensorCond i) .idle := by
  cases shows <;> simp [followInput, pending]

theorem followInput_of_active (active : (s.cond (sensorCond i)).state = .active) (shows : Bool) :
    followInput i shows s = s.setFilter i (if shows then .stopped else .timing (filterMs i)) := by
  cases shows <;> simp [followInput, active]

end

/-- Settles O50: outside ACTIVE the level alone moves; in ACTIVE the condition's state says what follows. -/
theorem sensorChangesStartFilters : Obligations.SensorChangesStartFilters := by
  intro s i shows changes c ms level filter done
  have length : ms = filterMs i := by cases i <;> rfl
  refine ⟨fun inactive => congrArg _ (sensorInputChange_of_inactive changes inactive), fun active => ?_⟩
  have followed {t : State} (h : followInput i shows level = t) : done t :=
    congrArg _ ((sensorInputChange_of_active changes active).trans h)
  rw [length]
  refine ⟨fun idle shown => followed ?_, fun idle gone => followed ?_, fun pending shown => followed ?_,
    fun pending gone => followed ?_, fun act shown => followed ?_, fun act gone => followed ?_⟩
  · rw [followInput_of_idle (by exact idle), shown]; rfl
  · rw [followInput_of_idle (by exact idle), gone]; rfl
  · rw [followInput_of_pending (by exact pending), shown]; rfl
  · rw [followInput_of_pending (by exact pending), gone]; rfl
  · rw [followInput_of_active (by exact act), shown]; rfl
  · rw [followInput_of_active (by exact act), gone]; rfl

/-! ### A filter that runs out (08 R134, R135) -/

section
variable {i : Sensor} {s : State} (active : s.ps.power = .active) (due : s.tm.filters.get i = .timing 0)
include active due

theorem sensorFilterExpiry_of_pending (pending : (s.cond (sensorCond i)).state = .pending) :
    sensorFilterExpiry i s = startCond (sensorCond i) none (s.setFilter i .stopped) := by
  rw [sensorFilterExpiry, if_pos ⟨active, due⟩, pending]

theorem sensorFilterExpiry_of_active (holds : (s.cond (sensorCond i)).state = .active) :
    sensorFilterExpiry i s = endCond (sensorCond i) (s.setFilter i .stopped) := by
  rw [sensorFilterExpiry, if_pos ⟨active, due⟩, holds]

end

/-- A record appended with the next serial, of which the last is used up by it (09 R154). -/
theorem Tl.append_serials {x : Tl} (below : x.nextSerial < 4294967295) (c : CondId) (start : Nat)
    (inHoldup clockValid : Bool) (actions : Actions) (measure : Option Int) :
    (x.append c start inHoldup clockValid actions measure).nextSerial = x.nextSerial + 1 ∧
    (x.append c start inHoldup clockValid actions measure).usedUp = false := by
  simp only [Tl.append, beq_eq_false_iff_ne]
  exact ⟨if_neg (by omega), by omega⟩

/-- An end closes the ongoing record of the serial that its condition holds (09 R156). -/
theorem Tl.endOccurrence_serial (x : Tl) (n stop : Nat) : (x.endOccurrence (.serial n) stop).records =
    x.records.map fun r => if r.serial = n ∧ r.stop = none then { r with stop := some stop } else r := rfl

theorem Tl.endOccurrence_of_no_serial {record : Ongoing} (noSerial : ∀ n, record ≠ .serial n) (x : Tl) (stop : Nat) :
    x.endOccurrence record stop = x := by
  cases record with
  | serial n => exact absurd rfl (noSerial n)
  | none | unrecorded => rfl

/-- The log after a start in ACTIVE (09 R154). -/
theorem startCond_tl_of_active {s : State} (active : s.ps.power = .active) (c : CondId) (measure : Option Int) :
    (startCond c measure s).tl =
      s.tl.opened c s.clock false s.tc.clockValid (actionsOf (s.params.actions.get c.kind) c) measure := by
  rw [startCond_tl, active]; rfl

theorem sensorCond_not_vloss (i : Sensor) : ((sensorCond i).kind == .vloss) = false := by cases i <;> rfl

/-! ### A start, with room in the log and without -/

section
variable {c : CondId} {s : State} (measure : Option Int)

theorem startCond_told_of_room (room : s.tl.hasRoom = true) :
    Told [⟨.tamperStart c (.serial s.tl.nextSerial), s.clock⟩] s.hlc (startCond c measure s).hlc := by
  simpa [fullNotice, Tl.isFull_of_hasRoom room, room] using startCond_told c measure s

/-- The first start that finds the log full tells so (09 R154). -/
theorem startCond_told_of_first (full : 64 ≤ s.tl.records.length) (first : s.tl.fullNoticed = false) :
    Told [⟨.logFull c, s.clock⟩, ⟨.tamperStart c .unrecorded, s.clock⟩] s.hlc (startCond c measure s).hlc := by
  have noRoom := s.tl.hasRoom_eq_false_iff.mpr (.inl full)
  simpa [fullNotice, s.tl.isFull_iff.mpr full, first, noRoom] using startCond_told c measure s

theorem startCond_told_of_later (noRoom : s.tl.hasRoom = false)
    (later : s.tl.isFull = false ∨ s.tl.fullNoticed = true) :
    Told [⟨.tamperStart c .unrecorded, s.clock⟩] s.hlc (startCond c measure s).hlc := by
  have quiet : fullNotice c s = [] := by rcases later with h | h <;> simp [fullNotice, h]
  simpa [quiet, noRoom] using startCond_told c measure s

theorem Tl.opened_of_no_room_rest {x : Tl} (noRoom : x.hasRoom = false) (c : CondId) (start : Nat)
    (inHoldup clockValid : Bool) (actions : Actions) :
    (x.opened c start inHoldup clockValid actions measure).nextSerial = x.nextSerial ∧
    (x.opened c start inHoldup clockValid actions measure).fullNoticed = (x.isFull || x.fullNoticed) := by
  simp [Tl.opened, noRoom]

end

/-- Settles O51: the expiry is a start or an end of the condition, whose lemmas say the rest. -/
theorem sensorFiltersDecideConditions : Obligations.SensorFiltersDecideConditions := by
  intro s i active due c setting told
  let a := s.setFilter i .stopped
  refine ⟨fun pending => ?starts, fun holds => ?ends⟩
  case starts =>
    have cond := startCond_cond c c none a
    rw [if_pos rfl] at cond
    have tl : (startCond c none a).tl = s.tl.opened c s.clock false s.tc.clockValid (actionsOf setting c) none :=
      startCond_tl_of_active (s := a) active c none
    obtain ⟨filters, holdStops, holdStays⟩ := startCond_timers i none a
    obtain ⟨opens, deemed⟩ := startCond_actions c none a
    refine ⟨startCond c none a, congrArg _ (sensorFilterExpiry_of_pending active due pending), filters,
      by rw [cond], by rw [cond]; rfl, fun few unused => ?room, fun without => ?noRoom, fun full first => ?first,
      fun again => ?again, holdStops, holdStays,
      fun opensSet free => ⟨opens opensSet, startCond_opens none active opensSet free⟩, deemed,
      fun d hd => (startCond_cond c d none a).trans (if_neg hd), by simp [c, a]⟩
    case room =>
      have room : s.tl.hasRoom = true := s.tl.hasRoom_iff.mpr ⟨few, unused⟩
      have actions : actionsOf setting c = ⟨setting.testBit 0, setting.testBit 1, setting.testBit 2, false⟩ := by
        rw [← sensorCond_not_vloss i]; rfl
      rw [Tl.opened_of_room room, actions] at tl
      refine ⟨by rw [cond]; exact if_pos room, by rw [tl]; rfl, fun below => ?_, by rw [tl]; rfl,
        startCond_told_of_room (s := a) none room⟩
      rw [tl]
      exact Tl.append_serials below _ _ _ _ _ _
    case noRoom =>
      have noRoom := s.tl.hasRoom_eq_false_iff.mpr without
      obtain ⟨records, counted⟩ :=
        Tl.opened_of_no_room noRoom c s.clock false s.tc.clockValid (actionsOf setting c) none
      rw [tl]
      refine ⟨by rw [cond]; exact if_neg (by simp [a, noRoom]), records,
        (Tl.opened_of_no_room_rest none noRoom _ _ _ _ _).1, ?_⟩
      rw [counted]
      exact PerKind.get_set_self _ _ _
    case first =>
      have noRoom := s.tl.hasRoom_eq_false_iff.mpr (.inl full)
      refine ⟨?_, startCond_told_of_first (s := a) none full first⟩
      rw [tl, (Tl.opened_of_no_room_rest none noRoom _ _ _ _ _).2, s.tl.isFull_iff.mpr full]
      rfl
    case again =>
      have without : 64 ≤ s.tl.records.length ∨ s.tl.usedUp = true := again.imp And.left And.right
      have later : s.tl.isFull = false ∨ s.tl.fullNoticed = true :=
        (again.imp And.right fun h => s.tl.isFull_eq_false_iff.mpr h.1).symm
      have noRoom := s.tl.hasRoom_eq_false_iff.mpr without
      refine ⟨?_, startCond_told_of_later (s := a) none noRoom later⟩
      rw [tl, (Tl.opened_of_no_room_rest none noRoom _ _ _ _ _).2]
      rcases later with h | h <;> simp [h]
  case ends =>
    have tl : (endCond c a).tl = s.tl.endOccurrence (s.cond c).ongoing s.clock := endCond_tl c a
    obtain ⟨filters, holdStarts, holdStays⟩ := endCond_timers i a
    refine ⟨endCond c a, congrArg _ (sensorFilterExpiry_of_active active due holds), filters,
      (endCond_cond c c a).trans (if_pos rfl), fun n serial => ?serial, fun noSerial => ?noSerial, endCond_told c a,
      holdStarts, holdStays, fun d hd => (endCond_cond c d a).trans (if_neg hd), ?kept, by simp [c, a]⟩
    case serial =>
      rw [tl, serial]
      exact s.tl.endOccurrence_serial n s.clock
    case noSerial => rw [tl, Tl.endOccurrence_of_no_serial noSerial]
    case kept => rw [tl, (Tl.endOccurrence_counts _ _ _).2.1]

end Sys2Proof.Machine
end

section
/-! The hold-up watch, the deemed hold and the measure of LINKLOSS (08 R135, R138, R148, 10 R164). -/

namespace Sys2Proof.Machine

/-! ### One sample (08 R148) -/

section
variable {i : Sensor} {s : State}

theorem sampleInput_of_idle (idle : (s.cond (sensorCond i)).state = .idle) : sampleInput i s =
    if s.pins.sensor.get i then
      if filterSamples i ≤ 1 then startCond (sensorCond i) none (s.setFilter i (.samples 0))
      else (s.setFilter i (.samples 1)).setCondState (sensorCond i) .pending
    else s.setFilter i (.samples 0) := by
  cases h : s.pins.sensor.get i <;> simp [sampleInput, idle, h]

theorem sampleInput_of_pending (pending : (s.cond (sensorCond i)).state = .pending) : sampleInput i s =
    if s.pins.sensor.get i then
      if filterSamples i ≤ (s.tm.filters.get i).count + 1 then
        startCond (sensorCond i) none (s.setFilter i (.samples 0))
      else s.setFilter i (.samples ((s.tm.filters.get i).count + 1))
    else (s.setFilter i (.samples 0)).setCondState (sensorCond i) .idle := by
  cases h : s.pins.sensor.get i <;> simp [sampleInput, pending, h]

theorem sampleInput_of_active (active : (s.cond (sensorCond i)).state = .active) : sampleInput i s =
    if s.pins.sensor.get i then s.setFilter i (.samples 0)
    else if filterSamples i ≤ (s.tm.filters.get i).count + 1 then
      endCond (sensorCond i) (s.setFilter i (.samples 0))
    else s.setFilter i (.samples ((s.tm.filters.get i).count + 1)) := by
  cases h : s.pins.sensor.get i <;> simp [sampleInput, active, h]

end

@[simp] theorem setFilter_cond (i : Sensor) (f : Filter) (s : State) (c : CondId) :
    (s.setFilter i f).cond c = s.cond c := rfl

@[simp] theorem setFilter_filters (i : Sensor) (f : Filter) (s : State) :
    (s.setFilter i f).tm.filters = s.tm.filters.set i f := rfl

@[simp] theorem setCondState_filters (c : CondId) (x : CondState) (s : State) :
    (s.setCondState c x).tm.filters = s.tm.filters := rfl

/-- What a sample that counts as the n-th makes of a condition and its filter, by the condition's state (08 R148). -/
structure Sampled (shows : Bool) (need n clock : Nat) (x y : Cond) (g : Filter) : Prop where
  begins : x.state = .idle → shows = true → need = 2 → y.state = .pending ∧ g = .samples 1
  startsAtOnce : x.state = .idle → shows = true → need = 1 → y.state = .active
  rests : x.state = .idle → shows = false → y = x
  starts : x.state = .pending → shows = true → y.state = if need ≤ n then .active else .pending
  drops : x.state = .pending → shows = false → y.state = .idle
  goesOn : x.state = .active → shows = true → y = x ∧ g = .samples 0
  ends : x.state = .active → shows = false → need ≤ n → y.state = .idle ∧ y.lastEnd = some clock
  fades : x.state = .active → shows = false → n < need → y = x ∧ g = .samples n

section
variable (i : Sensor) (s : State)

theorem sampleInput_sampled : Sampled (s.pins.sensor.get i) (filterSamples i) ((s.tm.filters.get i).count + 1) s.clock
    (s.cond (sensorCond i)) ((sampleInput i s).cond (sensorCond i)) ((sampleInput i s).tm.filters.get i) where
  begins idle shown two := by simp [sampleInput_of_idle idle, shown, two, PerSensor.get_set]
  startsAtOnce idle shown one := by simp [sampleInput_of_idle idle, shown, one, startCond_cond]
  rests idle gone := by simp [sampleInput_of_idle idle, gone]
  starts pending shown := by
    rw [sampleInput_of_pending pending, if_pos shown]
    split
    · simp [startCond_cond]
    · simp [pending]
  drops pending gone := by simp [sampleInput_of_pending pending, gone]
  goesOn active shown := by simp [sampleInput_of_active active, shown, PerSensor.get_set]
  ends active gone enough := by simp [sampleInput_of_active active, gone, enough, endCond_cond, State.clock]
  fades active gone few := by simp [sampleInput_of_active active, gone, Nat.not_le.mpr few, PerSensor.get_set]

/-- What a sample can come to: a filter and a state of its own condition written, a start, an end. -/
theorem sampleInput_cases {P : State → Prop} (counts : ∀ f, P (s.setFilter i f))
    (moves : ∀ f x, P ((s.setFilter i f).setCondState (sensorCond i) x))
    (starts : ∀ f, P (startCond (sensorCond i) none (s.setFilter i f)))
    (ends : ∀ f, P (endCond (sensorCond i) (s.setFilter i f))) : P (sampleInput i s) := by
  cases state : (s.cond (sensorCond i)).state with
  | idle =>
    rw [sampleInput_of_idle state]
    split
    · split
      · exact starts _
      · exact moves _ _
    · exact counts _
  | pending =>
    rw [sampleInput_of_pending state]
    split
    · split
      · exact starts _
      · exact counts _
    · exact moves _ _
  | active =>
    rw [sampleInput_of_active state]
    split
    · exact counts _
    · split
      · exact ends _
      · exact counts _

/-- A sample touches its own condition and filter alone. -/
theorem sampleInput_cond_of_ne {k : CondId} (other : k ≠ sensorCond i) : (sampleInput i s).cond k = s.cond k :=
  sampleInput_cases i s (P := fun t => t.cond k = s.cond k) (by simp) (by simp [other])
    (by simp [startCond_cond, other]) (by simp [endCond_cond, other])

theorem sampleInput_filter_of_ne {j : Sensor} (other : j ≠ i) :
    (sampleInput i s).tm.filters.get j = s.tm.filters.get j :=
  sampleInput_cases i s (P := fun t => t.tm.filters.get j = s.tm.filters.get j)
    (by simp [PerSensor.get_set, other]) (by simp [PerSensor.get_set, other])
    (by simp [startCond_timers, PerSensor.get_set, other]) (by simp [endCond_timers, PerSensor.get_set, other])

@[simp] theorem sampleInput_be : (sampleInput i s).be = s.be :=
  sampleInput_cases i s (P := fun t => t.be = s.be) (by simp) (by simp [State.setCondState]) (by simp) (by simp)

end

/-! ### The records of the watch (08 R148, 09 R154) -/

/-- The records from a serial on have the hold-up bit. -/
def Tl.HoldupFrom (n : Nat) (x : Tl) : Prop := ∀ r ∈ x.records, n ≤ r.serial → r.inHoldup = true

theorem Tl.HoldupFrom.opened {n : Nat} {x : Tl} (h : x.HoldupFrom n) (c : CondId) (start : Nat) (clockValid : Bool)
    (actions : Actions) (measure : Option Int) : (x.opened c start true clockValid actions measure).HoldupFrom n := by
  unfold Tl.opened
  split
  · intro r hr later
    rcases List.mem_append.mp hr with old | new
    · exact h r old later
    · rw [List.mem_singleton.mp new]
  · exact h

theorem Tl.HoldupFrom.endOccurrence {n : Nat} {x : Tl} (h : x.HoldupFrom n) (record : Ongoing) (stop : Nat) :
    (x.endOccurrence record stop).HoldupFrom n := by
  cases record with
  | none | unrecorded => exact h
  | serial k =>
    intro r hr later
    obtain ⟨z, old, rfl⟩ := List.mem_map.mp hr
    by_cases its : z.serial = k ∧ z.stop = none
    · rw [if_pos its] at later ⊢
      exact h z old later
    · rw [if_neg its] at later ⊢
      exact h z old later

theorem sampleInput_holdupFrom {n : Nat} (i : Sensor) {s : State} (asleep : s.ps.power = .holdup)
    (h : s.tl.HoldupFrom n) : (sampleInput i s).tl.HoldupFrom n := by
  refine sampleInput_cases i s (P := fun t => t.tl.HoldupFrom n) (fun _ => h) (fun _ _ => h) (fun f => ?_) (fun f => ?_)
  · have holdup : ((s.setFilter i f).ps.power == .holdup) = true := by simp [asleep]
    rw [startCond_tl, holdup]
    exact Tl.HoldupFrom.opened h _ _ _ _ _
  · rw [endCond_tl]
    exact Tl.HoldupFrom.endOccurrence h _ _

/-! ### The three samples of the watch (10 R164) -/

/-- The three inputs are sampled, each for its own condition. -/
def sampleInputs (s : State) : State := sampleInput .mag (sampleInput .cover (sampleInput .meterCase s))

theorem holdupSample_of_due {s : State} (asleep : s.ps.power = .holdup) (due : s.ps.sampleTimer = some 0) :
    holdupSample s = sampleInputs (s.setPs { s.ps with sampleTimer := some 1000 }) :=
  if_pos ⟨asleep, by simp [timerDue, due]⟩

@[simp] theorem sampleInput_clock (i : Sensor) (s : State) : (sampleInput i s).clock = s.clock := by simp [State.clock]

theorem sampleInputs_sampled (i : Sensor) (s : State) :
    Sampled (s.pins.sensor.get i) (filterSamples i) ((s.tm.filters.get i).count + 1) s.clock
      (s.cond (sensorCond i)) ((sampleInputs s).cond (sensorCond i)) ((sampleInputs s).tm.filters.get i) := by
  have apart {j k : Sensor} (ne : j ≠ k) : sensorCond j ≠ sensorCond k := mt sensorCond_injective ne
  cases i with
  | meterCase =>
    simpa [sampleInputs, sampleInput_cond_of_ne, sampleInput_filter_of_ne, apart] using sampleInput_sampled .meterCase s
  | cover =>
    simpa [sampleInputs, sampleInput_cond_of_ne, sampleInput_filter_of_ne, apart] using
      sampleInput_sampled .cover (sampleInput .meterCase s)
  | mag =>
    simpa [sampleInputs, sampleInput_cond_of_ne, sampleInput_filter_of_ne, apart] using
      sampleInput_sampled .mag (sampleInput .cover (sampleInput .meterCase s))

theorem sampleInputs_holdupFrom {n : Nat} {s : State} (asleep : s.ps.power = .holdup) (h : s.tl.HoldupFrom n) :
    (sampleInputs s).tl.HoldupFrom n := by
  have first := sampleInput_holdupFrom .meterCase asleep h
  have second := sampleInput_holdupFrom .cover (by simpa using asleep) first
  exact sampleInput_holdupFrom .mag (by simpa using asleep) second

/-! ### The deemed hold (08 R135, R144) -/

theorem mem_allKinds (k : Kind) : k ∈ allKinds := by cases k <;> decide

theorem anyInForceWith_iff (s : State) (action : Nat → Bool) : anyInForceWith s action = true ↔
    ∃ k, action (s.params.actions.get k) = true ∧ s.tm.kindInForce k = true := by
  simp [anyInForceWith, mem_allKinds]

/-- An evaluation moves no condition and not the deemed hold, so the same kinds are in force. -/
theorem evaluateTamper_kindInForce (s : State) (k : Kind) :
    (evaluateTamper s).tm.kindInForce k = s.tm.kindInForce k := by
  rw [evaluateTamper_tm]; rfl

theorem evaluateTamper_deemed_iff (s : State) : (evaluateTamper s).tm.deemed = true ↔
    ∃ k, deemedIn (s.params.actions.get k) = true ∧ (evaluateTamper s).tm.kindInForce k = true := by
  have deemed : (evaluateTamper s).tm.deemed = anyInForceWith s deemedIn := by rw [evaluateTamper_tm]
  simp only [deemed, anyInForceWith_iff, evaluateTamper_kindInForce]

theorem deemedHoldExpiry_of_due {s : State} (active : s.ps.power = .active) (due : s.tm.hold = some 0) :
    deemedHoldExpiry s = evaluateTamper (s.setTm { s.tm with hold := none }) :=
  if_pos ⟨active, by simp [timerDue, due]⟩

/-! ### The measure of LINKLOSS (08 R138, 09 R155) -/

/-- The larger silence is kept. -/
theorem TamperRecord.measured_linkloss {z : TamperRecord} (linkloss : z.cond = .linkloss) (m : Int) :
    z.measured m = { z with extreme := z.extreme.map fun held => max held m } := by
  obtain ⟨serial, cond, start, stop, inHoldup, valid, actions, extreme⟩ := z
  obtain rfl : cond = .linkloss := linkloss
  cases extreme with
  | none => rfl
  | some held =>
    simp only [TamperRecord.measured, worseMeasure, CondId.kind, decide_eq_true_eq]
    split <;> simp <;> omega

theorem Tl.measure_linkloss {x : Tl} {n : Nat} (own : ∀ r ∈ x.records, r.serial = n → r.cond = .linkloss) (m : Int) :
    x.measure (.serial n) m = { x with records := x.records.map fun r =>
      if r.serial = n ∧ r.stop = none then { r with extreme := r.extreme.map fun held => max held m } else r } := by
  refine congrArg (fun l => { x with records := l }) (List.map_congr_left fun r hr => ?_)
  split
  · next h => exact TamperRecord.measured_linkloss (own r hr h.1) m
  · rfl

/-- Settles O52: the three samples are each other's own, the hold's expiry is an evaluation, and the measure reaches
the records of LINKLOSS's serial. -/
theorem tamperTimersExpire : Obligations.TamperTimersExpire := by
  intro s
  refine ⟨fun asleep due i => ?watch, fun active due => ?hold,
    fun active ongoing n serial own => ?measure⟩
  case watch =>
    intro c need n shows
    let a := s.setPs { s.ps with sampleTimer := some 1000 }
    have needed : need = filterSamples i := by cases i <;> rfl
    have counted : n = (a.tm.filters.get i).count + 1 := by
      show n = (s.tm.filters.get i).count + 1
      simp only [n]
      cases s.tm.filters.get i <;> simp [Filter.count]
    have sampled := sampleInputs_sampled i a
    rw [← needed, ← counted] at sampled
    refine ⟨sampleInputs a, congrArg _ (holdupSample_of_due asleep due), by simp [sampleInputs, a], sampled.begins,
      sampled.startsAtOnce, sampled.rests, sampled.starts, sampled.drops, sampled.goesOn, sampled.ends, sampled.fades,
      fun x hx later given => ?_, by simp [sampleInputs, a]⟩
    have before : a.tl.HoldupFrom s.tl.nextSerial := fun y hy high => absurd (given y hy) (Nat.not_lt.mpr high)
    exact sampleInputs_holdupFrom (s := a) asleep before x hx later
  case hold =>
    let stopped := s.setTm { s.tm with hold := none }
    refine ⟨evaluateTamper stopped, congrArg _ (deemedHoldExpiry_of_due active due), by rw [evaluateTamper_tm]; rfl,
      by rw [evaluateTamper_tm]; rfl, evaluateTamper_deemed_iff stopped, by simp [stopped]⟩
  case measure =>
    have handed : linklossMeasure s = s.setTl (s.tl.measure (.serial n) (silenceSeconds s)) := by
      rw [linklossMeasure, if_pos ⟨active, ongoing⟩, handMeasure, serial]
    exact congrArg _ (handed.trans (congrArg s.setTl (Tl.measure_linkloss own _)))

end Sys2Proof.Machine
end

section
/-! The law of the tamper log (09 R157): the serials stay in order, and every record without an end time stays with the
ACTIVE condition that holds it. What TL's operations and TM's starts and ends do to it. -/

namespace Sys2Proof.Machine

/-! ### The log from one state to the next (09 R154 to R158) -/

/-- The serials keep their order, and every record that is ongoing was ongoing before. -/
structure Tl.Continues (x y : Tl) : Prop where
  ordered : x.Ordered → y.Ordered
  ongoing : ∀ r ∈ y.records, r.stop = none → ∃ q ∈ x.records, q.stop = none ∧ q.serial = r.serial

@[refl] theorem Tl.Continues.refl (x : Tl) : x.Continues x := ⟨id, fun r mem unended => ⟨r, mem, unended, rfl⟩⟩

/-- The serial order reads the serials alone, and holds of a part of them. -/
theorem Tl.Ordered.of_sublist {x y : Tl} (h : x.Ordered)
    (serials : (y.records.map TamperRecord.serial).Sublist (x.records.map TamperRecord.serial))
    (next : y.nextSerial = x.nextSerial) (used : y.usedUp = x.usedUp) : y.Ordered := by
  obtain ⟨room, order, last, given⟩ := h
  rw [Tl.Ordered, next, used]
  refine ⟨?_, ?_, last, fun r mem => ?_⟩
  · have fewer := serials.length_le
    simp only [List.length_map] at fewer
    omega
  · exact List.pairwise_map.mp ((List.pairwise_map.mpr order).sublist serials)
  · obtain ⟨q, held, same⟩ := List.mem_map.mp (serials.subset (List.mem_map_of_mem mem))
    exact same ▸ given q held

/-- Records rewritten in their places: each keeps its serial, and none is opened again. -/
theorem Tl.Continues.rewritten (x : Tl) {f : TamperRecord → TamperRecord} (serial : ∀ r, (f r).serial = r.serial)
    (stop : ∀ r, (f r).stop = none → r.stop = none) : x.Continues { x with records := x.records.map f } where
  ordered h := h.of_sublist (by simp [Function.comp_def, serial]) rfl rfl
  ongoing r mem unended := by
    obtain ⟨q, held, rfl⟩ := List.mem_map.mp mem
    exact ⟨q, held, stop q unended, (serial q).symm⟩

theorem TamperRecord.measured_kept (r : TamperRecord) (m : Int) :
    (r.measured m).serial = r.serial ∧ (r.measured m).stop = r.stop := by
  unfold TamperRecord.measured
  (repeat' split) <;> exact ⟨rfl, rfl⟩

theorem Tl.continues_measure (x : Tl) (record : Ongoing) (m : Int) : x.Continues (x.measure record m) := by
  cases record with
  | none | unrecorded => rfl
  | serial n =>
    refine .rewritten x (fun r => ?_) (fun r unended => ?_)
    · split
      · exact (r.measured_kept m).1
      · rfl
    · split at unended
      · exact (r.measured_kept m).2 ▸ unended
      · exact unended

/-- Some of the ongoing records are given an end. -/
theorem Tl.Continues.closed (x : Tl) (ends : TamperRecord → Prop) [DecidablePred ends] (stop : Nat) :
    x.Continues { x with records := x.records.map fun r => if ends r then { r with stop := some stop } else r } := by
  refine .rewritten x (fun r => ?_) (fun r unended => ?_)
  · split <;> rfl
  · split at unended
    · nomatch unended
    · exact unended

theorem Tl.continues_endOccurrence (x : Tl) (record : Ongoing) (stop : Nat) :
    x.Continues (x.endOccurrence record stop) := by
  cases record with
  | none | unrecorded => rfl
  | serial n => exact .closed x _ stop

theorem Tl.continues_closeUnclaimed (x : Tl) (claims : Nat → Bool) (stop : Nat) :
    x.Continues (x.closeUnclaimed claims stop) :=
  .closed x _ stop

/-- A clear removes records and touches none it keeps (09 R158). -/
theorem Tl.continues_clear (x : Tl) (mask : PerKind Bool) (cutoff : Int) : x.Continues (x.clear mask cutoff).1 where
  ordered h := h.of_sublist (List.filter_sublist.map _) rfl rfl
  ongoing r mem unended := ⟨r, List.mem_of_mem_filter mem, unended, rfl⟩

/-- A record that is still ongoing at the end of an occurrence is not that of the occurrence (09 R156). -/
theorem Tl.ongoing_after_end {x : Tl} {record : Ongoing} {stop : Nat} {r : TamperRecord}
    (mem : r ∈ (x.endOccurrence record stop).records) (unended : r.stop = none) :
    r ∈ x.records ∧ record ≠ .serial r.serial := by
  cases record with
  | none | unrecorded => exact ⟨mem, nofun⟩
  | serial n =>
    obtain ⟨q, held, rfl⟩ := List.mem_map.mp mem
    split at unended
    · nomatch unended
    · next other =>
      rw [if_neg other]
      exact ⟨held, fun same => other ⟨(Ongoing.serial.inj same).symm, unended⟩⟩

/-- A record that is ongoing after the unclaimed ones are closed is claimed (08 R150). -/
theorem Tl.ongoing_claimed {x : Tl} {claims : Nat → Bool} {stop : Nat} {r : TamperRecord}
    (mem : r ∈ (x.closeUnclaimed claims stop).records) (unended : r.stop = none) : claims r.serial = true := by
  obtain ⟨q, held, rfl⟩ := List.mem_map.mp mem
  split at unended
  · nomatch unended
  · next kept =>
    rw [if_neg kept]
    simpa [unended] using kept

/-- A record of the log after a start was there before, or is the start's own with the next serial (09 R154). -/
theorem Tl.mem_opened {x : Tl} {c : CondId} {start : Nat} {inHoldup valid : Bool} {a : Actions} {m : Option Int}
    {r : TamperRecord} (mem : r ∈ (x.opened c start inHoldup valid a m).records) :
    r ∈ x.records ∨ (x.hasRoom = true ∧ r.serial = x.nextSerial) := by
  unfold Tl.opened at mem
  split at mem
  · next room =>
    refine (List.mem_append.mp mem).imp_right fun new => ⟨room, ?_⟩
    rw [List.mem_singleton.mp new]
  · exact .inl mem

/-- The next serial is above all that are given out; after the last one no record is opened (09 R154). -/
theorem Tl.Ordered.opened {x : Tl} (h : x.Ordered) (c : CondId) (start : Nat) (inHoldup valid : Bool) (a : Actions)
    (m : Option Int) : (x.opened c start inHoldup valid a m).Ordered := by
  unfold Tl.opened
  split
  · next room =>
    obtain ⟨free, unused⟩ := x.hasRoom_iff.mp room
    obtain ⟨-, order, last, given⟩ := h
    refine ⟨?_, ?_, ?_, fun r mem => ?_⟩
    · simp only [Tl.append, List.length_append, List.length_singleton]
      omega
    · refine List.pairwise_append.mpr ⟨order, List.pairwise_singleton _ _, fun r held q new => ?_⟩
      rw [List.mem_singleton.mp new]
      exact (given r held).2 unused
    · simp only [Tl.append]
      split <;> omega
    · have below : r.serial ≤ x.nextSerial := by
        rcases List.mem_append.mp mem with held | new
        · exact (given r held).1
        · rw [List.mem_singleton.mp new]
      simp only [Tl.append]
      split
      · next atLast => exact ⟨below, by simp [atLast]⟩
      · exact ⟨by omega, fun _ => by omega⟩
  · exact h

/-! ### The ACTIVE conditions and their records (08 section 8.1) -/

/-- The same conditions are ACTIVE, with the same records. -/
structure PerCond.SameActive (x y : PerCond Cond) : Prop where
  state : ∀ c, (y.get c).state = .active ↔ (x.get c).state = .active
  ongoing : ∀ c, (x.get c).state = .active → (y.get c).ongoing = (x.get c).ongoing

@[refl] theorem PerCond.SameActive.refl (x : PerCond Cond) : x.SameActive x := ⟨fun _ => Iff.rfl, fun _ _ => rfl⟩

theorem PerCond.SameActive.claimed {x y : PerCond Cond} (h : x.SameActive y) {n : Nat}
    (held : Machine.claimed x n = true) : Machine.claimed y n = true := by
  obtain ⟨c, active, serial⟩ := (claimed_iff x n).mp held
  exact (claimed_iff y n).mpr ⟨c, (h.state c).mpr active, (h.ongoing c active).trans serial⟩

theorem PerCond.SameActive.probeSound {x y : PerCond Cond} (h : x.SameActive y) {sources : PerSource Bool}
    (sound : Machine.probeSound x sources) : Machine.probeSound y sources :=
  fun active => sound ((h.state .probe).mp active)

/-- One condition is written: ACTIVE as before, and with its record where it is. -/
theorem PerCond.SameActive.set (x : PerCond Cond) {c : CondId} {y : Cond}
    (state : y.state = .active ↔ (x.get c).state = .active)
    (ongoing : (x.get c).state = .active → y.ongoing = (x.get c).ongoing) : x.SameActive (x.set c y) where
  state d := by
    rw [PerCond.get_set]
    split
    · next own => rw [own, state]
    · rfl
  ongoing d active := by
    rw [PerCond.get_set]
    split
    · next own => rw [own] at active ⊢; exact ongoing active
    · rfl

theorem stateAtEntry_active_iff (sensor : PerSensor Bool) (c : CondId) (x : CondState) :
    stateAtEntry sensor c x = .active ↔ x = .active := by
  have follow (shown : Bool) :
      (if x = .active then .active else if shown then .pending else .idle : CondState) = .active ↔ x = .active := by
    cases x <;> cases shown <;> simp
  cases c with
  | meterCase | cover | mag => exact follow _
  | neutral | vloss p | reverse p | bypass p => exact follow false
  | linkloss | probe => rfl

/-- An entry to ACTIVE leaves the ACTIVE conditions (08 R149). -/
theorem Tm.Resumed.sameActive {x y : Tm} {sensor : PerSensor Bool} (h : x.Resumed y sensor) :
    x.conds.SameActive y.conds where
  state c := by rw [h.conds, stateAtEntry_active_iff]
  ongoing c _ := by rw [h.conds]

/-! ### The law of the running state -/

/-- The law of 09 R157 of the running state, with PROBE's agreement with its sources. -/
structure State.Logged (s : State) : Prop where
  ordered : s.tl.Ordered
  claims : ∀ r ∈ s.tl.records, r.stop = none → s.commissioned ∧ claimed s.tm.conds r.serial = true
  probe : probeSound s.tm.conds s.tm.probeSources

theorem logSound_iff (s : State) : LogSound s ↔
    s.Logged ∧ ∀ img ∈ s.images, probeSound img.contents.conds img.contents.probeSources :=
  ⟨fun ⟨ordered, claims, probe, images⟩ => ⟨⟨ordered, claims, probe⟩, images⟩,
    fun ⟨⟨ordered, claims, probe⟩, images⟩ => ⟨ordered, claims, probe, images⟩⟩

section
variable {s t : State} (h : s.Logged)
include h

/-- An operation that opens no record and moves no condition into or out of ACTIVE. -/
theorem State.Logged.goesOn (tl : s.tl.Continues t.tl) (conds : s.tm.conds.SameActive t.tm.conds)
    (sources : t.tm.probeSources = s.tm.probeSources) (power : s.commissioned → t.commissioned) : t.Logged where
  ordered := tl.ordered h.ordered
  claims r mem unended := by
    obtain ⟨q, held, ongoing, same⟩ := tl.ongoing r mem unended
    obtain ⟨commissioned, claim⟩ := h.claims q held ongoing
    exact ⟨power commissioned, same ▸ conds.claimed claim⟩
  probe := sources ▸ conds.probeSound h.probe

/-- An operation that touches neither TL nor TM. -/
theorem State.Logged.frame (same : t.tl = s.tl ∧ t.tm = s.tm ∧ t.ps.power = s.ps.power) : t.Logged := by
  obtain ⟨tl, tm, power⟩ := same
  exact h.goesOn (tl ▸ .refl _) (tm ▸ .refl _) (by rw [tm]) (commissioned_of_power power.symm)

/-- Conditions are written, of which the ACTIVE ones stay with their records. -/
theorem State.Logged.setTm {x : Tm} (conds : s.tm.conds.SameActive x.conds)
    (sources : x.probeSources = s.tm.probeSources) : (s.setTm x).Logged :=
  h.goesOn (.refl _) conds sources id

theorem State.Logged.setTl {x : Tl} (tl : s.tl.Continues x) : (s.setTl x).Logged :=
  h.goesOn tl (.refl _) rfl id

theorem State.Logged.evaluateTamper : (evaluateTamper s).Logged :=
  h.goesOn (by simp [Tl.Continues.refl]) (by rw [evaluateTamper_tm]) (by rw [evaluateTamper_tm])
    (commissioned_of_power (by simp))

theorem State.Logged.setFilter (i : Sensor) (x : Filter) : (s.setFilter i x).Logged := h.setTm (.refl _) rfl

theorem State.Logged.setRun (c : RecordCond) (n : Nat) : (s.setRun c n).Logged := h.frame (by simp)

theorem State.Logged.setCondState {c : CondId} {x : CondState} (before : (s.cond c).state ≠ .active)
    (after : x ≠ .active) : (s.setCondState c x).Logged :=
  h.setTm (.set _ (iff_of_false after before) fun active => absurd active before) rfl

end

/-! ### Starts and ends (08 R140, R141) -/

theorem startCond_probeSources (c : CondId) (measure : Option Int) (s : State) :
    (startCond c measure s).tm.probeSources = s.tm.probeSources := by
  simp [startCond, evaluateTamper_tm, State.setCond, startEffect_tm]

theorem endCond_probeSources (c : CondId) (s : State) : (endCond c s).tm.probeSources = s.tm.probeSources := by
  simp [endCond, evaluateTamper_tm, State.setCond, endEffect_tm]

/-- A condition that is not ACTIVE starts: it claims the record that is opened, and no other loses its own. -/
theorem State.Logged.startCond {c : CondId} {s : State} (h : s.Logged) (measure : Option Int)
    (commissioned : s.commissioned) (rests : (s.cond c).state ≠ .active)
    (probe : c = .probe → s.tm.probeSources.keypad = true ∨ s.tm.probeSources.remote = true) :
    (startCond c measure s).Logged where
  ordered := by
    rw [startCond_tl]
    exact h.ordered.opened _ _ _ _ _ _
  claims r mem unended := by
    refine ⟨commissioned_of_power (by simp) commissioned, (claimed_iff _ _).mpr ?_⟩
    rw [startCond_tl] at mem
    rcases Tl.mem_opened mem with held | ⟨room, own⟩
    · obtain ⟨k, active, serial⟩ := (claimed_iff _ _).mp (h.claims r held unended).2
      have other : k ≠ c := fun same => rests (same ▸ active)
      have kept : (Machine.startCond c measure s).tm.conds.get k = s.tm.conds.get k :=
        (startCond_cond c k measure s).trans (if_neg other)
      exact ⟨k, by rwa [kept], by rwa [kept]⟩
    · have started := (startCond_cond c c measure s).trans (if_pos rfl)
      rw [State.cond] at started
      exact ⟨c, by rw [started], by rw [started, room, own]; rfl⟩
  probe active := by
    rw [startCond_probeSources]
    by_cases own : c = .probe
    · exact probe own
    · have kept : (Machine.startCond c measure s).tm.conds.probe = s.tm.conds.probe :=
        (startCond_cond c .probe measure s).trans (if_neg (Ne.symm own))
      exact h.probe (kept ▸ active)

/-- A condition ends: its own record is closed, and no other loses its own. PROBE ends when its last source goes. -/
theorem endCond_logged (c : CondId) {s : State} (ordered : s.tl.Ordered)
    (claims : ∀ r ∈ s.tl.records, r.stop = none → s.commissioned ∧ claimed s.tm.conds r.serial = true)
    (probe : c ≠ .probe → probeSound s.tm.conds s.tm.probeSources) : (endCond c s).Logged where
  ordered := by
    rw [endCond_tl]
    exact (s.tl.continues_endOccurrence _ _).ordered ordered
  claims r mem unended := by
    rw [endCond_tl] at mem
    obtain ⟨held, notOwn⟩ := Tl.ongoing_after_end mem unended
    obtain ⟨commissioned, claim⟩ := claims r held unended
    obtain ⟨k, active, serial⟩ := (claimed_iff _ _).mp claim
    have other : k ≠ c := by
      rintro rfl
      exact notOwn serial
    have kept : (endCond c s).tm.conds.get k = s.tm.conds.get k := (endCond_cond c k s).trans (if_neg other)
    refine ⟨commissioned_of_power (by simp) commissioned, (claimed_iff _ _).mpr ⟨k, ?_, ?_⟩⟩ <;> rwa [kept]
  probe active := by
    rw [endCond_probeSources]
    by_cases own : c = .probe
    · subst own
      have ended : (endCond .probe s).tm.conds.probe = { s.cond .probe with
          state := .idle, lastEnd := some s.clock, ongoing := .none } := endCond_cond .probe .probe s
      rw [ended] at active
      nomatch active
    · have kept : (endCond c s).tm.conds.probe = s.tm.conds.probe :=
        (endCond_cond c .probe s).trans (if_neg (Ne.symm own))
      exact probe own (kept ▸ active)

theorem State.Logged.endCond {s : State} (h : s.Logged) (c : CondId) : (endCond c s).Logged :=
  endCond_logged c h.ordered h.claims fun _ => h.probe

end Sys2Proof.Machine
end

section
/-! The law of the tamper log under the operations of the blocks (09 R157). -/

namespace Sys2Proof.Machine

theorem commissioned_of_active {s : State} (active : s.ps.power = .active) : s.commissioned := by
  simp [State.commissioned, active]

theorem noProbeSource_eq_false_iff (s : State) :
    noProbeSource s = false ↔ s.tm.probeSources.keypad = true ∨ s.tm.probeSources.remote = true := by
  unfold noProbeSource
  cases s.tm.probeSources.keypad <;> cases s.tm.probeSources.remote <;> decide

/-! ### The tamper monitor (08) -/

section
variable {s : State} (h : s.Logged)
include h

theorem State.Logged.handMeasure (c : CondId) (m : Int) : (handMeasure c m s).Logged :=
  h.setTl (s.tl.continues_measure _ _)

theorem State.Logged.handObserved (o : Observation) : (handObserved o s).Logged := by
  unfold Machine.handObserved
  split
  · exact h.handMeasure _ _
  · exact h

theorem State.Logged.observe (commissioned : s.commissioned) (o : Observation) : (observe o s).Logged := by
  have counted (n : Nat) := h.setRun o.cond n
  have notProbe : o.cond.cond = .probe → s.tm.probeSources.keypad = true ∨ s.tm.probeSources.remote = true := by
    cases o.cond <;> nofun
  unfold Machine.observe
  dsimp only
  split
  · next idle _ => exact (counted 1).setCondState (by simp [idle]) (by simp)
  · exact counted 0
  · next pending _ =>
    split
    · exact (counted 0).startCond _ commissioned (by simp [pending]) notProbe
    · exact counted _
  · next pending _ => exact (counted 0).setCondState (by simp [pending]) (by simp)
  · exact (counted 0).handObserved o
  · split
    · exact (counted 0).endCond _
    · exact counted _

theorem State.Logged.silenceToTm (commissioned : s.commissioned) : (silenceToTm s).Logged := by
  unfold Machine.silenceToTm
  split
  · next idle => exact h.startCond _ commissioned (by simp [idle]) nofun
  · exact h

theorem State.Logged.linkGoodToTm : (linkGoodToTm s).Logged := by
  unfold Machine.linkGoodToTm
  split
  · exact h.endCond _
  · exact h

/-- PROBE starts with the first source, before which it was not ACTIVE (08 R139). -/
theorem State.Logged.lockoutStartToTm (commissioned : s.commissioned) (src : Source) :
    (lockoutStartToTm src s).Logged := by
  have grows : probeSound s.tm.conds (s.tm.probeSources.set src true) := fun active => by
    cases src <;> simp [PerSource.set]
  have added : (s.setTm { s.tm with probeSources := s.tm.probeSources.set src true }).Logged :=
    ⟨h.ordered, h.claims, grows⟩
  unfold Machine.lockoutStartToTm
  dsimp only
  split
  · exact h
  split
  · next none =>
    refine added.startCond _ commissioned (fun active => ?_) fun _ => ?_
    · simp [(noProbeSource_eq_false_iff s).mpr (h.probe active)] at none
    · cases src <;> simp [PerSource.set]
  · exact added

/-- PROBE ends with the last source (08 R139). -/
theorem State.Logged.lockoutEndToTm (src : Source) : (lockoutEndToTm src s).Logged := by
  unfold Machine.lockoutEndToTm
  dsimp only
  split
  · split
    · exact endCond_logged .probe h.ordered h.claims fun other => absurd rfl other
    · next some =>
      exact ⟨h.ordered, h.claims, fun _ => (noProbeSource_eq_false_iff _).mp (by simpa using some)⟩
  · exact h

/-- A cleared latch leaves its condition's state and record (08 R145). -/
theorem State.Logged.clearLatches (mask : PerKind Bool) (cutoff : Int) : (clearLatches mask cutoff s).1.Logged := by
  refine State.Logged.evaluateTamper (List.foldlRecOn _ _ (motive := State.Logged) h fun t ht c _ => ?_)
  exact ht.setTm (.set _ Iff.rfl fun _ => rfl) rfl

theorem State.Logged.followInput (i : Sensor) (shows : Bool) : (followInput i shows s).Logged := by
  unfold Machine.followInput
  split
  · next idle => exact (h.setFilter _ _).setCondState (by simp [idle]) (by simp)
  · exact h
  · exact h
  · next pending => exact (h.setFilter _ _).setCondState (by simp [pending]) (by simp)
  · exact h.setFilter _ _
  · exact h.setFilter _ _

/-- A sensor condition's start is not PROBE's. -/
theorem State.Logged.startSensor (commissioned : s.commissioned) (i : Sensor)
    (rests : (s.cond (sensorCond i)).state ≠ .active) : (Machine.startCond (sensorCond i) none s).Logged :=
  h.startCond _ commissioned rests (by cases i <;> nofun)

theorem State.Logged.sampleInput (commissioned : s.commissioned) (i : Sensor) : (sampleInput i s).Logged := by
  have counted (n : Nat) := h.setFilter i (.samples n)
  unfold Machine.sampleInput
  dsimp only
  split
  · next idle _ =>
    split
    · exact (counted 0).startSensor commissioned i (by simp [idle])
    · exact (counted 1).setCondState (by simp [idle]) (by simp)
  · exact counted 0
  · next pending _ =>
    split
    · exact (counted 0).startSensor commissioned i (by simp [pending])
    · exact counted _
  · next pending _ => exact (counted 0).setCondState (by simp [pending]) (by simp)
  · exact counted 0
  · split
    · exact (counted 0).endCond _
    · exact counted _

theorem State.Logged.enterActiveTm : (enterActiveTm s).Logged := by
  have resumed := enterActiveTm_resumed s
  exact h.goesOn (by simp [Tl.Continues.refl]) resumed.sameActive resumed.probeSources (commissioned_of_power (by simp))

theorem State.Logged.sensorInputChange (i : Sensor) (shows : Bool) : (sensorInputChange i shows s).Logged := by
  unfold Machine.sensorInputChange
  dsimp only
  (repeat' split)
  · exact h
  · refine State.Logged.followInput ?_ _ _
    exact h.frame (by simp)
  · exact h.frame (by simp)

theorem State.Logged.sensorFilterExpiry (i : Sensor) : (sensorFilterExpiry i s).Logged := by
  unfold Machine.sensorFilterExpiry
  split
  · next due =>
    split
    · next pending => exact (h.setFilter _ _).startSensor (commissioned_of_active due.1) i (by simp [pending])
    · exact (h.setFilter _ _).endCond _
    · exact h.setFilter _ _
  · exact h

theorem State.Logged.deemedHoldExpiry : (deemedHoldExpiry s).Logged := by
  unfold Machine.deemedHoldExpiry
  split
  · exact (h.setTm (x := { s.tm with hold := none }) (.refl _) rfl).evaluateTamper
  · exact h

theorem State.Logged.linklossMeasure : (linklossMeasure s).Logged := by
  unfold Machine.linklossMeasure
  split
  · exact h.handMeasure _ _
  · exact h

theorem State.Logged.holdupSample : (holdupSample s).Logged := by
  unfold Machine.holdupSample
  split
  · next due =>
    have timed : (s.setPs { s.ps with sampleTimer := secondsTimer 1 }).Logged := h.frame (by simp)
    have asleep : (s.setPs { s.ps with sampleTimer := secondsTimer 1 }).commissioned := by
      simp [State.commissioned, due.1]
    have once := timed.sampleInput asleep .meterCase
    have twice := once.sampleInput (commissioned_of_power (by simp) asleep) .cover
    exact twice.sampleInput (commissioned_of_power (by simp) asleep) .mag
  · exact h

/-! ### Records (02 R16, R35) -/

theorem State.Logged.takeItem (commissioned : s.commissioned) (place : Nat) (missing : Option Nat)
    (r : IntervalRecord) : (takeItem place missing r s).Logged := by
  have observed (l : List Observation) {u : State} (hu : u.Logged) (here : u.commissioned) :
      (l.foldl (fun t o => Machine.observe o t) u).Logged := by
    induction l generalizing u with
    | nil => exact hu
    | cons o l ih => exact ih (hu.observe here o) (commissioned_of_power (by simp) here)
  have checked (here : Nat) {u : State} (hu : u.Logged) : (checkAt place here r u).Logged := hu.frame (by simp)
  unfold Machine.takeItem
  dsimp only
  refine checked 3 (observed _ ?_ (commissioned_of_power (by simp) commissioned))
  exact h.frame (by simp)

theorem State.Logged.recordTake (loadv : PerPhase Bool) : (recordTake loadv s).Logged := by
  unfold Machine.recordTake
  split
  · next r _ active _ =>
    have ready : ((s.setPins { s.pins with loadv := loadv }).setMli (s.mli.taken r)).Logged := h.frame (by simp)
    have here : ((s.setPins { s.pins with loadv := loadv }).setMli (s.mli.taken r)).commissioned :=
      commissioned_of_active active
    dsimp only
    split
    · exact State.Logged.takeItem (ready.frame (by simp)) (commissioned_of_power (by simp) here) _ _ _
    · exact ready.takeItem here _ _ _
  · exact h

/-! ### The meter link (01) -/

theorem State.Logged.arrival (r : IntervalRecord) : (arrival r s).Logged := by
  have heard : (Machine.linkGoodToTm (s.setMli { s.mli with silenceMs := 0, reported := false })).Logged := by
    refine State.Logged.linkGoodToTm ?_
    exact h.frame (by simp)
  exact heard.frame (by simp [Machine.arrival])

theorem State.Logged.burstEnd (bytes : List LineByte) : (burstEnd bytes s).Logged := by
  unfold Machine.burstEnd
  dsimp only
  (repeat' split)
  · refine State.Logged.arrival ?_ _
    exact h.frame (by simp)
  · exact h.frame (by simp)
  · exact h

theorem State.Logged.silenceReport : (silenceReport s).Logged := by
  unfold Machine.silenceReport
  split
  · next due =>
    refine State.Logged.silenceToTm (s := s.setMli _) ?_ (commissioned_of_active due.1)
    exact h.frame (by simp)
  · exact h

theorem State.Logged.suppressionTimerExpiry : (suppressionTimerExpiry s).Logged := by
  have stopped (x : Mli) : (s.setMli x).Logged := h.frame (by simp)
  unfold Machine.suppressionTimerExpiry
  split
  · next due =>
    dsimp only
    split
    · exact State.Logged.silenceToTm (s := State.setMli _ _) (stopped _) (commissioned_of_active due.1)
    · exact stopped _
  · exact h

/-! ### Codes (05) -/

theorem State.Logged.reportLockoutEnd (src : Source) : (reportLockoutEnd src s).Logged :=
  (h.lockoutEndToTm src).frame (by simp [Machine.reportLockoutEnd])

theorem State.Logged.lockoutEnd (src : Source) : (lockoutEnd src s).Logged := by
  unfold Machine.lockoutEnd endLockout
  split
  · refine State.Logged.reportLockoutEnd ?_ _
    exact h.frame (by simp)
  · exact h

theorem State.Logged.failAttempt (commissioned : s.commissioned) (src : Source) : (failAttempt src s).Logged := by
  unfold Machine.failAttempt startLockout
  dsimp only
  split
  · have locked : ((s.setAttempts src (s.ce.keys.attempts.get src - 1)).setLockout src
        (secondsTimer 3600)).Logged := h.frame (by simp)
    exact (locked.lockoutStartToTm commissioned src).frame (by simp)
  · exact h.frame (by simp)

theorem State.Logged.changeKeys (content : Nat) : (changeKeys content s).Logged := by
  have ended (before : PerSource Nat) (src : Source) {u : State} (hu : u.Logged) :
      (endIfLocked before src u).Logged := by
    unfold endIfLocked
    split
    · exact hu.reportLockoutEnd _
    · exact hu
  refine ended _ _ (ended _ _ ?_)
  exact h.frame (by simp)

theorem State.Logged.configEffect (index v : Nat) : (configEffect index v s).Logged := by
  unfold Machine.configEffect
  dsimp only
  split
  · exact h.frame (by simp)
  split
  · exact h.frame (by simp)
  split
  · exact h.frame (by simp)
  split
  · exact h.frame (by simp)
  have set : (s.setParams (s.params.setAt index v)).Logged := h.frame (by simp)
  split
  · exact set.evaluateTamper
  · exact set

theorem State.Logged.applied (o : CodeOutcome) (c : Code) (detail : List Byte) : (apply o c detail s).state.Logged :=
  h.frame (by simp)

theorem State.Logged.completeGroup (g : PendingGroup) (c : Code) : (completeGroup g c s).state.Logged := by
  unfold Machine.completeGroup
  dsimp only
  split
  · exact h.frame (by simp)
  · exact h.frame (by simp)
  · unfold applyKeyGroup
    split
    · exact h.frame (by simp)
    · refine State.Logged.changeKeys (s := s.setGroup none) ?_ _
      exact h.frame (by simp)

theorem State.Logged.applyPart (cls : GroupClass) (src : Source) (c : Code) : (applyPart cls src c s).state.Logged := by
  unfold Machine.applyPart
  dsimp only
  (repeat' split)
  · exact h.frame (by simp)
  · exact h
  · exact h.completeGroup _ _
  · exact h.frame (by simp)

theorem State.Logged.applyCode (src : Source) (c : Code) (day : Int) : (applyCode src c day s).state.Logged := by
  unfold Machine.applyCode
  split
  · exact h.frame (by simp)
  · exact h.frame (by simp)
  · exact h.frame (by simp)
  · exact State.Logged.applied ((h.clearLatches _ _).setTl (Tl.continues_clear _ _ _)) _ _ _
  · unfold applySetConfig
    dsimp only
    split
    · exact (h.configEffect _ _).applied _ _ _
    · exact h
  · exact h.frame (by simp)
  · exact h.frame (by simp)
  · exact h.frame (by simp)
  · split
    · exact h.applyPart _ _ _
    · exact h

theorem State.Logged.judgeCode (commissioned : s.commissioned) (src : Source) (chars : List Byte) :
    (judgeCode src chars s).state.Logged := by
  rcases judgeCode_cases src chars s with same | failed | ⟨c, judged⟩
  · rw [same]; exact h
  · rw [failed]; exact h.failAttempt commissioned src
  have passed : (passAuthentic src c s).Logged := h.frame (by simp)
  rw [judged]
  rcases judgeAuthentic_cases src c (passAuthentic src c s) with same | ⟨-, applied⟩
  · rw [same]; exact passed
  · rw [applied]; exact passed.applyCode _ _ _

/-! ### Entries to ACTIVE (10 R165, 11 R173) -/

theorem State.Logged.entry (a : EntryAction) : (a.run s).Logged := by
  cases a with
  | calendarAndCredit => exact h.frame (by simp [EntryAction.run])
  | switch => exact h.frame (by simp [EntryAction.run])
  | limiterAndTamper =>
    have lapsed : (lapseTest s).Logged := h.frame (by simp)
    exact lapsed.enterActiveTm

theorem State.Logged.entries (l : List EntryAction) : (l.foldl (fun t a => a.run t) s).Logged := by
  induction l generalizing s with
  | nil => exact h
  | cons a rest ih => exact ih (h.entry a)

theorem State.Logged.startActive : (startActive s).Logged := h.frame (by simp)

theorem State.Logged.enterActive : (enterActive s).Logged :=
  (h.startActive.entries (entryOrder s.free)).frame (by simp [Machine.enterActive])

end

/-! ### Fresh conditions and those of an image (08 R150, R151, 10 R169) -/

/-- COMMISSION gives every ongoing record an end, and TM starts afresh (08 R151, 11 R173). -/
theorem commissionTamper_logged {s : State} (ordered : s.tl.Ordered) : (commissionTamper s).Logged := by
  have closed := s.tl.continues_closeUnclaimed (fun _ => false) s.clock
  refine State.Logged.evaluateTamper ⟨closed.ordered ordered, fun r mem unended => ?_, nofun⟩
  nomatch Tl.ongoing_claimed mem unended

theorem commissioned_logged (r : CommissionRequest) {s : State} (ordered : s.tl.Ordered) :
    (Machine.commissioned r s).Logged := by
  have ended := commissionTamper_logged (s := commissionLedger r (commissionBlocks r (commissionCalendar r s)))
    (by simpa [commissionLedger, commissionCalendar] using ordered)
  refine State.Logged.entries (State.Logged.startActive ?_) _
  exact ended.goesOn (.refl _) (.refl _) rfl fun _ => commissioned_of_active rfl

/-- A restore closes every ongoing record that no condition of the image claims; one that is claimed stays claimed,
because its record is ongoing in the log (08 R150). -/
theorem restoredBy_logged {s : State} {img : Image} (ordered : s.tl.Ordered)
    (probe : probeSound img.contents.conds img.contents.probeSources) : (s.restoredBy img).Logged where
  ordered := (s.tl.continues_closeUnclaimed _ _).ordered ordered
  claims r mem unended := by
    refine ⟨commissioned_of_active rfl, (claimed_iff _ _).mpr ?_⟩
    obtain ⟨k, active, serial⟩ := (claimed_iff img.contents.conds r.serial).mp (Tl.ongoing_claimed mem unended)
    obtain ⟨q, held, ongoing, same⟩ := (s.tl.continues_closeUnclaimed _ _).ongoing r mem unended
    refine ⟨k, by rwa [restoredBy_conds], ?_⟩
    rw [restoredBy_conds, Cond.recordIn_of_serial serial, if_neg]
    exact fun lost => lost.2 q held same ongoing
  probe active := probe (by
    have kept := congrArg Cond.state (restoredBy_conds s img .probe)
    exact kept ▸ active)

/-- In a part that is not commissioned TM holds nothing, and every record has its end (10 R169, log 18). -/
theorem manufactured_logged {power : Power} {tl : Tl} (s : State) (ordered : tl.Ordered)
    (ended : ∀ r ∈ tl.records, r.stop ≠ none) : (manufactured power tl s).Logged :=
  ⟨ordered, fun r mem unended => absurd unended (ended r mem), nofun⟩

theorem enterShelf_logged {s : State} (ordered : s.tl.Ordered) : (enterShelf s).Logged :=
  manufactured_logged s ((s.tl.continues_closeUnclaimed _ _).ordered ordered) fun _ mem unended =>
    nomatch Tl.ongoing_claimed mem unended

end Sys2Proof.Machine
end

section
/-! The law of the tamper log in the running state and in the images of the checkpoint (09 R157, 10 R167): requests,
the power supervisor, the step. -/

namespace Sys2Proof.Machine

@[simp] theorem Ps.store_power (x : Ps) (w : Write) (good : Bool) : (x.store w good).power = x.power := by
  unfold Ps.store
  split <;> rfl

@[simp] theorem restartPeriodic_power (s : State) : (restartPeriodic s).ps.power = s.ps.power := by
  unfold restartPeriodic
  split <;> rfl

@[simp] theorem writeFollows_power (occ : Occasion) (good : Bool) (s : State) :
    (writeFollows occ good s).ps.power = s.ps.power := by
  cases occ <;> rfl

/-- A SUBMIT_CODE request is executed in ACTIVE alone (12 R181). -/
theorem submitCode_active {kind : Byte} {payload : List Byte} {power : Power}
    (passes : refusal kind payload power = none) (submit : kind.toNat = 0x10) : power = .active := by
  unfold refusal at passes
  split_ifs at passes with _ _ served
  simpa [submit, servedIn] using served

section
variable {s t : State} (h : LogSound s)
include h

theorem LogSound.logged : s.Logged := ((logSound_iff s).mp h).1

theorem LogSound.image {img : Image} (mem : img ∈ s.images) :
    probeSound img.contents.conds img.contents.probeSources := ((logSound_iff s).mp h).2 img mem

/-- The running state keeps the law, and an image that is added holds what the state before holds. -/
theorem LogSound.moves (running : t.Logged) (images : ∀ img ∈ t.images, img ∈ s.images ∨ img.contents = s.snapshot) :
    LogSound t := by
  refine (logSound_iff t).mpr ⟨running, fun img mem => ?_⟩
  rcases images img mem with held | now
  · exact h.image held
  · rw [now]
    exact h.logged.probe

/-- The power supervisor stays. -/
theorem LogSound.running (running : t.Logged) (ps : t.ps = s.ps) : LogSound t :=
  h.moves running fun img mem => .inl (by rwa [State.images, ps] at mem)

theorem LogSound.frame (same : t.tl = s.tl ∧ t.tm = s.tm ∧ t.ps = s.ps) : LogSound t := by
  obtain ⟨tl, tm, ps⟩ := same
  exact h.running (h.logged.frame ⟨tl, tm, by rw [ps]⟩) ps

/-- The power supervisor moves, and holds the images it held. -/
theorem LogSound.power {x : Ps} (images : ∀ img ∈ x.images, img ∈ s.images)
    (commissioned : s.commissioned → (s.setPs x).commissioned) : LogSound (s.setPs x) :=
  h.moves (h.logged.goesOn (.refl _) (.refl _) rfl commissioned) fun img mem => .inl (images img mem)

/-- A start of the core keeps the images of the two slots, and the write under way is lost. -/
theorem LogSound.slots (running : t.Logged) (a : t.ps.slotA = s.ps.slotA) (b : t.ps.slotB = s.ps.slotB)
    (write : t.ps.write = none) : LogSound t :=
  h.moves running fun img mem => .inl <| by
    rw [State.images, Ps.mem_images, a, b, write] at mem
    exact (s.ps.mem_images img).mpr (mem.imp_right (Or.imp_right (by simp)))

/-! ### The checkpoint (10 R167) -/

theorem LogSound.startWrite (occ : Occasion) : LogSound (startWrite occ s) :=
  h.moves (h.logged.frame (by simp)) fun _ mem => mem_images_startWrite mem

theorem LogSound.beginNext : LogSound (beginNext s) := by
  unfold Machine.beginNext
  split
  · exact h.moves (h.logged.frame (by simp)) fun _ mem => mem_images_beginWrite mem
  · exact h

theorem LogSound.enterDormant : LogSound (enterDormant s) := by
  have asleep := h.power (x := { s.ps with
    power := .dormant, vmainTimer := waitForMains s.pins.vmain, sampleTimer := none, returnHeld := false })
    (fun _ mem => mem) fun _ => by simp [State.commissioned]
  exact asleep.startWrite _

theorem LogSound.enterHoldup : LogSound (enterHoldup s) := by
  have running : (departBlocks s).Logged := h.logged.goesOn (.refl _) (.refl _) rfl fun _ => by
    simp [State.commissioned, departBlocks, Ps.enterHoldup]
  have departed : LogSound (departBlocks s) := h.moves running fun _ mem => .inl mem
  have held := departed.startWrite .holdupEntry
  unfold Machine.enterHoldup
  dsimp only
  split
  · exact held
  · exact held.enterDormant

theorem LogSound.startPeriodic : LogSound (startPeriodic s) := by
  have waits (x : Hlc) : LogSound (s.setHlc x) := h.frame (by simp)
  exact (waits _).startWrite _

theorem LogSound.writeDone (good : Bool) : LogSound (writeDone good s) := by
  unfold Machine.writeDone
  split
  · next w writing =>
    have stored : LogSound (s.setPs (s.ps.store w good)) :=
      h.power (fun _ mem => mem_images_store writing mem) (commissioned_of_power (by simp))
    have restarted : LogSound (restartPeriodic (s.setPs (s.ps.store w good))) :=
      stored.moves (stored.logged.frame (by simp)) fun _ mem => .inl (by rwa [restartPeriodic_images] at mem)
    have followed : LogSound (writeFollows w.img.occasion good (restartPeriodic (s.setPs (s.ps.store w good)))) :=
      restarted.moves (restarted.logged.frame (by simp)) fun _ mem => .inl (by rwa [writeFollows_images] at mem)
    have begun := followed.beginNext
    dsimp only [releaseHoldup]
    split
    · exact begun.enterHoldup
    · exact begun
  · exact h

/-! ### Requests (12 R180) -/

theorem LogSound.submitCode (commissioned : s.commissioned) (payload : List Byte) :
    LogSound (doSubmitCode payload s) := by
  have judged : LogSound (judgeCode (sourceOf (fieldAt payload 0 1)) payload.tail s).state :=
    h.running (h.logged.judgeCode commissioned _ _) (by simp)
  unfold doSubmitCode replyJudged
  dsimp only
  split
  · refine LogSound.startWrite ?_ _
    exact judged.frame (by simp)
  · exact judged.frame (by simp)

theorem LogSound.commission (r : CommissionRequest) (reply : Reply) : LogSound (commission r reply s) := by
  have done : LogSound (Machine.commissioned r s) := h.moves (commissioned_logged r h.logged.ordered)
    fun _ mem => .inl (commissioned_images r s ▸ mem)
  rw [commission_eq]
  refine LogSound.startWrite ?_ _
  exact done.frame (by simp)

theorem LogSound.runRequest (kind : Byte) (payload : List Byte) (passes : refusal kind payload s.ps.power = none) :
    LogSound (runRequest kind payload s) := by
  unfold Machine.runRequest
  split
  iterate 8 exact h.frame (by simp)
  · next submit => exact h.submitCode (commissioned_of_active (submitCode_active passes submit)) payload
  · exact h.frame (by simp)
  · exact h.frame (by simp)
  · exact h.commission _ _
  · exact h

theorem LogSound.takeFrame (kind : Byte) (payload : List Byte) : LogSound (takeFrame kind payload s) := by
  unfold Machine.takeFrame takeRequest
  (repeat' split)
  · exact h.frame (by simp)
  · next passes => exact h.runRequest kind payload passes
  · exact h.frame (by simp)
  · exact h

theorem LogSound.receiveByte (b : LineByte) : LogSound (receiveByte s b) := by
  have hunts (rx : Option PartialFrame) : LogSound (s.setRx rx) := h.frame (by simp)
  unfold Machine.receiveByte collectByte frameComplete
  dsimp only
  (repeat' split)
  · exact hunts _
  · exact hunts _
  · exact h
  · exact hunts _
  · exact hunts _
  · exact (hunts none).takeFrame _ _
  · exact hunts _
  · exact h

theorem LogSound.receiveBytes (bytes : List LineByte) : LogSound (bytes.foldl Machine.receiveByte s) := by
  induction bytes generalizing s with
  | nil => exact h
  | cons b rest ih => exact ih (h.receiveByte b)

/-! ### The power supervisor (10 R165, R169, R170) -/

theorem LogSound.warmReturn : LogSound (warmReturn s) := by
  have back := h.power (x := { s.ps with
    power := .active, periodic := secondsTimer 3600, vmainTimer := none, sampleTimer := none, returnHeld := false })
    (fun _ mem => mem) fun _ => commissioned_of_active rfl
  have warmed : LogSound s.warmed := back.frame (by simp [State.warmed])
  rw [warmReturn_eq]
  exact warmed.running warmed.logged.enterActive (by simp)

theorem LogSound.startCore : LogSound (startCore s) := by
  cases newest : s.ps.newest with
  | some found =>
    obtain ⟨place, img⟩ := found
    rw [startCore_of_image newest]
    have restored := restoredBy_logged h.logged.ordered (h.image (Ps.mem_images_of_newest newest))
    exact h.slots restored.enterActive (by simp [State.restoredBy, restoredState, Ps.restored])
      (by simp [State.restoredBy, restoredState, Ps.restored])
      (by simp [State.restoredBy, restoredState, Ps.restored, Ps.manufacture])
  | none =>
    rw [startCore_of_none newest]
    exact h.slots (enterShelf_logged h.logged.ordered) rfl rfl rfl

theorem LogSound.doReturn : LogSound (doReturn s) := by
  unfold Machine.doReturn
  split
  · exact h.warmReturn
  · exact h.startCore

/-- A part in SHELF has no ongoing record to lose with its conditions (10 R162, log 18). -/
theorem LogSound.shelfPowerLoss : LogSound (shelfPowerLoss s) := by
  unfold Machine.shelfPowerLoss
  split
  · next due =>
    refine h.slots (manufactured_logged s h.logged.ordered fun r mem unended => ?_) rfl rfl rfl
    exact (h.logged.claims r mem unended).1.1 due.1
  · exact h

/-! ### The step -/

theorem LogSound.tick : LogSound (tick s) := by
  have running : (passMs s).Logged := by
    unfold passMs
    split
    all_goals exact h.logged.goesOn (.refl _) (.refl _) rfl id
  have passed : LogSound (passMs s) := h.moves running fun img mem => .inl (passMs_images s ▸ mem)
  exact passed.frame (by simp [Machine.tick])

end

theorem exec_logSound {c : Instr} {s t : State} (h : LogSound s) (run : exec c s = .next t) : LogSound t := by
  cases c <;> obtain rfl := Host.Outcome.next.inj run
  case identify | getStatus | getLedger | getEnergy | getTariff | getTime | getEvents | readTamperLog | submitCode |
      restore | acceptEmergency | trimClock | commission | badKind | busy => exact h.takeFrame _ _
  case frameDiscard bytes => exact h.receiveBytes bytes
  case burstEnd bytes => exact h.running (h.logged.burstEnd bytes) (by simp)
  case silenceReport => exact h.running h.logged.silenceReport (by simp)
  case suppressionTimerExpiry => exact h.running h.logged.suppressionTimerExpiry (by simp)
  case recordTake loadv => exact h.running (h.logged.recordTake loadv) (by simp)
  case sensorInputChange i shows => exact h.running (h.logged.sensorInputChange i shows) (by simp)
  case sensorFilterExpiry i => exact h.running (h.logged.sensorFilterExpiry i) (by simp)
  case deemedHoldExpiry => exact h.running h.logged.deemedHoldExpiry (by simp)
  case linklossMeasure => exact h.running h.logged.linklossMeasure (by simp)
  case lockoutEnd src => exact h.running (h.logged.lockoutEnd src) (by simp)
  case holdupSample =>
    refine h.moves h.logged.holdupSample fun img mem => .inl ?_
    unfold Machine.holdupSample at mem
    split at mem
    · simpa [State.images, Ps.images] using mem
    · exact mem
  case silenceTick | tcEdgeEvaluation | clockAdvance | recloseTimerExpiry | recloseWindowExpiry | frameTimeout |
      replySent | linkResetAssert | linkResetRelease | groupTimeout | coilPulseEnd | pulseCleared | coilCutoff |
      settleEnd | weldRetryExpiry => exact h.frame (by simp)
  case vmainFall | vmainRise =>
    simp only [vmainFall, vmainRise]
    (repeat' split) <;> exact h
  case holdupEntry vback =>
    have seen : LogSound (s.setPins { s.pins with vback := vback }) := h.frame (by simp)
    unfold holdupEntry
    dsimp only
    (repeat' split)
    case h_1 => exact h
    case isFalse => exact h
    all_goals exact seen.enterHoldup
  case shelfPowerLoss => exact h.shelfPowerLoss
  case returnDecision =>
    unfold returnDecision
    (repeat' split)
    · exact h
    · exact h.doReturn
    · exact h
  case deferredReturn =>
    unfold deferredReturn
    split
    · exact h.doReturn
    · exact h
  case dormantEntry =>
    have low : LogSound (s.setPins { s.pins with vback := false }) := h.frame (by simp)
    unfold dormantEntry
    dsimp only
    split
    · exact low.enterDormant
    · exact low
  case powerUp =>
    unfold powerUp
    split
    · exact h.startCore
    · exact h
  case periodicCheckpoint =>
    unfold periodicCheckpoint
    (repeat' split)
    · exact LogSound.startPeriodic (s := s.setPs _) h
    · exact h
    · exact h
  case deferredPeriodicWrite =>
    unfold deferredPeriodicWrite
    split
    · exact LogSound.startPeriodic (s := s.setPs _) h
    · exact h
  case checkpointWriteDone good => exact h.writeDone good
  case holdUpReserveExhaustion =>
    unfold reserveExhausted
    split
    · exact h.writeDone false
    · exact h

/-- Settles O8: each command keeps the law of the log, and so does the passing of a millisecond. -/
theorem stepKeepsLogLaw : Obligations.StepKeepsLogLaw := by
  intro s t h run
  unfold step at run
  split at run
  · next c rest _ => exact exec_logSound (s := s.setPending rest) h run
  · obtain rfl := Host.Outcome.next.inj run
    exact h.tick

end Sys2Proof.Machine
end

section
/-! READ_TAMPER_LOG (09 R160, 12 R183): each record is fifteen bytes, and each of its fields is read back. -/

namespace Sys2Proof.Machine

/-! ### Items of one length, one behind the other -/

section
variable {α : Type} {f : α → List Byte} {n : Nat} (each : ∀ a, (f a).length = n)
include each

theorem length_items (l : List α) : (l.flatMap f).length = n * l.length := by
  simp [List.length_flatMap, each, Nat.mul_comm]

theorem drop_items (l : List α) (i : Nat) : (l.flatMap f).drop (n * i) = (l.drop i).flatMap f := by
  induction l generalizing i with
  | nil => simp
  | cons a l ih =>
    cases i with
    | zero => simp
    | succ i => simp [List.drop_append, each, Nat.mul_succ, ih, List.drop_eq_nil_of_le]

/-- A field of an item is read at the item's place. -/
theorem fieldAt_item {l : List α} {i : Nat} {a : α} (there : l[i]? = some a) :
    ∃ rest, ∀ off len, fieldAt (l.flatMap f) (n * i + off) len = fieldAt (f a ++ rest) off len := by
  refine ⟨(l.drop (i + 1)).flatMap f, fun off len => ?_⟩
  obtain ⟨lt, own⟩ := List.getElem?_eq_some_iff.mp there
  rw [fieldAt_drop, drop_items each, List.drop_eq_getElem_cons lt, own, List.flatMap_cons]

end

/-! ### The bytes of a record (12 R183) -/

theorem TamperRecord.length_bytes (r : TamperRecord) : r.bytes.length = 15 := by simp [TamperRecord.bytes]

/-- Two bytes read as one field. -/
theorem fieldAt_pair (a b : Nat) (rest : List Byte) :
    fieldAt (bytesOf 1 a ++ (bytesOf 1 b ++ rest)) 0 2 = a % 256 * 256 + b % 256 := by
  simp [bytesOf, fieldAt, natOf]

theorem CondId.number_le (c : CondId) : c.number ≤ 15 := by
  cases c with
  | vloss p | reverse p | bypass p => cases p <;> decide
  | _ => decide

/-- The condition's number stands above the four flags, each of which is read at its bit. -/
theorem flagByte (c : CondId) (a b d e : Bool) :
    let sent := (c.number * 16 + bitField [a, b, d, e]) % 256 ^ 1
    sent / 16 = c.number ∧ sent.testBit 3 = e ∧ sent.testBit 2 = d ∧ sent.testBit 1 = b ∧ sent.testBit 0 = a := by
  have number := c.number_le
  have flags : bitField [a, b, d, e] < 16 := by cases a <;> cases b <;> cases d <;> cases e <;> decide
  have fits : (c.number * 16 + bitField [a, b, d, e]) % 256 ^ 1 = 2 ^ 4 * c.number + bitField [a, b, d, e] := by omega
  have low (j : Nat) (lt : j < 4) :
      (2 ^ 4 * c.number + bitField [a, b, d, e]).testBit j = (bitField [a, b, d, e]).testBit j := by
    rw [Nat.testBit_two_pow_mul_add _ flags, if_pos lt]
  intro sent
  simp only [sent, fits]
  refine ⟨by omega, ?_⟩
  rw [low 3 (by decide), low 2 (by decide), low 1 (by decide), low 0 (by decide)]
  cases a <;> cases b <;> cases d <;> cases e <;> decide

/-- The two actions stand above the extreme's upper bits. -/
theorem actionByte (deemed latch : Bool) {q : Nat} (lt : q < 64) :
    let sent := (deemed.toNat * 128 + latch.toNat * 64 + q) % 256 ^ 1
    sent.testBit 7 = deemed ∧ sent.testBit 6 = latch ∧ sent % 64 = q := by
  have high : deemed.toNat ≤ 1 ∧ latch.toNat ≤ 1 := ⟨deemed.toNat_le, latch.toNat_le⟩
  have fits : (deemed.toNat * 128 + latch.toNat * 64 + q) % 256 ^ 1 =
      2 ^ 6 * (deemed.toNat * 2 + latch.toNat) + q := by omega
  have above (j : Nat) : (2 ^ 6 * (deemed.toNat * 2 + latch.toNat) + q).testBit (6 + j) =
      (deemed.toNat * 2 + latch.toNat).testBit j := by
    rw [Nat.testBit_two_pow_mul_add _ lt, if_neg (by omega), Nat.add_sub_cancel_left]
  intro sent
  simp only [sent, fits]
  refine ⟨?_, ?_, by omega⟩
  · rw [above 1]; cases deemed <;> cases latch <;> decide
  · rw [above 0]; cases deemed <;> cases latch <;> decide

theorem TamperRecord.extremeSent_le (r : TamperRecord) : r.extremeSent ≤ 16383 := by
  unfold TamperRecord.extremeSent
  dsimp only
  split <;> omega

/-- What the fifteen bytes of a record say, read by offset and length. -/
structure TamperRecord.ReadBy (r : TamperRecord) (field : Nat → Nat → Nat) : Prop where
  serial : field 0 4 = r.serial
  number : field 4 1 / 16 = r.cond.number
  ended : (field 4 1).testBit 3 = r.stop.isSome
  clockValid : (field 4 1).testBit 2 = r.clockValid
  inHoldup : (field 4 1).testBit 1 = r.inHoldup
  opens : (field 4 1).testBit 0 = r.actions.opens
  deemed : (field 5 1).testBit 7 = r.actions.deemed
  latch : (field 5 1).testBit 6 = r.actions.latch
  extreme : field 5 2 % 16384 = r.extremeSent
  start : field 7 4 = r.start
  stop : field 11 4 = r.stop.getD 0

/-- The numbers of a record fit in its four-byte fields. -/
def TamperRecord.Fits (r : TamperRecord) : Prop :=
  r.serial < 4294967296 ∧ r.start < 4294967296 ∧ r.stop.getD 0 < 4294967296

theorem TamperRecord.readBy_bytes {r : TamperRecord} (fits : r.Fits) (rest : List Byte) :
    r.ReadBy (fieldAt (r.bytes ++ rest)) := by
  obtain ⟨serial, start, stop⟩ := fits
  have le := r.extremeSent_le
  obtain ⟨number, ended, clockValid, inHoldup, opens⟩ :=
    flagByte r.cond r.actions.opens r.inHoldup r.clockValid r.stop.isSome
  obtain ⟨deemed, latch, upper⟩ := actionByte r.actions.deemed r.actions.latch (q := r.extremeSent / 256) (by omega)
  constructor
  all_goals simp (disch := decide) only [TamperRecord.bytes, List.append_assoc, fieldAt_skip, fieldAt_here,
    fieldAt_pair, Nat.reduceSub]
  case serial => exact Nat.mod_eq_of_lt serial
  case start => exact Nat.mod_eq_of_lt start
  case stop => exact Nat.mod_eq_of_lt stop
  case extreme => omega
  all_goals assumption

/-- A record of a list is read fifteen bytes on for each record before it. -/
theorem TamperRecord.readBy_list {l : List TamperRecord} {i : Nat} {r : TamperRecord} (there : l[i]? = some r)
    (fits : r.Fits) : r.ReadBy fun off len => fieldAt (l.flatMap TamperRecord.bytes) (15 * i + off) len := by
  obtain ⟨rest, own⟩ := fieldAt_item TamperRecord.length_bytes there
  simp only [own]
  exact TamperRecord.readBy_bytes fits rest

/-- The extreme in kind units up to 16,383, by the condition. -/
theorem TamperRecord.extremeSent_eq (r : TamperRecord) : r.extremeSent =
    match r.extreme with
    | none => 0
    | some m =>
      match r.cond with
      | .neutral => min 16383 (m.natAbs / 10)
      | .bypass _ => min 16383 (m.natAbs / 10)
      | .reverse _ => min 16383 (m.natAbs / 2)
      | .linkloss => min 16383 (m.natAbs / 4)
      | .meterCase => 0
      | .cover => 0
      | .mag => 0
      | .vloss _ => 0
      | .probe => 0 := by
  unfold TamperRecord.extremeSent
  cases r.extreme <;> cases r.cond <;> rfl

/-! ### The request (12 R180) -/

/-- A request that fails a check on a ready link is answered with its status alone. -/
theorem takeFrame_of_refused {s : State} (hs : s.ready) {kind : Byte} {payload : List Byte} {st : Status}
    (fits : payload.length ≤ 63) (request : kind.toNat < 0x80)
    (refused : refusal kind payload s.ps.power = some st) :
    takeFrame kind payload s = s.replying (replyTo kind st []) := by
  obtain ⟨served, slot, -⟩ := id hs
  simp [takeFrame, frameDelivered, takeRequest, served, fits, request, slot, refused, handReply_of_ready hs]

/-- The payload of a READ_TAMPER_LOG request is refused by its two fields alone (09 R160). -/
theorem refusal_readTamperLog (start count : Byte) (power : Power) : refusal 0x08#8 [start, count] power =
    if 1 ≤ count.toNat ∧ count.toNat ≤ 4 ∧ (start.toNat ≤ 63 ∨ start.toNat = 255) then none else some .badValue := by
  have checked : refusal 0x08#8 [start, count] power =
      if fieldsGood (0x08#8 : Byte).toNat [start, count] = false then some .badValue else none := rfl
  have fields : fieldsGood (0x08#8 : Byte).toNat [start, count] =
      (decide (1 ≤ fieldAt [start, count] 1 1) && decide (fieldAt [start, count] 1 1 ≤ 4) &&
        (decide (fieldAt [start, count] 0 1 ≤ 63) || fieldAt [start, count] 0 1 == 255)) := rfl
  have good : fieldsGood (0x08#8 : Byte).toNat [start, count] = true ↔
      1 ≤ count.toNat ∧ count.toNat ≤ 4 ∧ (start.toNat ≤ 63 ∨ start.toNat = 255) := by
    rw [fields, fieldAt_head, fieldAt_cons, fieldAt_head]
    simp [and_assoc]
  simp only [checked, ← good]
  cases fieldsGood (0x08#8 : Byte).toNat [start, count] <;> rfl

theorem exec_readTamperLog {s : State} (hs : s.ready) {start count : Byte} (low : 1 ≤ count.toNat)
    (high : count.toNat ≤ 4) (asked : start.toNat ≤ 63 ∨ start.toNat = 255) :
    exec (.readTamperLog [start, count]) s =
      .next (s.replying ⟨0x88#8, 0x00#8 :: logReply s.tl start.toNat count.toNat⟩) := by
  have passes : refusal 0x08#8 [start, count] s.ps.power = none := by
    rw [refusal_readTamperLog, if_pos ⟨low, high, asked⟩]
  have run : takeFrame 0x08#8 [start, count] s = replyOk 0x08#8 (logReply s.tl start.toNat count.toNat) s := by
    rw [takeFrame_of_ready hs (by simp) (by decide) passes]
    show replyOk 0x08#8 (logReply s.tl (fieldAt [start, count] 0 1) (fieldAt [start, count] 1 1)) s = _
    rw [fieldAt_head, fieldAt_cons, fieldAt_head]
  exact congrArg Host.Outcome.next (run.trans (handReply_of_ready hs _))

theorem logRead_at {x : Tl} {start count i : Nat} (lt : i < count) :
    (logRead x start count)[i]? = x.records[start + i]? := by
  simp [logRead, lt]

/-- Settles O25: the request's fields say what is asked, and each reply is walked from its front. -/
theorem tamperLogIsRead : Obligations.TamperLogIsRead := by
  intro s start count hs fits room nextFits counts
  have lengthSent : s.tl.records.length % 256 ^ 1 = s.tl.records.length := Nat.mod_eq_of_lt (by omega)
  refine ⟨fun low high asked => ?records, fun low high asked => ?summary, fun refused => ?bad⟩
  case records =>
    have reply : logReply s.tl start.toNat count.toNat = bytesOf 1 s.tl.records.length ++
        (logRead s.tl start.toNat count.toNat).flatMap TamperRecord.bytes := if_neg (by omega)
    refine ⟨_, exec_readTamperLog hs low high (.inl asked), rfl, fieldAt_head _ _, ?_, ?_, fun i x lt there => ?_⟩
    · rw [reply, fieldAt_cons, fieldAt_here, lengthSent]
    · simp [reply, length_items TamperRecord.length_bytes, logRead]
      omega
    · have own : (logRead s.tl start.toNat count.toNat)[i]? = some x := (logRead_at lt).trans there
      have read := TamperRecord.readBy_list own (fits x (List.mem_of_getElem? there))
      have placed (off len : Nat) : fieldAt (0x00#8 :: logReply s.tl start.toNat count.toNat) (2 + 15 * i + off) len =
          fieldAt ((logRead s.tl start.toNat count.toNat).flatMap TamperRecord.bytes) (15 * i + off) len := by
        rw [reply, Nat.add_assoc, fieldAt_drop]
        rfl
      simp only [← placed] at read
      obtain ⟨serial, number, ended, clockValid, inHoldup, opens, deemed, latch, extreme, start, stop⟩ := read
      exact ⟨serial, number, ended, clockValid, inHoldup, opens, deemed, latch, extreme.trans x.extremeSent_eq, start,
        stop⟩
  case summary =>
    have reply : logReply s.tl start.toNat count.toNat = logSummary s.tl := if_pos asked
    refine ⟨_, exec_readTamperLog hs low high (.inr asked), rfl, ?_, fieldAt_head _ _, ?_, ?_, ?_, fun i k named => ?_⟩
    · simp [reply, logSummary, PerKind.toList, allKinds]
    · rw [reply, fieldAt_cons, logSummary, List.append_assoc, List.append_assoc, fieldAt_here, lengthSent]
    · simp (disch := decide) only [reply, logSummary, List.append_assoc, fieldAt_cons, fieldAt_skip, fieldAt_here,
        Nat.reduceSub]
      exact Nat.mod_eq_of_lt nextFits
    · simp (disch := decide) only [reply, logSummary, List.append_assoc, fieldAt_cons, fieldAt_skip, fieldAt_here,
        Nat.reduceSub]
      exact bool_sent _
    · have own : s.tl.unrecorded.toList[i]? = some (s.tl.unrecorded.get k) :=
        List.getElem?_map.trans (congrArg (Option.map _) named)
      obtain ⟨rest, item⟩ := fieldAt_item (length_bytesOf 2) own
      rw [reply, fieldAt_drop]
      refine (item 0 2).trans ?_
      rw [fieldAt_here]
      exact Nat.mod_eq_of_lt (Nat.lt_succ_of_le (counts k))
  case bad =>
    refine congrArg Host.Outcome.next (takeFrame_of_refused hs (payload := [start, count]) (st := .badValue)
      (by simp) (by decide) ?_)
    rw [refusal_readTamperLog, if_neg (by omega)]

end Sys2Proof.Machine
end

section
/-! VMAIN's threshold crossings (10 R162): what a fall and a rise do in each power state. -/

namespace Sys2Proof.Machine

section
variable {s : State}

theorem vmainFall_of_running (high : s.pins.vmain = true) (running : s.ps.power = .active ∨ s.ps.power = .shelf) :
    vmainFall s = (s.setPins { s.pins with vmain := false }).setPs { s.ps with vmainTimer := some 20 } := by
  rcases running with power | power <;> rw [vmainFall, if_pos high, power]

theorem vmainFall_of_holdup (high : s.pins.vmain = true) (holdup : s.ps.power = .holdup) : vmainFall s =
    (s.setPins { s.pins with vmain := false }).setPs { s.ps with vmainTimer := none, returnHeld := false } := by
  rw [vmainFall, if_pos high, holdup]

theorem vmainFall_of_waiting (high : s.pins.vmain = true) (waiting : s.ps.power = .dormant ∨ s.ps.power = .off) :
    vmainFall s = (s.setPins { s.pins with vmain := false }).setPs { s.ps with vmainTimer := none } := by
  rcases waiting with power | power <;> rw [vmainFall, if_pos high, power]

theorem vmainRise_of_running (low : s.pins.vmain = false) (running : s.ps.power = .active ∨ s.ps.power = .shelf) :
    vmainRise s = (s.setPins { s.pins with vmain := true }).setPs { s.ps with vmainTimer := none } := by
  rcases running with power | power <;> rw [vmainRise, if_neg (by simp [low]), power]

theorem vmainRise_of_waiting (low : s.pins.vmain = false) (waiting : ¬(s.ps.power = .active ∨ s.ps.power = .shelf)) :
    vmainRise s = (s.setPins { s.pins with vmain := true }).setPs { s.ps with vmainTimer := some 500 } := by
  rw [vmainRise, if_neg (by simp [low])]
  cases power : s.ps.power with
  | active => exact absurd (.inl power) waiting
  | shelf => exact absurd (.inr power) waiting
  | holdup => rfl
  | dormant => rfl
  | off => rfl

end

/-- Settles O57, by the power state that each crossing finds. -/
theorem mainsCrossingsAreDebounced : Obligations.MainsCrossingsAreDebounced := by
  intro s
  refine ⟨fun high => ⟨fun running => ?_, fun holdup => ?_, fun waiting => ?_⟩, fun low => ⟨fun running => ?_,
    fun waiting => ?_⟩, fun shelf low expired => ?_⟩
  · exact congrArg Host.Outcome.next (vmainFall_of_running high running)
  · exact congrArg Host.Outcome.next (vmainFall_of_holdup high holdup)
  · exact congrArg Host.Outcome.next (vmainFall_of_waiting high waiting)
  · exact congrArg Host.Outcome.next (vmainRise_of_running low running)
  · exact congrArg Host.Outcome.next (vmainRise_of_waiting low waiting)
  · have due : timerDue s.ps.vmainTimer = true := by simp [timerDue, expired]
    exact congrArg Host.Outcome.next (if_pos ⟨shelf, due, low⟩)

end Sys2Proof.Machine
end

section
/-! The end of a checkpoint write (10 R163, R166 to R168): the newest valid image before and after it, what follows it
by its occasion, and the periodic write. -/

namespace Sys2Proof.Machine

/-! ### The two slots (10 R167) -/

/-- The newest valid image is read from the two slots alone. -/
theorem Ps.newest_congr {x y : Ps} (a : x.slotA = y.slotA) (b : x.slotB = y.slotB) : x.newest = y.newest := by
  rw [Ps.newest, Ps.newest, a, b]

/-- The newest valid image is the valid image of its slot; without one neither slot holds any. -/
theorem Ps.newest_cases (x : Ps) : (x.newest = none ∧ x.slotA.valid = none ∧ x.slotB.valid = none) ∨
    (∃ i, x.newest = some (.a, i) ∧ x.slotA.valid = some i) ∨
    ∃ j, x.newest = some (.b, j) ∧ x.slotB.valid = some j := by
  unfold Ps.newest
  cases a : x.slotA.valid with
  | none =>
    cases b : x.slotB.valid with
    | none => exact .inl ⟨rfl, rfl, rfl⟩
    | some j => exact .inr (.inr ⟨j, rfl, rfl⟩)
  | some i =>
    cases b : x.slotB.valid with
    | none => exact .inr (.inl ⟨i, rfl, rfl⟩)
    | some j =>
      by_cases later : j.generation = nextGeneration i.generation
      · exact .inr (.inr ⟨j, if_pos later, rfl⟩)
      · exact .inr (.inl ⟨i, if_neg later, rfl⟩)

section
variable {x : Ps}

theorem Ps.target_of_none (newest : x.newest = none) : x.target = .a := by rw [Ps.target, newest]

theorem Ps.target_of_a {i : Image} (newest : x.newest = some (.a, i)) : x.target = .b := by rw [Ps.target, newest]

theorem Ps.target_of_b {i : Image} (newest : x.newest = some (.b, i)) : x.target = .a := by rw [Ps.target, newest]

theorem Ps.generation_of_newest {place : StoreId} {i : Image} (newest : x.newest = some (place, i)) :
    x.generation = nextGeneration i.generation := by rw [Ps.generation, newest]

end

/-- No image's generation follows the one that follows its own. -/
theorem nextGeneration_twice_ne (g : Nat) : nextGeneration (nextGeneration g) ≠ g := by
  unfold nextGeneration
  (repeat' split) <;> omega

/-- A finished write that went to its place with its generation: a good image is the newest valid one, a bad one leaves
the newest valid image (10 R167). -/
theorem Ps.store_newest {x : Ps} {w : Write} (good : Bool) (place : w.target = x.target)
    (follows : w.img.generation = x.generation) :
    (x.store w good).newest = if good then some (w.target, w.img) else x.newest := by
  have stored : (StoreSlot.image w.img good).valid = if good then some w.img else none := by cases good <;> rfl
  rcases x.newest_cases with ⟨newest, -, b⟩ | ⟨i, newest, a⟩ | ⟨j, newest, b⟩
  · rw [newest, Ps.store, place, Ps.target_of_none newest, Ps.newest, stored, b]
    cases good <;> rfl
  · rw [Ps.generation_of_newest newest] at follows
    rw [newest, Ps.store, place, Ps.target_of_a newest, Ps.newest, stored, a]
    cases good
    · rfl
    · exact if_pos follows
  · rw [Ps.generation_of_newest newest] at follows
    have behind : j.generation ≠ nextGeneration w.img.generation := follows ▸ (nextGeneration_twice_ne _).symm
    rw [newest, Ps.store, place, Ps.target_of_b newest, Ps.newest, stored, b]
    cases good
    · rfl
    · exact if_neg behind

/-! ### The end of a write (10 R163, R166 to R168) -/

/-- What the end of a write leaves, before a write that waits begins and a held entry to HOLDUP is made. -/
def State.ended (s : State) (w : Write) (good : Bool) : State :=
  writeFollows w.img.occasion good (restartPeriodic (s.setPs (s.ps.store w good)))

theorem Sss.stopAll_rests (x : Sss) : x.stopAll.coilEnable = false ∧ x.stopAll.phase = .idle := by
  unfold Sss.stopAll
  split
  · next idle => exact ⟨rfl, idle⟩
  · exact ⟨rfl, rfl⟩

section
variable {s : State} {w : Write} {good : Bool}

theorem writeDone_eq (writing : s.ps.write = some w) :
    writeDone good s = releaseHoldup (beginNext (s.ended w good)) := by
  rw [writeDone, writing]
  rfl

/-- PS has stored the image; besides, the periodic timer and the valid flag may have changed. -/
theorem State.ended_ps (s : State) (w : Write) (good : Bool) : (s.ended w good).ps = { s.ps.store w good with
    periodic := (s.ended w good).ps.periodic, valid := (s.ended w good).ps.valid } := by
  unfold State.ended restartPeriodic
  cases w.img.occasion <;> split <;> rfl

theorem Ps.store_eq (x : Ps) (w : Write) (good : Bool) : x.store w good = { x with
    slotA := (x.store w good).slotA, slotB := (x.store w good).slotB, write := none } := by
  unfold Ps.store
  split <;> rfl

theorem ended_newest : (s.ended w good).ps.newest = (s.ps.store w good).newest := by
  rw [State.ended_ps]
  rfl

theorem ended_waiting : (s.ended w good).ps.write = none ∧ (s.ended w good).ps.nextWrites = s.ps.nextWrites ∧
    (s.ended w good).ps.holdupHeld = s.ps.holdupHeld ∧ (s.ended w good).ps.power = s.ps.power := by
  rw [State.ended_ps, Ps.store_eq]
  exact ⟨rfl, rfl, rfl, rfl⟩

theorem ended_periodic (active : s.ps.power = .active) : (s.ended w good).ps.periodic = some 3600000 := by
  have restarts : (s.setPs (s.ps.store w good)).ps.power = .active := by simpa using active
  rw [State.ended, restartPeriodic, if_pos restarts]
  cases w.img.occasion <;> rfl

theorem ended_of_periodic (occasion : w.img.occasion = .periodic) :
    (s.ended w good).hlc = s.hlc.periodicWritten ∧ (s.ended w good).sss = s.sss := by
  simp [State.ended, occasion, writeFollows]

theorem ended_of_request (occasion : w.img.occasion = .code ∨ w.img.occasion = .commission) :
    (s.ended w good).hlc = s.hlc.requestWritten ∧ (s.ended w good).sss = s.sss := by
  rcases occasion with occasion | occasion <;> simp [State.ended, occasion, writeFollows]

theorem ended_of_holdupEntry (occasion : w.img.occasion = .holdupEntry) :
    (s.ended w good).ps.valid = good ∧ (s.ended w good).hlc = s.hlc ∧ (s.ended w good).sss = s.sss := by
  simp [State.ended, occasion, writeFollows]

theorem ended_of_dormantEntry (occasion : w.img.occasion = .dormantEntry) :
    (s.ended w good).ps.valid = false ∧ (s.ended w good).sss = s.sss.stopAll := by
  simp [State.ended, occasion, writeFollows]

theorem beginNext_of_waiting {occ : Occasion} {rest : List Occasion} (waits : s.ps.nextWrites = occ :: rest) :
    beginNext s = beginWrite occ (s.setPs { s.ps with nextWrites := rest }) := by rw [beginNext, waits]

theorem beginNext_of_none (alone : s.ps.nextWrites = []) : beginNext s = s := by rw [beginNext, alone]

theorem beginNext_ps : (beginNext s).ps.newest = s.ps.newest ∧ (beginNext s).ps.holdupHeld = s.ps.holdupHeld ∧
    (beginNext s).ps.power = s.ps.power := by
  unfold beginNext
  split <;> exact ⟨rfl, rfl, rfl⟩

end

/-! ### Entries under a write (10 R163, R166) -/

/-- The newest valid image stays, and so does a write under way. -/
structure WriteKept (s t : State) : Prop where
  newest : t.ps.newest = s.ps.newest
  write : ∀ v, s.ps.write = some v → t.ps.write = some v

theorem WriteKept.trans {s t u : State} (h : WriteKept s t) (g : WriteKept t u) : WriteKept s u :=
  ⟨g.newest.trans h.newest, fun v writing => g.write v (h.write v writing)⟩

theorem startWrite_keeps (occ : Occasion) (s : State) : WriteKept s (startWrite occ s) := by
  unfold startWrite
  split
  · exact ⟨rfl, fun _ => id⟩
  · next free => exact ⟨rfl, fun v writing => absurd (by rw [writing]; rfl) free⟩

theorem enterDormant_keeps (s : State) : WriteKept s (enterDormant s) := by
  refine WriteKept.trans ?_ (startWrite_keeps _ _)
  exact ⟨rfl, fun _ => id⟩

theorem enterHoldup_keeps (s : State) : WriteKept s (enterHoldup s) := by
  have held : WriteKept s (startWrite .holdupEntry (departBlocks s)) := by
    refine WriteKept.trans ?_ (startWrite_keeps _ _)
    exact ⟨rfl, fun _ => id⟩
  unfold enterHoldup
  dsimp only
  split
  · exact held
  · exact held.trans (enterDormant_keeps _)

theorem releaseHoldup_keeps (s : State) : WriteKept s (releaseHoldup s) := by
  unfold releaseHoldup
  split
  · exact enterHoldup_keeps s
  · exact ⟨rfl, fun _ => id⟩

/-- With VBACK good the entry stays in HOLDUP (10 R163). -/
theorem enterHoldup_power_of_vback {s : State} (vback : s.pins.vback = true) : (enterHoldup s).ps.power = .holdup := by
  rw [enterHoldup_of_vback vback, startWrite_power]
  rfl

/-! ### CHECKPOINT_WRITE_DONE and HOLD_UP_RESERVE_EXHAUSTION (10 R167) -/

section
variable {s : State} {w : Write} (good : Bool) (writing : s.ps.write = some w)
include writing

theorem writeDone_newest (place : w.target = s.ps.target) (follows : w.img.generation = s.ps.generation) :
    (writeDone good s).ps.newest = if good then some (w.target, w.img) else s.ps.newest := by
  obtain ⟨begun, -, -⟩ := beginNext_ps (s := s.ended w good)
  rw [writeDone_eq writing, (releaseHoldup_keeps _).newest, begun, ended_newest, Ps.store_newest good place follows]

/-- A write that waits begins at once, and a held entry to HOLDUP follows it (10 R163, R166). -/
theorem writeDone_begins {occ : Occasion} {rest : List Occasion} (waits : s.ps.nextWrites = occ :: rest) :
    ∃ v, (writeDone good s).ps.write = some v ∧ v.img.occasion = occ := by
  obtain ⟨-, next, -⟩ := ended_waiting (s := s) (w := w) (good := good)
  rw [writeDone_eq writing, beginNext_of_waiting (next.trans waits)]
  exact ⟨_, (releaseHoldup_keeps _).write _ rfl, rfl⟩

theorem writeDone_of_alone (alone : s.ps.nextWrites = []) (unheld : s.ps.holdupHeld = false) :
    writeDone good s = s.ended w good := by
  obtain ⟨-, next, held, -⟩ := ended_waiting (s := s) (w := w) (good := good)
  rw [writeDone_eq writing, beginNext_of_none (next.trans alone), releaseHoldup, if_neg (by simp [held, unheld])]

theorem writeDone_power_of_held (held : s.ps.holdupHeld = true) (active : s.ps.power = .active)
    (vback : s.pins.vback = true) : (writeDone good s).ps.power = .holdup := by
  obtain ⟨-, -, heldEnded, powerEnded⟩ := ended_waiting (s := s) (w := w) (good := good)
  obtain ⟨-, heldBegun, powerBegun⟩ := beginNext_ps (s := s.ended w good)
  rw [writeDone_eq writing, releaseHoldup, if_pos ⟨heldBegun.trans (heldEnded.trans held),
    powerBegun.trans (powerEnded.trans active)⟩]
  exact enterHoldup_power_of_vback (by simpa [State.ended] using vback)

end

/-- An exhausted reserve ends a write with a bad image (10 R167, log 24). -/
theorem exec_of_writeEnd {s : State} {c : Instr} {good : Bool} (ends : c = .checkpointWriteDone good ∨
    (c = .holdUpReserveExhaustion ∧ good = false ∧ (s.ps.power ≠ .active ∨ s.pins.vmain = false))) :
    exec c s = .next (writeDone good s) := by
  rcases ends with rfl | ⟨rfl, rfl, reserve⟩
  · rfl
  · exact congrArg Host.Outcome.next (if_pos reserve)

section
variable {h : Hlc} {r : Reply}

/-- The reply of a written request is made, to be sent, to wait behind one, or to stay in the slot (12 R180). -/
theorem Hlc.requestWritten_of_idle (slot : h.slot = .awaitingWrite (some r)) (idle : h.sending = none) :
    h.requestWritten = { h with slot := .empty, sending := some r } := by
  simp [Hlc.requestWritten, Hlc.handReply, Hlc.transmit, slot, idle]

theorem Hlc.requestWritten_of_sending {x : Reply} (slot : h.slot = .awaitingWrite (some r))
    (sending : h.sending = some x) (room : h.waiting = none) :
    h.requestWritten = { h with slot := .empty, waiting := some r } := by
  simp [Hlc.requestWritten, Hlc.handReply, Hlc.transmit, slot, sending, room]

theorem Hlc.requestWritten_of_full {x y : Reply} (slot : h.slot = .awaitingWrite (some r))
    (sending : h.sending = some x) (waiting : h.waiting = some y) :
    h.requestWritten = { h with slot := .replyWaits r } := by
  simp [Hlc.requestWritten, Hlc.handReply, Hlc.transmit, slot, sending, waiting]

theorem Hlc.requestWritten_of_unanswered (slot : h.slot = .awaitingWrite none) :
    h.requestWritten = { h with slot := .empty } := by rw [Hlc.requestWritten, slot]

theorem Hlc.periodicWritten_of_held (held : h.slot = .periodicWrite) :
    h.periodicWritten = { h with slot := .empty } := by rw [Hlc.periodicWritten, held]

end

/-! ### The periodic write (10 R168) -/

/-- A periodic write finds the store free and takes the state as it stands. -/
theorem startPeriodic_of_free {s : State} (free : s.ps.write = none) :
    startPeriodic s = (s.setPs { s.ps with write := some ⟨s.imageNow .periodic, s.ps.target⟩ }).setHlc
      { s.hlc with slot := .periodicWrite } :=
  startWrite_eq_beginWrite (s := s.setHlc _) .periodic free

end Sys2Proof.Machine
end

section
/-! The checkpoint write under way (10 R167): every step leaves it bound for the slot that does not hold the newest
valid image. -/

namespace Sys2Proof.Machine

/-- A write that begins takes its place and its generation from the slots as they are. -/
theorem beginWrite_sound (occ : Occasion) (s : State) : WriteSound (beginWrite occ s) := by
  intro w begun
  obtain rfl := Option.some.inj begun
  exact ⟨rfl, rfl⟩

theorem WriteSound.of_none {s : State} (none : s.ps.write = none) : WriteSound s := by
  intro w writing
  rw [none] at writing
  exact absurd writing nofun

/-- A start of the core loses the write under way (10 R169). -/
theorem startCore_write (s : State) : (startCore s).ps.write = none := by
  unfold startCore
  split
  · simp [restoreFrom, restoredState, Ps.restored, Ps.manufacture]
  · rfl

section
variable {s t : State} (h : WriteSound s)
include h

/-- The two slots and the write under way stay. -/
theorem WriteSound.same (a : t.ps.slotA = s.ps.slotA) (b : t.ps.slotB = s.ps.slotB)
    (write : t.ps.write = s.ps.write) : WriteSound t := by
  intro w writing
  rw [Ps.target, Ps.generation, Ps.newest_congr a b]
  exact h w (write ▸ writing)

theorem WriteSound.frame (ps : t.ps = s.ps) : WriteSound t := h.same (by rw [ps]) (by rw [ps]) (by rw [ps])

theorem WriteSound.startWrite (occ : Occasion) : WriteSound (startWrite occ s) := by
  unfold Machine.startWrite
  split
  · exact h
  · exact beginWrite_sound occ s

theorem WriteSound.beginNext : WriteSound (beginNext s) := by
  unfold Machine.beginNext
  split
  · exact beginWrite_sound _ _
  · exact h

theorem WriteSound.enterDormant : WriteSound (enterDormant s) := by
  refine WriteSound.startWrite ?_ .dormantEntry
  exact h

theorem WriteSound.enterHoldup : WriteSound (enterHoldup s) := by
  have departed : WriteSound (departBlocks s) := h
  have held := departed.startWrite .holdupEntry
  unfold Machine.enterHoldup
  dsimp only
  split
  · exact held
  · exact held.enterDormant

theorem WriteSound.startPeriodic : WriteSound (startPeriodic s) := by
  refine WriteSound.startWrite ?_ .periodic
  exact h

theorem WriteSound.commission (r : CommissionRequest) (reply : Reply) : WriteSound (commission r reply s) := by
  have done : WriteSound (Machine.commissioned r s) := h.same (by simp [Machine.commissioned, commissionEntry])
    (by simp [Machine.commissioned, commissionEntry]) (by simp [Machine.commissioned, commissionEntry])
  rw [commission_eq]
  refine WriteSound.startWrite ?_ .commission
  exact done.frame (by simp)

theorem WriteSound.submitCode (payload : List Byte) : WriteSound (doSubmitCode payload s) := by
  have judged : WriteSound (judgeCode (sourceOf (fieldAt payload 0 1)) payload.tail s).state := h.frame (by simp)
  unfold doSubmitCode replyJudged
  dsimp only
  split
  · refine WriteSound.startWrite ?_ .code
    exact judged.frame (by simp)
  · exact judged.frame (by simp)

theorem WriteSound.takeFrame (kind : Byte) (payload : List Byte) : WriteSound (takeFrame kind payload s) := by
  unfold Machine.takeFrame takeRequest
  (repeat' split)
  · exact h
  · unfold runRequest
    split
    iterate 8 exact h
    · exact h.submitCode payload
    · exact h.frame (by simp)
    · exact h.frame (by simp)
    · exact h.commission _ _
    · exact h
  · exact h
  · exact h

theorem WriteSound.receiveByte (b : LineByte) : WriteSound (receiveByte s b) := by
  unfold Machine.receiveByte collectByte frameComplete
  dsimp only
  (repeat' split)
  case h_2.isFalse.isFalse.isTrue => exact WriteSound.takeFrame (s := s.setRx none) h _ _
  all_goals exact h

theorem WriteSound.receiveBytes (bytes : List LineByte) : WriteSound (bytes.foldl Machine.receiveByte s) := by
  induction bytes generalizing s with
  | nil => exact h
  | cons b rest ih => exact ih (h.receiveByte b)

theorem WriteSound.doReturn : WriteSound (doReturn s) := by
  unfold Machine.doReturn
  split
  · exact h.same (by simp [warmReturn]) (by simp [warmReturn]) (by simp [warmReturn])
  · exact .of_none (startCore_write s)

theorem WriteSound.writeDone (good : Bool) : WriteSound (writeDone good s) := by
  unfold Machine.writeDone
  split
  · next w writing =>
    have ended : WriteSound (s.ended w good) := .of_none ended_waiting.1
    have begun := ended.beginNext
    dsimp only [releaseHoldup]
    split
    · exact begun.enterHoldup
    · exact begun
  · exact h

theorem WriteSound.tick : WriteSound (tick s) := by
  have passed : WriteSound (passMs s) := by
    unfold passMs
    split <;> exact h
  exact passed.frame (by simp [Machine.tick])

end

/-! ### The step -/

theorem exec_writeSound {c : Instr} {s t : State} (h : WriteSound s) (run : exec c s = .next t) : WriteSound t := by
  cases c <;> obtain rfl := Host.Outcome.next.inj run
  case identify | getStatus | getLedger | getEnergy | getTariff | getTime | getEvents | readTamperLog | submitCode |
      restore | acceptEmergency | trimClock | commission | badKind | busy => exact h.takeFrame _ _
  case frameDiscard bytes => exact h.receiveBytes bytes
  case holdupSample =>
    unfold holdupSample
    split
    · exact h.same (by simp) (by simp) (by simp)
    · exact h
  case vmainFall | vmainRise =>
    simp only [vmainFall, vmainRise]
    (repeat' split) <;> exact h
  case holdupEntry vback =>
    have seen : WriteSound (s.setPins { s.pins with vback := vback }) := h
    unfold holdupEntry
    dsimp only
    (repeat' split)
    case h_1 | isFalse => exact h
    all_goals exact seen.enterHoldup
  case shelfPowerLoss =>
    unfold shelfPowerLoss
    split
    · exact .of_none rfl
    · exact h
  case returnDecision =>
    unfold returnDecision
    (repeat' split)
    · exact h
    · exact h.doReturn
    · exact h
  case deferredReturn =>
    unfold deferredReturn
    split
    · exact h.doReturn
    · exact h
  case dormantEntry =>
    have low : WriteSound (s.setPins { s.pins with vback := false }) := h
    unfold dormantEntry
    dsimp only
    split
    · exact low.enterDormant
    · exact low
  case powerUp =>
    unfold powerUp
    split
    · exact .of_none (startCore_write s)
    · exact h
  case periodicCheckpoint =>
    have expired : WriteSound (s.setPs { s.ps with periodic := none }) := h
    unfold periodicCheckpoint
    (repeat' split)
    · exact expired.startPeriodic
    · exact h
    · exact h
  case deferredPeriodicWrite =>
    have taken : WriteSound (s.setPs { s.ps with periodicWaits := false }) := h
    unfold deferredPeriodicWrite
    split
    · exact taken.startPeriodic
    · exact h
  case checkpointWriteDone good => exact h.writeDone good
  case holdUpReserveExhaustion =>
    unfold reserveExhausted
    split
    · exact h.writeDone false
    · exact h
  all_goals exact h.frame (by simp)

theorem step_writeSound {s t : State} (h : WriteSound s) (run : step s = .next t) : WriteSound t := by
  unfold step at run
  split at run
  · next c rest _ => exact exec_writeSound (s := s.setPending rest) h run
  · obtain rfl := Host.Outcome.next.inj run
    exact h.tick

/-- Settles O60: the law of the write step by step, its end by occasion, and the hourly write. -/
theorem writeNeverLosesTheNewestImage : Obligations.WriteNeverLosesTheNewestImage := by
  refine ⟨fun s t => step_writeSound, fun s c w good ends writing place follows => ?_, fun s active => ?_⟩
  · refine ⟨writeDone good s, exec_of_writeEnd ends, writeDone_newest good writing place follows,
      fun occ rest => writeDone_begins good writing, fun alone unheld => ?_, writeDone_power_of_held good writing,
      by simp⟩
    rw [writeDone_of_alone good writing alone unheld]
    refine ⟨ended_waiting.1, ended_periodic, fun periodic held => ?_, fun request => ?_, ended_of_holdupEntry,
      fun dormant => ?_⟩
    · obtain ⟨hlc, sss⟩ := ended_of_periodic (s := s) (good := good) periodic
      exact ⟨hlc.trans (Hlc.periodicWritten_of_held held), sss⟩
    · obtain ⟨hlc, sss⟩ := ended_of_request (s := s) (good := good) request
      exact ⟨fun r slot idle => hlc.trans (Hlc.requestWritten_of_idle slot idle),
        fun r x slot sending room => hlc.trans (Hlc.requestWritten_of_sending slot sending room),
        fun r x y slot sending waiting => hlc.trans (Hlc.requestWritten_of_full slot sending waiting),
        fun slot => hlc.trans (Hlc.requestWritten_of_unanswered slot), sss⟩
    · obtain ⟨valid, sss⟩ := ended_of_dormantEntry (s := s) (good := good) dormant
      rw [sss]
      exact ⟨valid, s.sss.stopAll_rests⟩
  · intro begun
    have timed {t : Timer} (expired : t = some 0) : timerDue t = true := by simp [timerDue, expired]
    refine ⟨fun expired empty free => ?_, fun expired occupied => ?_, fun waits empty free => ?_⟩
    · exact congrArg Host.Outcome.next ((if_pos ⟨active, timed expired⟩).trans
        ((if_pos empty).trans (startPeriodic_of_free (s := s.setPs _) free)))
    · exact congrArg Host.Outcome.next ((if_pos ⟨active, timed expired⟩).trans (if_neg occupied))
    · exact congrArg Host.Outcome.next ((if_pos ⟨active, waits, empty⟩).trans
        (startPeriodic_of_free (s := s.setPs _) free))

end Sys2Proof.Machine
end

section
/-! What HOLDUP and DORMANT leave alone (10 R164): most commands belong to ACTIVE or to a served link, the rest move
other blocks, and a return leaves the two power states. -/

namespace Sys2Proof.Machine

/-- The power state is HOLDUP or DORMANT. -/
def State.Asleep (s : State) : Prop := s.ps.power = .holdup ∨ s.ps.power = .dormant

/-- The ledger, the energy registers, the code engine, the parameters and the rates stay. -/
structure AccountKept (s t : State) : Prop where
  cl : t.cl = s.cl
  reg : t.be.reg = s.be.reg
  ce : t.ce = s.ce
  params : t.params = s.params
  rates : t.tc.sched.rates = s.tc.sched.rates

theorem AccountKept.refl (s : State) : AccountKept s s := ⟨rfl, rfl, rfl, rfl, rfl⟩

theorem AccountKept.of_eq {s t : State} (same : t = s) : AccountKept s t := same ▸ .refl s

theorem AccountKept.frame {s t : State}
    (same : t.cl = s.cl ∧ t.be = s.be ∧ t.ce = s.ce ∧ t.params = s.params ∧ t.tc = s.tc) : AccountKept s t := by
  obtain ⟨cl, be, ce, params, tc⟩ := same
  exact ⟨cl, by rw [be], ce, params, by rw [tc]⟩

/-! ### Commands of ACTIVE and of a served link -/

section
variable {s : State} (asleep : s.Asleep)
include asleep

theorem State.Asleep.not_active : s.ps.power ≠ .active := by
  rcases asleep with power | power <;> simp [power]

theorem State.Asleep.not_shelf : s.ps.power ≠ .shelf := by
  rcases asleep with power | power <;> simp [power]

theorem State.Asleep.unserved : s.linkServed = false := by
  simp [State.linkServed, asleep.not_active, asleep.not_shelf]

/-- A command that acts in ACTIVE alone leaves the state. -/
theorem State.Asleep.rests {p : Prop} [Decidable p] {t : State} (acts : p → s.ps.power = .active) :
    (if p then t else s) = s :=
  if_neg fun h => asleep.not_active (acts h)

theorem recordTake_of_asleep (loadv : PerPhase Bool) : recordTake loadv s = s := by
  rcases asleep with power | power <;> rw [recordTake, power]

theorem groupTimeout_of_asleep : groupTimeout s = s := by
  rcases asleep with power | power <;> rw [groupTimeout, power]

theorem takeFrame_of_asleep (kind : Byte) (payload : List Byte) : takeFrame kind payload s = s :=
  if_neg (by simp [frameDelivered, asleep.unserved])

theorem receiveBytes_of_asleep (bytes : List LineByte) : bytes.foldl receiveByte s = s := by
  induction bytes with
  | nil => rfl
  | cons b rest ih =>
    have hunts : receiveByte s b = s := if_neg (by simp [asleep.unserved])
    rw [List.foldl_cons, hunts, ih]

end

/-! ### The end of a write and the returns -/

/-- The end of a write keeps the registers, also where it makes an entry to HOLDUP (10 R163). -/
theorem writeDone_keeps_account (good : Bool) (s : State) : AccountKept s (writeDone good s) := by
  have enters (u : State) : (enterHoldup u).be.reg = u.be.reg := by
    rw [enterHoldup_eq]
    rfl
  have reg : (writeDone good s).be.reg = s.be.reg := by
    unfold writeDone releaseHoldup
    dsimp only
    (repeat' split) <;> simp [enters]
  exact ⟨by simp, reg, by simp, by simp, by simp⟩

theorem startCore_awake (s : State) : ¬(startCore s).Asleep := by
  unfold startCore
  split <;> simp [State.Asleep, restoreFrom, restoredState, Ps.restored, enterShelf, manufactured]

/-- A return leaves HOLDUP and DORMANT (10 R165, R169). -/
theorem doReturn_awake (s : State) : ¬(doReturn s).Asleep := by
  unfold doReturn
  split
  · simp [State.Asleep, warmReturn]
  · exact startCore_awake s

/-! ### The step -/

theorem exec_keeps_account {c : Instr} {s t : State} (asleep : s.Asleep) (run : exec c s = .next t)
    (stays : t.Asleep) : AccountKept s t := by
  cases c <;> obtain rfl := Host.Outcome.next.inj run
  case identify | getStatus | getLedger | getEnergy | getTariff | getTime | getEvents | readTamperLog | submitCode |
      restore | acceptEmergency | trimClock | commission | badKind | busy =>
    exact .of_eq (takeFrame_of_asleep asleep _ _)
  case frameDiscard bytes => exact .of_eq (receiveBytes_of_asleep asleep bytes)
  case recordTake loadv => exact .of_eq (recordTake_of_asleep asleep loadv)
  case groupTimeout => exact .of_eq (groupTimeout_of_asleep asleep)
  case burstEnd => exact .of_eq (asleep.rests id)
  case silenceReport | suppressionTimerExpiry | silenceTick | sensorFilterExpiry | lockoutEnd | tcEdgeEvaluation |
      holdupEntry =>
    exact .of_eq (asleep.rests And.left)
  case shelfPowerLoss => exact .of_eq (if_neg fun due => asleep.not_shelf due.1)
  case clockAdvance =>
    have rates : (clockAdvance s).tc.sched.rates = s.tc.sched.rates := by
      unfold clockAdvance
      split <;> rfl
    exact ⟨by simp, by simp, by simp, by simp, rates⟩
  case returnDecision =>
    unfold returnDecision at stays ⊢
    (repeat' split)
    · exact .frame (by simp)
    · next due free => exact absurd (by simpa only [if_pos due, if_neg free] using stays) (doReturn_awake s)
    · exact .refl s
  case deferredReturn =>
    unfold deferredReturn at stays ⊢
    split
    · next due => exact absurd (by simpa only [if_pos due] using stays) (doReturn_awake s)
    · exact .refl s
  case powerUp =>
    unfold powerUp at stays ⊢
    split
    · next due => exact absurd (by simpa only [if_pos due] using stays) (startCore_awake s)
    · exact .refl s
  case checkpointWriteDone good => exact writeDone_keeps_account good s
  case holdUpReserveExhaustion =>
    unfold reserveExhausted
    split
    · exact writeDone_keeps_account false s
    · exact .refl s
  case holdupSample =>
    have be : (holdupSample s).be = s.be := by
      unfold holdupSample
      split <;> simp
    exact .frame (by simp [be])
  all_goals exact .frame (by simp)

theorem tick_keeps_account {s : State} (asleep : s.Asleep) : AccountKept s (tick s) := by
  have passed : AccountKept s (passMs s) := by
    rcases asleep with power | power <;> rw [passMs, power] <;> exact ⟨rfl, rfl, rfl, rfl, rfl⟩
  exact ⟨by simp, by simpa [tick] using passed.reg, by simpa [tick] using passed.ce, by simp,
    by simpa [tick] using passed.rates⟩

/-- Settles O11: each command keeps the account or leaves the two power states; a millisecond keeps it. -/
theorem heldPowerStatesKeepTheAccount : Obligations.HeldPowerStatesKeepTheAccount := by
  intro s t asleep run stays
  have kept : AccountKept s t := by
    unfold step at run
    split at run
    · next c rest _ =>
      obtain ⟨cl, reg, ce, params, rates⟩ := exec_keeps_account (s := s.setPending rest) asleep run stays
      exact ⟨cl, reg, ce, params, rates⟩
    · obtain rfl := Host.Outcome.next.inj run
      exact tick_keeps_account asleep
  exact ⟨kept.cl, kept.reg, congrArg Ce.keys kept.ce, kept.ce, kept.params, kept.rates⟩

end Sys2Proof.Machine
end

section
/-! A COMMISSION payload (11 R172, 12 R181): its entries by their place, the parameters it gives, its checks. -/

namespace Sys2Proof.Machine

/-! ### The entries -/

/-- The entry at a place of a payload. -/
def entryAt (payload : List Byte) (k : Nat) : ParamEntry := ⟨entryIndex payload k, entrySteps payload k⟩

theorem entriesOf_of_short {l : List Byte} (short : l.length < 3) : entriesOf l = [] := by
  match l, short with
  | [], _ => rfl
  | [_], _ => rfl
  | [_, _], _ => rfl

/-- Three bytes make an entry, and what is left over makes none. -/
theorem entriesOf_eq (l : List Byte) : entriesOf l =
    (List.range (l.length / 3)).map fun k => ⟨fieldAt l (3 * k) 1, fieldAt l (3 * k + 1) 2⟩ := by
  induction l using entriesOf.induct with
  | case1 i h l rest ih =>
    have count : (i :: h :: l :: rest).length / 3 = rest.length / 3 + 1 := by
      rw [← Nat.add_div_right _ (by decide : 0 < 3)]
      rfl
    have behind (k off len : Nat) :
        fieldAt (i :: h :: l :: rest) (3 * (k + 1) + off) len = fieldAt rest (3 * k + off) len := by
      rw [show 3 * (k + 1) + off = 3 + (3 * k + off) by omega, fieldAt_drop]
      rfl
    rw [count, List.range_succ_eq_map, List.map_cons, List.map_map, entriesOf, ih]
    refine congrArg₂ List.cons ?_ (List.map_congr_left fun k _ => ?_)
    · rw [Nat.mul_zero, fieldAt_head]
      rfl
    · exact congrArg₂ ParamEntry.mk (behind k 0 1).symm (behind k 1 2).symm
  | case2 l other =>
    have short : l.length < 3 := by
      match l, other with
      | [], _ => simp
      | [_], _ => simp
      | [_, _], _ => simp
      | a :: b :: c :: rest, other => exact (other a b c rest rfl).elim
    rw [entriesOf_of_short short, Nat.div_eq_of_lt short]
    rfl

theorem commissionOf_entries (payload : List Byte) :
    (commissionOf payload).entries = (List.range (entryCount payload)).map (entryAt payload) := by
  show entriesOf (payload.drop 20) = _
  rw [entriesOf_eq, List.length_drop]
  refine List.map_congr_left fun k _ => ?_
  rw [← fieldAt_drop, ← fieldAt_drop, entryAt, entryIndex, entrySteps, ← Nat.add_assoc, Nat.add_right_comm]

/-! ### The parameters -/

/-- An index the table does not list names no parameter (11 section 11.3). -/
theorem Params.setAt_of_unlisted {index : Nat} (unlisted : paramRow index = none) (p : Params) (v : Nat) :
    p.setAt index v = p := by
  unfold paramRow at unlisted
  split at unlisted
  case h_27 =>
    split_ifs at unlisted with setting window
    unfold Params.setAt
    split
    case h_27 => exact (if_neg setting).trans (if_neg window)
    all_goals simp_all
  all_goals nomatch unlisted

/-- One entry taken into the parameters: its value in code steps times its step (11 R173). -/
def Params.withEntry (p : Params) (e : ParamEntry) : Params :=
  p.setAt e.index (e.steps * (paramRow e.index).elim 0 ParamRow.step)

theorem CommissionRequest.params_eq (r : CommissionRequest) :
    r.params = { r.entries.foldl Params.withEntry Params.default with commWeekday := r.weekday } := by
  refine congrArg (fun p : Params => { p with commWeekday := r.weekday }) (List.foldl_ext _ _ _ fun p e _ => ?_)
  rw [Params.withEntry]
  cases row : paramRow e.index with
  | none => exact (Params.setAt_of_unlisted row p _).symm
  | some row => rfl

theorem commissionOf_params (payload : List Byte) : (commissionOf payload).params = paramsGiven payload := by
  rw [CommissionRequest.params_eq, commissionOf_entries, List.foldl_map]
  rfl

/-! ### The checks (11 R172) -/

theorem ParamEntry.allowed_iff (e : ParamEntry) : e.allowed = true ↔
    e.index ≠ 17 ∧ ∃ row, paramRow e.index = some row ∧ row.lo ≤ e.steps * row.step ∧ e.steps * row.step ≤ row.hi := by
  unfold ParamEntry.allowed
  cases paramRow e.index <;> simp [and_assoc]

theorem distinctIndices_iff (l : List ParamEntry) :
    distinctIndices l = true ↔ l.Pairwise fun e f => e.index ≠ f.index := by
  induction l with
  | nil => simp [distinctIndices]
  | cons e rest ih =>
    rw [List.pairwise_cons, ← ih]
    simp only [distinctIndices, Bool.and_eq_true, Bool.not_eq_true', List.any_eq_false, beq_iff_eq]
    exact and_congr_left' (forall₂_congr fun f _ => ne_comm)

theorem allowedEntries_iff (payload : List Byte) : (commissionOf payload).entries.all ParamEntry.allowed = true ↔
    ∀ k, k < entryCount payload → entryIndex payload k ≠ 17 ∧
      ∃ row, paramRow (entryIndex payload k) = some row ∧ row.lo ≤ entrySteps payload k * row.step ∧
        entrySteps payload k * row.step ≤ row.hi := by
  rw [commissionOf_entries, List.all_map, List.all_eq_true]
  simp [ParamEntry.allowed_iff, entryAt]

theorem distinctEntries_iff (payload : List Byte) : distinctIndices (commissionOf payload).entries = true ↔
    ∀ j k, j < k → k < entryCount payload → entryIndex payload j ≠ entryIndex payload k := by
  rw [distinctIndices_iff, commissionOf_entries, List.pairwise_map, List.pairwise_iff_getElem]
  simp only [List.length_range, List.getElem_range, entryAt]
  exact ⟨fun h j k lt last => h j k (lt.trans last) last lt, fun h j k _ last lt => h j k lt last⟩

/-- The checks of a request are those of its payload (11 R172). -/
theorem commissionGood_iff (payload : List Byte) : CommissionGood payload ↔ (commissionOf payload).allowed = true := by
  simp only [CommissionRequest.allowed, Bool.and_eq_true, decide_eq_true_eq, allowedEntries_iff, distinctEntries_iff,
    commissionOf_params, and_assoc]
  exact ⟨fun ⟨minute, weekday, revision, entries, distinct, opening⟩ =>
      ⟨minute, weekday, revision, entries, distinct, opening⟩,
    fun ⟨minute, weekday, revision, entries, distinct, opening⟩ =>
      ⟨minute, weekday, revision, entries, distinct, opening⟩⟩

end Sys2Proof.Machine
end

section
/-! Requests that are refused (12 R180): the checks one by one, and the answer on a ready link. -/

namespace Sys2Proof.Machine

/-! ### The four checks in their order -/

/-- The kinds of the table are those the link knows (12 R181). -/
theorem kindKnown_iff (kind : Byte) : kindKnown kind.toNat = true ↔ kind ∈ requestKinds := by
  simp only [kindKnown, requestKinds, List.mem_cons, List.not_mem_nil, or_false, Bool.or_eq_true, Bool.and_eq_true,
    decide_eq_true_eq, beq_iff_eq, ← BitVec.toNat_inj, BitVec.toNat_ofNat]
  omega

section
variable {kind : Byte} {payload : List Byte} {power : Power}

theorem refusal_of_unknown (unknown : kindKnown kind.toNat = false) : refusal kind payload power = some .badKind :=
  if_pos unknown

theorem refusal_of_length (known : kindKnown kind.toNat = true) (bad : lengthGood kind.toNat payload.length = false) :
    refusal kind payload power = some .badLength := by
  simp [refusal, known, bad]

theorem refusal_of_state (known : kindKnown kind.toNat = true) (length : lengthGood kind.toNat payload.length = true)
    (unserved : servedIn kind.toNat power = false) : refusal kind payload power = some .wrongState := by
  simp [refusal, known, length, unserved]

theorem refusal_of_fields (known : kindKnown kind.toNat = true) (length : lengthGood kind.toNat payload.length = true)
    (served : servedIn kind.toNat power = true) (bad : fieldsGood kind.toNat payload = false) :
    refusal kind payload power = some .badValue := by
  simp [refusal, known, length, served, bad]

theorem refusal_of_passes (known : kindKnown kind.toNat = true) (length : lengthGood kind.toNat payload.length = true)
    (served : servedIn kind.toNat power = true) (good : fieldsGood kind.toNat payload = true) :
    refusal kind payload power = none := by
  simp [refusal, known, length, served, good]

end

/-- A command that brings a frame which fails a check on a ready link is answered with the status alone. -/
theorem exec_of_refused {s : State} (hs : s.ready) {c : Instr} (kind : Byte) (st : Status) {payload : List Byte}
    (brings : exec c s = .next (takeFrame kind payload s)) (fits : payload.length ≤ 63) (request : kind.toNat < 0x80)
    (refused : refusal kind payload s.ps.power = some st) :
    exec c s = .next (s.replying (replyTo kind st [])) := by
  rw [brings, takeFrame_of_refused hs fits request refused]

/-- A length of the fixed fields and whole entries (12 R181). -/
theorem lengthGood_commission (n : Nat) : lengthGood 0x20 n = true ↔ 20 ≤ n ∧ n % 3 = 2 := by
  simp only [lengthGood, Bool.and_eq_true, decide_eq_true_eq, beq_iff_eq]
  omega

theorem fieldsGood_commission (payload : List Byte) : fieldsGood 0x20 payload = true ↔ CommissionGood payload :=
  (commissionGood_iff payload).symm

end Sys2Proof.Machine
end

section
/-! The bytes of a good frame (12 R178, R179): they are collected one by one, and the last of them brings the frame. -/

namespace Sys2Proof.Machine

theorem frameBytes_eq (kind : Byte) (payload : List Byte) : frameBytes kind payload =
    0xC3#8 :: BitVec.ofNat 8 (payload.length + 1) :: kind :: (payload ++
      bytesOf 2 (frameCheck (BitVec.ofNat 8 (payload.length + 1) :: kind :: payload)).toNat) := rfl

theorem length_frameBytes (kind : Byte) (payload : List Byte) :
    (frameBytes kind payload).length = payload.length + 5 := by
  simp [frameBytes_eq]

/-- The check of a frame laid out as 12 R178 says holds. -/
theorem checkHolds_frameBytes (kind : Byte) (payload : List Byte) :
    checkHolds (frameBytes kind payload) (payload.length + 1) = true := by
  let body := BitVec.ofNat 8 (payload.length + 1) :: kind :: payload
  have checked : ((frameBytes kind payload).drop 1).take (payload.length + 2) = body := List.take_left' rfl
  have check : (frameBytes kind payload).drop (payload.length + 3) = bytesOf 2 (frameCheck body).toNat :=
    List.drop_left' (l₁ := 0xC3#8 :: body) rfl
  have read : (frameCheck body).toNat % 256 ^ 2 = (frameCheck body).toNat := Nat.mod_eq_of_lt (frameCheck body).isLt
  rw [checkHolds, checked, check, natOf_bytesOf, read, BitVec.ofNat_toNat, BitVec.setWidth_eq, beq_self_eq_true]

section
variable {s : State} (served : s.linkServed = true)
include served

theorem receiveByte_open (f : PartialFrame) (b : Byte) :
    receiveByte (s.setRx (some f)) ⟨b, false⟩ = collectByte (f.bytes ++ [b]) (s.setRx (some f)) := by
  have served : (s.setRx (some f)).linkServed = true := served
  rw [receiveByte, if_pos served]
  rfl

theorem receiveByte_start (hunts : s.hlc.rx = none) :
    receiveByte s ⟨0xC3#8, false⟩ = s.setRx (some ⟨[0xC3#8], 0⟩) := by
  simp [receiveByte, served, hunts]

variable (hunts : s.hlc.rx = none) (kind : Byte) {payload : List Byte} (fits : payload.length ≤ 63)
include hunts fits

/-- Before its last byte the frame stands open with what has come of it. -/
theorem receive_front {k : Nat} (begun : 1 ≤ k) (inside : k < payload.length + 5) :
    ((frameBytes kind payload).take k).foldl (fun t b => receiveByte t ⟨b, false⟩) s =
      s.setRx (some ⟨(frameBytes kind payload).take k, 0⟩) := by
  induction k, begun using Nat.le_induction with
  | base => exact receiveByte_start served hunts
  | succ k begun ih =>
    obtain ⟨j, rfl⟩ := Nat.exists_eq_add_of_le' begun
    have more : j + 1 < (frameBytes kind payload).length := by rw [length_frameBytes]; omega
    have size : ((((frameBytes kind payload).take (j + 2)).drop 1).headD 0x00#8).toNat = payload.length + 1 := by
      show (BitVec.ofNat 8 (payload.length + 1)).toNat = _
      rw [BitVec.toNat_ofNat, Nat.mod_eq_of_lt (by omega)]
    rw [List.take_succ_eq_append_getElem more, List.foldl_append, ih (by omega), List.foldl_cons, List.foldl_nil,
      receiveByte_open served, ← List.take_succ_eq_append_getElem more, collectByte, size, if_neg (by omega), if_pos]
    · rfl
    · rw [List.length_take, length_frameBytes]
      omega

/-- The bytes of a good frame bring the frame to a hunting receiver (12 R179). -/
theorem receive_frame :
    (frameBytes kind payload).foldl (fun t b => receiveByte t ⟨b, false⟩) s = takeFrame kind payload s := by
  have last : payload.length + 4 < (frameBytes kind payload).length := by rw [length_frameBytes]; omega
  have whole : (frameBytes kind payload).take (payload.length + 4) ++ [(frameBytes kind payload)[payload.length + 4]] =
      frameBytes kind payload := by
    rw [← List.take_succ_eq_append_getElem last, List.take_of_length_le (length_frameBytes _ _).le]
  have size : (((frameBytes kind payload).drop 1).headD 0x00#8).toNat = payload.length + 1 := by
    show (BitVec.ofNat 8 (payload.length + 1)).toNat = _
    rw [BitVec.toNat_ofNat, Nat.mod_eq_of_lt (by omega)]
  have taken : ((frameBytes kind payload).drop 3).take payload.length = payload := List.take_left' rfl
  have again (rx : Option PartialFrame) : (s.setRx rx).setRx none = s := by
    show { s with hlc := { s.hlc with rx := none } } = s
    rw [← hunts]
  conv_lhs => rw [← whole]
  rw [List.foldl_append, receive_front served hunts kind fits (by omega) (by omega), List.foldl_cons, List.foldl_nil,
    receiveByte_open served, whole, collectByte, size, if_neg (by omega), if_neg (by rw [length_frameBytes]; omega),
    frameComplete, if_pos (checkHolds_frameBytes kind payload), again, Nat.add_sub_cancel, taken]
  rfl

/-- FRAME_DISCARD with the bytes of a good frame brings the frame. -/
theorem exec_frameBytes :
    exec (.frameDiscard ((frameBytes kind payload).map fun b => ⟨b, false⟩)) s = .next (takeFrame kind payload s) := by
  rw [← receive_frame served hunts kind fits]
  exact congrArg Host.Outcome.next List.foldl_map

end

end Sys2Proof.Machine
end

section
/-! The requests that are refused, kind by kind (11 R172, 12 R180, R181). -/

namespace Sys2Proof.Machine

section
variable {s : State} (hs : s.ready) {payload : List Byte}
include hs

/-- A kind the table does not hold. -/
theorem badKind_refused (fits : payload.length ≤ 63) {kind : Byte} (request : kind.toNat < 0x80)
    (unknown : kind ∉ requestKinds) :
    exec (.badKind kind payload) s = .next (s.replying ⟨kind + 0x80#8, [0x02#8]⟩) :=
  exec_of_refused hs kind .badKind rfl fits request
    (refusal_of_unknown (by rwa [← Bool.not_eq_true, kindKnown_iff]))

/-- The reports take no payload. -/
theorem report_refused (fits : payload.length ≤ 63) (filled : payload ≠ []) :
    exec (.identify payload) s = .next (s.replying ⟨0x81#8, [0x01#8]⟩) ∧
    exec (.getStatus payload) s = .next (s.replying ⟨0x82#8, [0x01#8]⟩) ∧
    exec (.getLedger payload) s = .next (s.replying ⟨0x83#8, [0x01#8]⟩) ∧
    exec (.getEnergy payload) s = .next (s.replying ⟨0x84#8, [0x01#8]⟩) ∧
    exec (.getTariff payload) s = .next (s.replying ⟨0x85#8, [0x01#8]⟩) ∧
    exec (.getTime payload) s = .next (s.replying ⟨0x86#8, [0x01#8]⟩) ∧
    exec (.getEvents payload) s = .next (s.replying ⟨0x87#8, [0x01#8]⟩) := by
  have bad : (payload.length == 0) = false := by simpa using filled
  exact ⟨exec_of_refused hs 0x01#8 .badLength rfl fits (by decide) (refusal_of_length rfl bad),
    exec_of_refused hs 0x02#8 .badLength rfl fits (by decide) (refusal_of_length rfl bad),
    exec_of_refused hs 0x03#8 .badLength rfl fits (by decide) (refusal_of_length rfl bad),
    exec_of_refused hs 0x04#8 .badLength rfl fits (by decide) (refusal_of_length rfl bad),
    exec_of_refused hs 0x05#8 .badLength rfl fits (by decide) (refusal_of_length rfl bad),
    exec_of_refused hs 0x06#8 .badLength rfl fits (by decide) (refusal_of_length rfl bad),
    exec_of_refused hs 0x07#8 .badLength rfl fits (by decide) (refusal_of_length rfl bad)⟩

theorem readTamperLog_refused (fits : payload.length ≤ 63) (bad : payload.length ≠ 2) :
    exec (.readTamperLog payload) s = .next (s.replying ⟨0x88#8, [0x01#8]⟩) :=
  exec_of_refused hs 0x08#8 .badLength rfl fits (by decide) (refusal_of_length rfl (beq_false_of_ne bad))

/-- SUBMIT_CODE: a source byte is asked for, ACTIVE, and a source of the two, in that order. -/
theorem submitCode_refused (fits : payload.length ≤ 63) :
    (payload = [] → exec (.submitCode payload) s = .next (s.replying ⟨0x90#8, [0x01#8]⟩)) ∧
    (s.ps.power = .shelf → payload ≠ [] → exec (.submitCode payload) s = .next (s.replying ⟨0x90#8, [0x05#8]⟩)) ∧
    (s.ps.power = .active → payload ≠ [] → 1 < fieldAt payload 0 1 →
      exec (.submitCode payload) s = .next (s.replying ⟨0x90#8, [0x03#8]⟩)) := by
  have length (filled : payload ≠ []) : lengthGood 0x10 payload.length = true :=
    decide_eq_true (List.length_pos_iff.mpr filled)
  refine ⟨fun empty => ?_, fun shelf filled => ?_, fun active filled other => ?_⟩
  · subst empty
    exact exec_of_refused hs 0x10#8 .badLength (payload := []) rfl fits (by decide) (refusal_of_length rfl rfl)
  · refine exec_of_refused hs 0x10#8 .wrongState rfl fits (by decide) (refusal_of_state rfl (length filled) ?_)
    rw [shelf]; rfl
  · refine exec_of_refused hs 0x10#8 .badValue rfl fits (by decide) (refusal_of_fields rfl (length filled) ?_ ?_)
    · rw [active]; rfl
    · exact decide_eq_false (by omega)

/-- CUSTOMER_KEY, whatever command brings its frame: one byte is asked for, ACTIVE, and a key of the two. -/
theorem customerKey_refused {c : Instr} (brings : exec c s = .next (takeFrame 0x11#8 payload s))
    (fits : payload.length ≤ 63) :
    (payload.length ≠ 1 → exec c s = .next (s.replying ⟨0x91#8, [0x01#8]⟩)) ∧
    (payload.length = 1 → s.ps.power = .shelf → exec c s = .next (s.replying ⟨0x91#8, [0x05#8]⟩)) ∧
    (payload.length = 1 → s.ps.power = .active → 1 < fieldAt payload 0 1 →
      exec c s = .next (s.replying ⟨0x91#8, [0x03#8]⟩)) := by
  have length (one : payload.length = 1) : lengthGood 0x11 payload.length = true := beq_iff_eq.mpr one
  refine ⟨fun bad => ?_, fun one shelf => ?_, fun one active other => ?_⟩
  · exact exec_of_refused hs 0x11#8 .badLength brings fits (by decide) (refusal_of_length rfl (beq_false_of_ne bad))
  · refine exec_of_refused hs 0x11#8 .wrongState brings fits (by decide) (refusal_of_state rfl (length one) ?_)
    rw [shelf]; rfl
  · refine exec_of_refused hs 0x11#8 .badValue brings fits (by decide) (refusal_of_fields rfl (length one) ?_ ?_)
    · rw [active]; rfl
    · exact decide_eq_false (by omega)

theorem trimClock_refused (fits : payload.length ≤ 63) :
    (payload.length ≠ 1 → exec (.trimClock payload) s = .next (s.replying ⟨0x92#8, [0x01#8]⟩)) ∧
    (s.ps.power = .shelf → payload.length = 1 →
      exec (.trimClock payload) s = .next (s.replying ⟨0x92#8, [0x05#8]⟩)) := by
  refine ⟨fun bad => ?_, fun shelf one => ?_⟩
  · exact exec_of_refused hs 0x12#8 .badLength rfl fits (by decide) (refusal_of_length rfl (beq_false_of_ne bad))
  · refine exec_of_refused hs 0x12#8 .wrongState rfl fits (by decide)
      (refusal_of_state rfl (beq_iff_eq.mpr one) ?_)
    rw [shelf]; rfl

/-- COMMISSION: the fixed fields and whole entries are asked for, SHELF, and the checks of 11 R172, in that order. -/
theorem commission_refused (fits : payload.length ≤ 63) :
    (payload.length < 20 ∨ payload.length % 3 ≠ 2 →
      exec (.commission payload) s = .next (s.replying ⟨0xA0#8, [0x01#8]⟩)) ∧
    (s.ps.power = .active → 20 ≤ payload.length → payload.length % 3 = 2 →
      exec (.commission payload) s = .next (s.replying ⟨0xA0#8, [0x05#8]⟩)) ∧
    (s.ps.power = .shelf → 20 ≤ payload.length → payload.length % 3 = 2 → ¬CommissionGood payload →
      exec (.commission payload) s = .next (s.replying ⟨0xA0#8, [0x03#8]⟩)) := by
  refine ⟨fun bad => ?_, fun active fixed whole => ?_, fun shelf fixed whole bad => ?_⟩
  · refine exec_of_refused hs 0x20#8 .badLength rfl fits (by decide) (refusal_of_length rfl ?_)
    rw [← Bool.not_eq_true]
    intro good
    obtain ⟨fixed, whole⟩ := (lengthGood_commission _).mp good
    omega
  · refine exec_of_refused hs 0x20#8 .wrongState rfl fits (by decide)
      (refusal_of_state rfl ((lengthGood_commission _).mpr ⟨fixed, whole⟩) ?_)
    rw [active]; rfl
  · refine exec_of_refused hs 0x20#8 .badValue rfl fits (by decide)
      (refusal_of_fields rfl ((lengthGood_commission _).mpr ⟨fixed, whole⟩) ?_ ?_)
    · rw [shelf]; rfl
    · rw [← Bool.not_eq_true]
      exact fun good => bad ((fieldsGood_commission payload).mp good)

end

/-- Settles O26: the checks in their order, kind by kind; a CUSTOMER_KEY frame comes byte by byte. -/
theorem refusalsAnswerAloneInOrder : Obligations.RefusalsAnswerAloneInOrder := by
  intro s payload hs fits
  obtain ⟨codeEmpty, codeShelf, codeSource⟩ := submitCode_refused hs fits
  obtain ⟨trimLength, trimShelf⟩ := trimClock_refused hs fits
  obtain ⟨commissionLength, commissionActive, commissionFields⟩ := commission_refused hs fits
  have press {c : Instr} (key : Byte) (extra : List Byte)
      (brings : exec c s = .next (takeFrame 0x11#8 (key :: extra) s)) (fits : extra.length ≤ 62) :=
    customerKey_refused hs (payload := key :: extra) brings (Nat.succ_le_succ fits)
  refine ⟨fun kind request unknown => badKind_refused hs fits request unknown, report_refused hs fits,
    readTamperLog_refused hs fits, codeEmpty, fun filled short => ?_,
    fun hunts => customerKey_refused hs (exec_frameBytes hs.1 hunts 0x11#8 fits) fits, trimLength, commissionLength,
    fun shelf => ⟨codeShelf shelf, ?_, ?_, trimShelf shelf, commissionFields shelf⟩,
    fun active => ⟨commissionActive active, codeSource active⟩⟩
  · have long (key : Byte) : (key :: payload).length ≠ 1 := by simpa using filled
    exact ⟨(press 0x00#8 payload rfl short).1 (long _), (press 0x01#8 payload rfl short).1 (long _)⟩
  · exact (press 0x00#8 [] rfl (Nat.zero_le _)).2.1 rfl shelf
  · exact (press 0x01#8 [] rfl (Nat.zero_le _)).2.1 rfl shelf

end Sys2Proof.Machine
end

section
/-! The part a COMMISSION request makes (11 R173), block by block, before its checkpoint write. -/

namespace Sys2Proof.Machine

/-! ### The stages -/

/-- The power supervisor's own part of the entry to ACTIVE, and the start of the links. -/
def State.activated (r : CommissionRequest) (u : State) : State :=
  startActive (u.setPs { u.ps with
    power := .active, valid := false, periodic := secondsTimer 3600, meterId := r.meterId })

/-- The stages before the entry to ACTIVE. -/
def commissionStages (r : CommissionRequest) (s : State) : State :=
  commissionTamper (commissionLedger r (commissionBlocks r (commissionCalendar r s)))

/-- The blocks enter ACTIVE in the order of the stages. -/
theorem commissionEntry_eq (r : CommissionRequest) (u : State) : commissionEntry r u =
    enterActiveTm (lapseTest (enterActiveSss (recompute .ordinary (evaluateCalendar (u.activated r))))) := by
  simp only [commissionEntry, List.foldl_cons, List.foldl_nil, EntryAction.run, State.activated]

/-- The state that a COMMISSION request enters ACTIVE with. -/
def commissionReady (r : CommissionRequest) (s : State) : State := (commissionStages r s).activated r

theorem commissioned_eq (r : CommissionRequest) (s : State) : commissioned r s =
    enterActiveTm (lapseTest (enterActiveSss (recompute .ordinary (evaluateCalendar (commissionReady r s))))) :=
  commissionEntry_eq r _

@[simp] theorem commissionReady_frame (r : CommissionRequest) (s : State) :
    (commissionReady r s).params = (commissionStages r s).params ∧
    (commissionReady r s).tc = (commissionStages r s).tc ∧ (commissionReady r s).cl = (commissionStages r s).cl ∧
    (commissionReady r s).ce = (commissionStages r s).ce ∧ (commissionReady r s).ll = (commissionStages r s).ll ∧
    (commissionReady r s).tm = (commissionStages r s).tm ∧ (commissionReady r s).tl = (commissionStages r s).tl := by
  simp [commissionReady, State.activated]

theorem lapseTest_of_none {s : State} (none : s.ll.tempLimit = 0) : (lapseTest s).ll = s.ll := by
  rw [lapseTest_ll]
  split
  · rw [← none]
  · rfl

section
variable (r : CommissionRequest) (s : State)

/-! ### The power supervisor, the keys, the links, the limiter and the log -/

theorem commissioned_ps : (commissioned r s).ps = { s.ps with
    power := .active, valid := false, periodic := secondsTimer 3600, meterId := r.meterId } := by
  simp [commissioned_eq, commissionReady, State.activated, commissionStages]

theorem commissioned_params : (commissioned r s).params = r.params := by
  simp [commissioned_eq, commissionStages, commissionCalendar]

theorem commissioned_ce : (commissioned r s).ce = Ce.commissioned r := by
  simp [commissioned_eq, commissionStages, commissionBlocks]

theorem commissioned_mli : (commissioned r s).mli = Mli.manufacture.enterActive := by
  simp [commissioned_eq, commissionReady, State.activated, startActive, commissionStages, commissionBlocks]

/-- No temporary limit is there to lapse (07 R124, R132). -/
theorem commissioned_ll : (commissioned r s).ll = Ll.manufacture := by
  have before : (enterActiveSss (recompute .ordinary (evaluateCalendar (commissionReady r s)))).ll = Ll.manufacture := by
    simp [commissionStages, commissionBlocks]
  have lapse := lapseTest_of_none (congrArg Ll.tempLimit before)
  rw [commissioned_eq]
  simpa using lapse.trans before

/-- TL closes every ongoing record: none is claimed (08 R151). -/
theorem commissioned_tl : ∃ stop, (commissioned r s).tl = s.tl.closeUnclaimed (fun _ => false) stop :=
  ⟨(commissionLedger r (commissionBlocks r (commissionCalendar r s))).clock, by
    simp [commissioned_eq, commissionStages, commissionTamper, commissionCalendar]⟩

/-! ### The calendar and the registers -/

/-- A minute of day 0. -/
theorem dayOf_of_minute {minute : Nat} (h : minute ≤ 1439) : dayOf (minute * 60) = 0 :=
  Nat.div_eq_of_lt (by omega)

/-- An evaluation on day 0 begins no cycle and leaves the tables and the registers (03 R45, R51). -/
theorem evaluateCalendar_of_first_day {s : State} (first : dayOf s.clock = 0) :
    (evaluateCalendar s).be = s.be ∧ (evaluateCalendar s).tc.sched = s.tc.sched ∧
      (evaluateCalendar s).tc.clockValid = s.tc.clockValid := by
  have stays : s.rolls = false := by simp [State.rolls, first]
  rw [evaluateCalendar_be, evaluateCalendar_tc, stays]
  exact ⟨rfl, rfl, rfl⟩

/-- The calendar before the blocks, with the request's minute of day 0 (03 R53). -/
theorem commissionCalendar_tc (minute : r.minute ≤ 1439) :
    (commissionCalendar r s).tc.sched = { s.tc.sched with clock := r.minute * 60, cycleIndex := 0 } ∧
      (commissionCalendar r s).tc.clockValid = true := by
  obtain ⟨-, sched, valid⟩ := evaluateCalendar_of_first_day
    (s := (s.setParams r.params).setTc (s.tc.commissioned r.minute)) (dayOf_of_minute minute)
  exact ⟨sched, valid⟩

theorem commissioned_tc_be (minute : r.minute ≤ 1439) :
    (commissioned r s).tc.sched = { s.tc.sched with clock := r.minute * 60, cycleIndex := 0 } ∧
      (commissioned r s).tc.clockValid = true ∧ (commissioned r s).be.reg = Registers.zero ∧
      (commissioned r s).be.bLast = 0 := by
  obtain ⟨sched, valid⟩ := commissionCalendar_tc r s minute
  have tc : (commissionReady r s).tc = (commissionCalendar r s).tc := by simp [commissionStages]
  have be : (commissionReady r s).be.reg = Registers.zero ∧ (commissionReady r s).be.bLast = 0 := by
    simp [commissionReady, State.activated, startActive, Be.enterActive, commissionStages, commissionBlocks,
      Be.manufacture]
  have first : dayOf (commissionReady r s).clock = 0 := by
    rw [State.clock, tc, sched]
    exact dayOf_of_minute minute
  obtain ⟨sameBe, sameSched, sameValid⟩ := evaluateCalendar_of_first_day first
  have entered : (commissioned r s).tc = (evaluateCalendar (commissionReady r s)).tc ∧
      (commissioned r s).be = (evaluateCalendar (commissionReady r s)).be := by simp [commissioned_eq]
  rw [entered.1, entered.2, sameBe, sameSched, sameValid, tc]
  exact ⟨sched, valid, be⟩

end

/-! ### The ledger (04 R75) -/

/-- A recomputation leaves an account whose emergency credit is on offer as its allowance says. -/
theorem Account.settled_of_offered {a : Account} {p : Params} (fresh : a.accepted = false)
    (offered : a.available = decide (0 < p.eAllow)) : a.settled p = { a with state := creditStateOf p a } := by
  have flags : a.withFlags p = a := by
    obtain ⟨balance, residue, debt, satNoted, available, accepted⟩ := a
    obtain rfl : accepted = false := fresh
    obtain rfl : available = decide (0 < p.eAllow) := offered
    by_cases none : p.eAllow = 0 <;> simp [Account.withFlags, none, Nat.pos_iff_ne_zero]
  rw [Account.settled, flags]

/-- The opening balance is the whole of the ledger, and its credit state is that of 04 R67. -/
theorem commissioned_acct (r : CommissionRequest) (s : State) : (commissioned r s).acct =
    { Account.commissioned r.params r.opening with
      state := creditStateOf r.params (Account.commissioned r.params r.opening) } := by
  have blocks : (commissionBlocks r (commissionCalendar r s)).params = r.params := by simp [commissionCalendar]
  have stages : (commissionStages r s).acct = { Account.commissioned r.params r.opening with
      state := creditStateOf r.params (Account.commissioned r.params r.opening) } := by
    have tamper : (commissionStages r s).acct =
        (commissionLedger r (commissionBlocks r (commissionCalendar r s))).acct := by
      simp [commissionStages, State.acct]
    rw [tamper, commissionLedger, recompute_acct, State.setCl_params, blocks]
    exact Account.settled_of_offered rfl rfl
  have acct : (commissionReady r s).acct = (commissionStages r s).acct := by simp [State.acct]
  have params : (commissionReady r s).params = r.params := by simp [commissionStages, commissionCalendar]
  have entered : (commissioned r s).acct = (recompute .ordinary (evaluateCalendar (commissionReady r s))).acct := by
    simp [commissioned_eq, State.acct]
  rw [entered, recompute_acct, evaluateCalendar_acct, (evaluateCalendar_frame _).1, acct, stages, params]
  exact Account.settled_of_offered rfl rfl

end Sys2Proof.Machine
end

section
/-! The supply switch of a part just commissioned (06 R122, 11 R173): the open-reason set, the position, COIL_EN. -/

namespace Sys2Proof.Machine

/-! ### The set -/

/-- No owner but CL and TM has its reason in the set. -/
def Reasons.LedgerAndTamperAlone (x : Reasons) : Prop := x.overload = false ∧ x.remote = false ∧ x.service = false

section
variable {s : State} (h : s.sss.reasons.LedgerAndTamperAlone)
include h

theorem decideCredit_alone (origin : Origin) : (decideCredit origin s).sss.reasons.LedgerAndTamperAlone := by
  rw [decideCredit_reasons]
  split <;> exact h

theorem recompute_alone (origin : Origin) : (recompute origin s).sss.reasons.LedgerAndTamperAlone :=
  decideCredit_alone (by simpa using h) origin

theorem evaluateCalendar_alone : (evaluateCalendar s).sss.reasons.LedgerAndTamperAlone := by
  simp only [evaluateCalendar, rollCycle_frame, friendlyEdge]
  split
  · simpa using h
  · exact decideCredit_alone (by simpa using h) _

theorem evaluateTamper_alone : (evaluateTamper s).sss.reasons.LedgerAndTamperAlone := by
  rw [evaluateTamper_reasons]
  split <;> exact h

theorem enterActiveTm_alone : (enterActiveTm s).sss.reasons.LedgerAndTamperAlone :=
  evaluateTamper_alone (by simpa using h)

end

section
variable (r : CommissionRequest) (s : State)

theorem commissioned_alone : (commissioned r s).sss.reasons.LedgerAndTamperAlone := by
  have stages : (commissionStages r s).sss.reasons.LedgerAndTamperAlone := by
    refine evaluateTamper_alone ?_
    have ledger : (commissionLedger r (commissionBlocks r (commissionCalendar r s))).sss.reasons.LedgerAndTamperAlone :=
      recompute_alone (s := State.setCl _ _) ⟨rfl, rfl, rfl⟩ _
    simpa using ledger
  have switched : (enterActiveSss (recompute .ordinary
      (evaluateCalendar (commissionReady r s)))).sss.reasons.LedgerAndTamperAlone := by
    rw [enterActiveSss_reasons]
    refine recompute_alone (evaluateCalendar_alone ?_) _
    simpa [commissionReady, State.activated] using stages
  rw [commissioned_eq]
  exact enterActiveTm_alone (by simpa using switched)

/-! ### The tamper monitor (08 R143, R149, R151) -/

theorem stateAtEntry_of_idle (sensor : PerSensor Bool) (k : CondId) : stateAtEntry sensor k .idle ≠ .active := by
  cases k <;> simp [stateAtEntry] <;> split <;> simp

theorem PerCond.get_all {α : Type} (x : α) (k : CondId) : (PerCond.all x).get k = x := by
  cases k with
  | vloss p => cases p <;> rfl
  | reverse p => cases p <;> rfl
  | bypass p => cases p <;> rfl
  | _ => rfl

/-- At an entry an input that shows its condition makes a fresh one PENDING at most. -/
theorem enterActiveTm_not_in_force {s : State} (fresh : s.tm.conds = PerCond.all Cond.fresh) (hold : s.tm.hold = none)
    (k : CondId) : (enterActiveTm s).tm.condInForce k = false := by
  have resumed := enterActiveTm_resumed s
  have cond := resumed.conds k
  rw [fresh, PerCond.get_all] at cond
  simp [Tm.condInForce, cond, resumed.hold, hold, Cond.fresh, stateAtEntry_of_idle]

theorem commissioned_not_in_force (k : CondId) : (commissioned r s).tm.condInForce k = false := by
  have conds : (commissionStages r s).tm.conds = PerCond.all Cond.fresh := by
    simp [commissionStages, commissionTamper, evaluateTamper_tm, Tm.manufacture]
  have hold : (commissionStages r s).tm.hold = none := by
    simp [commissionStages, commissionTamper, evaluateTamper_tm, Tm.manufacture]
  rw [commissioned_eq]
  exact enterActiveTm_not_in_force (by simpa using conds) (by simpa using hold) k

theorem commissioned_tamper : (commissioned r s).sss.reasons.tamper = false := by
  have active : (commissioned r s).ps.power = .active := by rw [commissioned_ps]
  obtain ⟨held, reason, -⟩ := (commissioned_agrees r s).tamper (commissioned_of_active active)
  rw [reason, held]
  simp [anyInForceWith, Tm.kindInForce, commissioned_not_in_force]

/-! ### The position and COIL_EN -/

theorem enterActiveSss_unknown (s : State) : (enterActiveSss s).sss.verified = .unknown := by
  unfold enterActiveSss actOnEntry
  (repeat' split) <;> simp [startOpening_eq]

theorem enterActiveSss_coilEnable (s : State) : (enterActiveSss s).sss.coilEnable = s.sss.coilEnable := by
  unfold enterActiveSss actOnEntry
  (repeat' split) <;> simp [startOpening_eq]

theorem commissioned_unknown : (commissioned r s).sss.verified = .unknown := by
  rw [commissioned_eq]
  exact (enterActiveTm_asked (remote := False) _ .refl).keeps_unknown (by simp [enterActiveSss_unknown])

/-- No fault holds COIL_EN back: the contactor rests with its contacts open (06 R115, R122). -/
theorem commissioned_coilEnable : (commissioned r s).sss.coilEnable = true := by
  have stages : (commissionStages r s).sss.RestsOrdinary :=
    Sss.RestsOrdinary.asked (x := (commissionBlocks r (commissionCalendar r s)).sss) (remote := True)
      (evaluateTamper_asked _ (recompute_asked (State.setCl _ _) .refl)) ⟨rfl, .inl rfl, rfl⟩
  obtain ⟨-, rests, -⟩ := stages
  have started : (commissionReady r s).sss.coilEnable = true := by
    rcases rests with opened | armed <;> simp [commissionReady, State.activated, startActive, Sss.withCoilEnable, *]
  have settled :=
    (recompute_asked (remote := False) _ (evaluateCalendar_asked (commissionReady r s) .refl)).keeps_coilEnable
  have entered := (enterActiveTm_asked (remote := False) (lapseTest (enterActiveSss (recompute .ordinary
    (evaluateCalendar (commissionReady r s))))) .refl).keeps_coilEnable
  rw [commissioned_eq, entered]
  simp [enterActiveSss_coilEnable, settled, started]

end

end Sys2Proof.Machine
end

section
/-! The COMMISSION request (11 R172, R173). -/

namespace Sys2Proof.Machine

/-- Closing records leaves their serials and their order (08 R150). -/
theorem Tl.closeUnclaimed_serials (x : Tl) (claims : Nat → Bool) (stop : Nat) :
    (x.closeUnclaimed claims stop).records.map TamperRecord.serial = x.records.map TamperRecord.serial := by
  simp only [Tl.closeUnclaimed, List.map_map]
  refine List.map_congr_left fun r _ => ?_
  simp only [Function.comp]
  split <;> rfl

section
variable {s : State} (free : s.ps.write = none) (r : CommissionRequest) (reply : Reply)
include free

/-- With the store free the checkpoint write begins at once, and the request holds the slot (10 R167, 12 R180). -/
theorem commission_of_free : commission r reply s = beginWrite .commission ((commissioned r s).setHlc
    { (commissioned r s).hlc with slot := .awaitingWrite (some reply) }) := by
  rw [commission_eq]
  refine startWrite_eq_beginWrite _ ?_
  rw [State.setHlc_ps, commissioned_ps, free]

end

theorem exec_commission {s : State} (hs : s.ready) (shelf : s.ps.power = .shelf) {payload : List Byte}
    (fits : payload.length ≤ 63) (fixed : 20 ≤ payload.length) (whole : payload.length % 3 = 2)
    (good : CommissionGood payload) : exec (.commission payload) s =
      .next (commission (commissionOf payload) ⟨0xA0#8, [0x00#8]⟩ s) := by
  refine congrArg Host.Outcome.next (takeFrame_of_ready hs fits (by decide) ?_)
  refine refusal_of_passes rfl ((lengthGood_commission _).mpr ⟨fixed, whole⟩) ?_ ((fieldsGood_commission _).mpr good)
  rw [shelf]
  rfl

/-- Settles O38: each block of the part the request makes, and its checkpoint write under way. -/
theorem commissionMakesTheMeter : Obligations.CommissionMakesTheMeter := by
  intro s payload hs shelf free fits fixed whole good opening
  have run := exec_commission hs shelf fits fixed whole good
  rw [commission_of_free free] at run
  have ps := commissioned_ps (commissionOf payload) s
  have ce := commissioned_ce (commissionOf payload) s
  have params := (commissioned_params (commissionOf payload) s).trans (commissionOf_params payload)
  have mli := commissioned_mli (commissionOf payload) s
  have ll := commissioned_ll (commissionOf payload) s
  have acct := commissioned_acct (commissionOf payload) s
  have tamper := commissioned_tamper (commissionOf payload) s
  have unknown := commissioned_unknown (commissionOf payload) s
  have coilEnable := commissioned_coilEnable (commissionOf payload) s
  obtain ⟨sched, valid, reg, last⟩ := commissioned_tc_be (commissionOf payload) s good.minute
  obtain ⟨overload, remote, service⟩ := commissioned_alone (commissionOf payload) s
  obtain ⟨stop, tl⟩ := commissioned_tl (commissionOf payload) s
  rw [commissionOf_params] at acct
  generalize commissioned (commissionOf payload) s = c at *
  refine ⟨_, run, congrArg Ps.power ps, congrArg Ps.meterId ps, ce, params, congrArg Params.commWeekday params,
    congrArg Schedule.clock sched, valid, congrArg Schedule.cycleIndex sched, (congrArg Schedule.rates sched :),
    (congrArg Schedule.weekMap sched :), congrArg Account.balance acct, congrArg Account.opening acct,
    congrArg Account.residue acct, congrArg Account.debt acct, congrArg Account.crIn acct,
    congrArg Account.crRecovered acct, congrArg Account.crCharged acct, congrArg Account.crRaised acct,
    congrArg Account.crDeferred acct, congrArg Account.accepted acct, ?available, ?state, service, remote, overload,
    tamper, unknown, coilEnable, congrArg Registers.billedWh reg, congrArg Registers.cycleWh reg, last,
    congrArg Mli.baseline mli, congrArg Mli.expected mli, congrArg Ll.reclose ll, congrArg Ll.tempLimit ll,
    (congrArg (fun x : Tl => x.records.map TamperRecord.serial) tl).trans (s.tl.closeUnclaimed_serials _ stop), ?ended,
    (congrArg Tl.nextSerial tl :), rfl, _, rfl, rfl, rfl⟩
  case available =>
    show c.acct.available = decide (0 < c.params.eAllow)
    rw [acct, params]
    rfl
  case state =>
    show c.acct.state = creditStateOf c.params c.acct
    rw [acct, params]
    rfl
  case ended =>
    intro x mem
    rw [Option.isSome_iff_ne_none]
    have mem : x ∈ (s.tl.closeUnclaimed (fun _ => false) stop).records := tl ▸ mem
    exact fun unended => Bool.false_ne_true (Tl.ongoing_claimed mem unended)

end Sys2Proof.Machine
end

section
/-! The step runs commands, and every command completes (logs 1, 2 and 40). -/

namespace Sys2Proof.Machine

/-- Settles O1. -/
theorem stepRunsFrontCommand : Obligations.StepRunsFrontCommand := by
  intro c rest s front
  rw [step, front]

/-- The bytes of the line leave the queue of commands. -/
theorem receiveBytes_pending (bytes : List LineByte) (s : State) :
    (bytes.foldl receiveByte s).pending = s.pending := by
  induction bytes generalizing s with
  | nil => rfl
  | cons b rest ih => exact (ih (receiveByte s b)).trans (receiveByte_frame s b).2.2

/-- Settles O3: each command's meaning answers a next state, and its frame lemma says that the queue stays. -/
theorem everyCommandCompletes : Obligations.EveryCommandCompletes := by
  intro c s
  cases c
  case frameDiscard bytes => exact ⟨_, rfl, receiveBytes_pending bytes s⟩
  all_goals exact ⟨_, rfl, by simp⟩

end Sys2Proof.Machine
end

section
/-! IDENTIFY and GET_STATUS (12 R181): sets as bit fields, the numbers of the lists, and the two replies. -/

namespace Sys2Proof.Machine

/-! ### Sets as bit fields -/

theorem bitField_lt (l : List Bool) : bitField l < 2 ^ l.length := by
  induction l with
  | nil => decide
  | cons b rest ih =>
    have bit : b.toNat ≤ 1 := b.toNat_le
    rw [bitField, List.length_cons, Nat.pow_succ]
    omega

theorem testBit_bitField (l : List Bool) (i : Nat) : (bitField l).testBit i = l[i]?.getD false := by
  induction l generalizing i with
  | nil => simp [bitField]
  | cons b rest ih =>
    cases i with
    | zero => cases b <;> simp [bitField, Nat.testBit_zero]
    | succ i =>
      have half : (b.toNat + 2 * bitField rest) / 2 = bitField rest := by have := b.toNat_le; omega
      rw [bitField, Nat.testBit_succ, half, ih, List.getElem?_cons_succ]

/-- A bit of a set that fits in its bytes. -/
theorem bit_sent {l : List Bool} {k : Nat} (fits : l.length ≤ 8 * k) (i : Nat) :
    (bitField l % 256 ^ k).testBit i = l[i]?.getD false := by
  have room : 2 ^ l.length ≤ 256 ^ k := by
    rw [show 256 = 2 ^ 8 from rfl, ← Nat.pow_mul]
    exact Nat.pow_le_pow_right (by decide) fits
  rw [Nat.mod_eq_of_lt ((bitField_lt l).trans_le room), testBit_bitField]

/-- A member of a set is told by the bit at its place. -/
theorem member_sent {α : Type} {members : List α} (holds : α → Bool) {k : Nat} (fits : members.length ≤ 8 * k)
    {i : Nat} {x : α} (there : members[i]? = some x) :
    (bitField (members.map holds) % 256 ^ k).testBit i = holds x := by
  rw [bit_sent (by rwa [List.length_map]), List.getElem?_map, there]
  rfl

/-! ### The lists of 12 R181 -/

theorem FaultKind.number_eq (k : FaultKind) : k.number = 1 + [FaultKind.welded, .noClose, .driver].idxOf k := by
  cases k <;> rfl

/-- A contactor state is its place in the list, FAULT being behind the five others. -/
theorem Contactor.number_eq (c : Contactor) :
    c.number = [Contactor.closed, .opening, .opened, .armed, .closing].idxOf c := by
  cases c <;> rfl

theorem Contactor.subkind_of_sound {c : Contactor} (sound : ∀ k, c ≠ .fault k) : c.subkind = 0 := by
  cases c with
  | fault k => exact absurd rfl (sound k)
  | _ => rfl

theorem Contactor.number_le (c : Contactor) : c.number ≤ 5 := c.number_eq ▸ List.idxOf_le_length

theorem FaultKind.number_le (k : FaultKind) : k.number ≤ 4 :=
  k.number_eq ▸ Nat.add_le_add_left List.idxOf_le_length 1

/-- On a served link the part is in SHELF or in ACTIVE, and its number says in which. -/
theorem Power.number_sent {s : State} (served : s.linkServed = true) :
    s.ps.power.number % 256 ^ 1 = if s.ps.power = .shelf then 0 else 1 := by
  cases power : s.ps.power <;> simp_all [State.linkServed, Power.number]

/-! ### The replies -/

theorem identity_reported {s : State} (hs : s.ready) (meterId : s.ps.meterId < 4294967296)
    (revision : s.ce.keys.keyRevision ≤ 15) :
    ∃ r, exec (.identify []) s = .next (s.replying r) ∧ r.kind = 0x81#8 ∧ r.payload.length = 11 ∧
      fieldAt r.payload 0 1 = 0 ∧ fieldAt r.payload 1 2 = 0x4A46 ∧ fieldAt r.payload 3 2 = 0x0003 ∧
      fieldAt r.payload 5 1 = 0x01 ∧
      fieldAt r.payload 6 4 = (if s.ps.power = .shelf then 0 else s.ps.meterId) ∧
      fieldAt r.payload 10 1 = s.ce.keys.keyRevision := by
  refine ⟨_, congrArg Host.Outcome.next (takeFrame_report hs (identifyReply s) (by decide) rfl rfl), rfl, ?_⟩
  simp (disch := decide) only [replyTo, identifyReply, List.append_assoc, fieldAt_cons, fieldAt_head, fieldAt_skip,
    fieldAt_here, fieldAt_last, Nat.reduceSub]
  refine ⟨by simp, rfl, rfl, rfl, rfl, Nat.mod_eq_of_lt ?_, Nat.mod_eq_of_lt (by omega)⟩
  split <;> omega

/-- Settles O22: each reply is walked from its front; a set is read bit by bit. -/
theorem identityAndStatusAreReported : Obligations.IdentityAndStatusAreReported := by
  intro s hs
  refine ⟨identity_reported hs, fun queue => ?_⟩
  refine ⟨_, congrArg Host.Outcome.next (takeFrame_report hs (statusReply s) (by decide) rfl rfl), rfl, ?_⟩
  simp (disch := decide) only [replyTo, statusReply, List.append_assoc, fieldAt_cons, fieldAt_head, fieldAt_skip,
    fieldAt_here, fieldAt_last, Nat.reduceSub]
  have number : s.sss.contactor.number % 256 ^ 1 = s.sss.contactor.number :=
    Nat.mod_eq_of_lt (s.sss.contactor.number_le.trans_lt (by decide))
  have reason {i : Nat} {q : Reason} := member_sent s.sss.reasons.get (k := 1) (i := i) (x := q)
    (members := [.credit, .overload, .tamper, .remote, .service]) (by decide)
  have kind {i : Nat} {k : Kind} := member_sent s.tm.kindInForce (k := 2) (i := i) (x := k)
    (members := allKinds) (by decide)
  have flag := bit_sent (l := [s.sss.unverified, s.tc.clockValid, s.tl.isFull]) (k := 1) (Nat.le_add_left 3 5)
  refine ⟨by simp, rfl, Power.number_sent hs.1, s.acct.state.number_sent, fun k fault => ⟨?_, ?_⟩,
    fun sound => ⟨?_, ?_⟩, fun i q there => reason there, fun i k there => kind there, flag 0, flag 1, flag 2,
    Nat.mod_eq_of_lt (by omega)⟩
  · rw [number, fault]; rfl
  · rw [fault, ← k.number_eq]
    exact Nat.mod_eq_of_lt (k.number_le.trans_lt (by decide))
  · rw [number, Contactor.number_eq]
  · rw [Contactor.subkind_of_sound sound]; rfl

end Sys2Proof.Machine
end

section
/-! GET_EVENTS (12 R182, R184): the ten bytes of a notice, their place in the reply, and ATTN after it. -/

namespace Sys2Proof.Machine

/-! ### The numbers a notice carries (12 R181, R182) -/

theorem CreditState.number_eq (c : CreditState) :
    c.number = [CreditState.inCredit, .low, .offer, .emergency, .exhausted, .floor].idxOf c := by
  cases c <;> rfl

theorem CondId.number_eq (c : CondId) : c.number =
    1 + [CondId.meterCase, .cover, .mag, .neutral, .vloss .p1, .vloss .p2, .vloss .p3, .reverse .p1, .reverse .p2,
      .reverse .p3, .bypass .p1, .bypass .p2, .bypass .p3, .linkloss, .probe].idxOf c := by
  cases c with
  | vloss p | reverse p | bypass p => cases p <;> rfl
  | _ => rfl

theorem Coil.number_eq (c : Coil) : c.number = [Coil.none, .open, .close].idxOf c := by cases c <;> rfl

theorem Occasion.number_eq (o : Occasion) :
    o.number = [Occasion.commission, .code, .periodic, .holdupEntry, .dormantEntry].idxOf o := by
  cases o <;> rfl

theorem GroupClass.number_eq (c : GroupClass) :
    c.number = 8 + [GroupClass.setRate, .setProfile, .keyChange].idxOf c := by
  cases c <;> rfl

theorem sourceNumber_eq (x : Source) : sourceNumber x = [Source.keypad, .remote].idxOf x := by cases x <;> rfl

theorem DebtCause.number_eq (c : DebtCause) :
    c.number = [DebtCause.debitCut, .allowanceRaise, .debtAdd].idxOf c := by
  cases c <;> rfl

theorem phases_number (x : PerPhase Bool) :
    bitField (phaseList x) = x.p1.toNat + 2 * x.p2.toNat + 4 * x.p3.toNat := by
  simp only [phaseList, bitField]
  omega

theorem partSet_eq (parts : List Nat) : partSet parts = (parts.contains 0).toNat + 2 * (parts.contains 1).toNat
    + 4 * (parts.contains 2).toNat + 8 * (parts.contains 3).toNat := by
  simp only [partSet, bitField]
  omega

/-! ### The reply -/

/-- The detail of a notice fits in its five bytes (12 R182). -/
theorem NoticeBody.length_detail_le (b : NoticeBody) : b.detail.length ≤ 5 := by
  cases b <;> simp [NoticeBody.detail]

theorem Notice.length_bytes (n : Notice) : n.bytes.length = 10 := by
  have fits := n.body.length_detail_le
  simp only [Notice.bytes, List.length_append, length_bytesOf, List.length_replicate]
  omega

/-- A notice returned stands ten bytes on for each notice before it. -/
theorem notice_sent {h : Hlc} {i : Nat} {n : Notice} (returned : i < 6) (there : h.queue[i]? = some n) :
    ((0x00#8 :: eventsReply h).drop (3 + 10 * i)).take 10 = n.bytes := by
  have own : (eventsReturned h)[i]? = some n := by rw [eventsReturned, List.getElem?_take, if_pos returned, there]
  obtain ⟨lt, here⟩ := List.getElem?_eq_some_iff.mp own
  have items : (0x00#8 :: eventsReply h).drop (3 + 10 * i) =
      ((eventsReturned h).flatMap Notice.bytes).drop (10 * i) := by
    rw [← List.drop_drop]
    rfl
  rw [items, drop_items Notice.length_bytes, List.drop_eq_getElem_cons lt, here, List.flatMap_cons]
  exact List.take_left' n.length_bytes

theorem exec_getEvents {s : State} (hs : s.ready) : exec (.getEvents []) s =
    .next ((s.setHlc { s.hlc with queue := s.hlc.queue.drop 6, overflow := false }).replying
      ⟨0x87#8, 0x00#8 :: eventsReply s.hlc⟩) := by
  have taken : takeFrame 0x07#8 [] s = doGetEvents s :=
    takeFrame_of_ready hs (payload := []) (Nat.zero_le 63) (by decide) rfl
  have ready : (s.setHlc { s.hlc with queue := s.hlc.queue.drop 6, overflow := false }).ready := hs
  exact congrArg Host.Outcome.next (taken.trans (handReply_of_ready ready _))

/-- ATTN is driven for the notices that wait, in ACTIVE with LINK_RESET high (12 R184). -/
theorem attn_iff_of_served {s : State} (served : s.linkServed = true) :
    s.attn = true ↔ s.hlc.queue ≠ [] ∧ s.ps.power = .active := by
  simp only [State.linkServed, Bool.and_eq_true, Bool.not_eq_true'] at served
  simp [State.attn, served.2]

/-- Settles O24: the reply's head is read from its front, each notice by its ten bytes. -/
theorem eventsAreCollected : Obligations.EventsAreCollected := by
  intro s hs _
  have count : (eventsReturned s.hlc).length = min 6 s.hlc.queue.length := List.length_take
  refine ⟨_, exec_getEvents hs, rfl, ?length, fieldAt_head _ _, ?overflow, ?count, fun i n lt there => ?notice, ?attn⟩
  case length =>
    simp only [eventsReply, List.length_cons, List.length_append, length_bytesOf, count,
      length_items Notice.length_bytes]
    omega
  case overflow =>
    rw [fieldAt_cons, eventsReply, List.append_assoc, fieldAt_here, bool_sent]
  case count =>
    simp (disch := decide) only [eventsReply, List.append_assoc, fieldAt_cons, fieldAt_skip, fieldAt_here,
      Nat.reduceSub, count]
    exact Nat.mod_eq_of_lt (by omega)
  case notice =>
    rw [notice_sent lt there]
    obtain ⟨body, seconds⟩ := n
    simp only [← Contactor.number_eq, ← CreditState.number_eq, ← CondId.number_eq, ← FaultKind.number_eq,
      ← Coil.number_eq, ← Occasion.number_eq, ← GroupClass.number_eq, ← sourceNumber_eq, ← DebtCause.number_eq,
      ← phases_number, ← partSet_eq]
    cases body with
    | tamperStart c x | tamperEnd c x => cases x <;> rfl
    | _ => rfl
  case attn =>
    have left : s.hlc.queue.drop 6 ≠ [] ↔ 6 < s.hlc.queue.length := List.drop_eq_nil_iff.not.trans Nat.not_le
    rw [← left]
    exact attn_iff_of_served (s := State.replying (s.setHlc _) _) hs.1

end Sys2Proof.Machine
end

section
/-! What a good frame spells (12 R178), and what the receiver discards (12 R178, R179). -/

namespace Sys2Proof.Machine

/-- Settles O39: the bytes of a good frame bring it, and so does the command they spell. -/
theorem goodFrameIsTheCommandItSpells : Obligations.GoodFrameIsTheCommandItSpells := by
  intro s payload served hunts fits
  have spelt (kind : Byte) := exec_frameBytes served hunts kind fits
  refine ⟨spelt 0x01#8, spelt 0x02#8, spelt 0x03#8, spelt 0x04#8, spelt 0x05#8, spelt 0x06#8, spelt 0x07#8,
    spelt 0x08#8, spelt 0x10#8, spelt 0x12#8, spelt 0x20#8, fun extra key => ?_, fun extra key => ?_,
    fun kind _ _ => spelt kind, fun kind _ _ => spelt kind⟩
  · subst key
    exact spelt 0x11#8
  · subst key
    exact spelt 0x11#8

/-! ### The frame check (12 R178) -/

theorem frameCheckBit_eq (r : BitVec 16) (d : Bool) :
    frameCheckBit r d = (r <<< 1) ^^^ (if (r.getLsbD 15).xor d then 0x8005#16 else 0x0000#16) := by
  simp only [frameCheckBit, BitVec.msb_eq_getLsbD_last]
  cases r.getLsbD 15 <;> cases d <;> simp

/-- The check over one byte more: its eight bits are fed, bit 7 first. -/
theorem frameCheck_append (bytes : List Byte) (b : Byte) :
    frameCheck (bytes ++ [b]) = bitOrder.foldl (fun r i => frameCheckBit r (b.getLsbD i)) (frameCheck bytes) := by
  simp [frameCheck]

/-- A check sent as two bytes holds when they spell it, and only then. -/
theorem checkHolds_iff {body : List Byte} {n : Nat} (size : body.length = n + 1) (h l : Byte) :
    checkHolds (0xC3#8 :: (body ++ [h, l])) n = true ↔ h.toNat * 256 + l.toNat = (frameCheck body).toNat := by
  have checked : ((0xC3#8 :: (body ++ [h, l])).drop 1).take (n + 1) = body := List.take_left' size
  have check : (0xC3#8 :: (body ++ [h, l])).drop (n + 2) = [h, l] := List.drop_left' size
  have spelt : natOf [h, l] = h.toNat * 256 + l.toNat := by simp [natOf]
  have fits : h.toNat * 256 + l.toNat < 2 ^ 16 := by have := h.isLt; have := l.isLt; omega
  rw [checkHolds, checked, check, spelt, beq_iff_eq, ← BitVec.toNat_inj, BitVec.toNat_ofNat, Nat.mod_eq_of_lt fits,
    eq_comm]

/-! ### What a hunting receiver discards -/

theorem setRx_of_hunting {s : State} (hunts : s.hlc.rx = none) : s.setRx none = s := by
  show { s with hlc := { s.hlc with rx := none } } = s
  rw [← hunts]

/-- A kind of 0x80 or above is a reply's: its frame is not taken (12 R179). -/
theorem takeFrame_of_reply {kind : Byte} (reply : 0x80 ≤ kind.toNat) (payload : List Byte) (s : State) :
    takeFrame kind payload s = s := by
  simp [takeFrame, frameDelivered, Nat.not_lt.mpr reply]

section
variable {start length : Byte} {rest : List Byte} {n : Nat} (size : length.toNat = n) (good : 1 ≤ n ∧ n ≤ 64)
include size good

/-- Before its last byte a frame of a good length stands open. -/
theorem collectByte_of_short (short : rest.length < n + 2) (s : State) :
    collectByte (start :: length :: rest) s = s.setRx (some ⟨start :: length :: rest, 0⟩) := by
  have size : (((start :: length :: rest).drop 1).headD 0x00#8).toNat = n := size
  rw [collectByte, size, if_neg (by omega)]
  exact if_pos (Nat.add_lt_add_right short 2)

theorem collectByte_of_whole (whole : rest.length = n + 2) (s : State) :
    collectByte (start :: length :: rest) s = frameComplete (start :: length :: rest) n s := by
  have size : (((start :: length :: rest).drop 1).headD 0x00#8).toNat = n := size
  rw [collectByte, size, if_neg (by omega), if_neg (by simp [whole])]

end

/-- A whole frame whose check does not hold, or whose kind is a reply's, is discarded (12 R179). -/
theorem frameComplete_of_bad {start length kind : Byte} {rest : List Byte} {n : Nat}
    (bad : ¬checkHolds (start :: length :: kind :: rest) n = true ∨ 0x80 ≤ kind.toNat) (s : State) :
    frameComplete (start :: length :: kind :: rest) n s = s.setRx none := by
  rw [frameComplete]
  split
  · next holds => exact takeFrame_of_reply (bad.resolve_left (not_not_intro holds)) _ _
  · rfl

section
variable {s : State} (served : s.linkServed = true) (hunts : s.hlc.rx = none)
include served hunts

theorem receiveByte_of_noise {b : Byte} (noise : b ≠ 0xC3#8) : receiveByte s ⟨b, false⟩ = s := by
  simp [receiveByte, served, hunts, noise]

/-- A length outside 1..64 ends the frame at its second byte. -/
theorem receive_of_length {n : Byte} (bad : n = 0x00#8 ∨ 0x40 < n.toNat) :
    receiveByte (receiveByte s ⟨0xC3#8, false⟩) ⟨n, false⟩ = s := by
  have size : ((([0xC3#8] ++ [n]).drop 1).headD 0x00#8).toNat = 0 ∨
      64 < ((([0xC3#8] ++ [n]).drop 1).headD 0x00#8).toNat := bad.imp_left (congrArg BitVec.toNat)
  rw [receiveByte_start served hunts, receiveByte_open served, collectByte, if_pos size]
  exact setRx_of_hunting hunts

/-- The frame stands open up to its last byte, which discards it. -/
theorem receive_of_bad (kind : Byte) {payload : List Byte} (fits : payload.length ≤ 63) {h l : Byte}
    (bad : h.toNat * 256 + l.toNat ≠
        (frameCheck (BitVec.ofNat 8 (payload.length + 1) :: kind :: payload)).toNat ∨ 0x80 ≤ kind.toNat) :
    (0xC3#8 :: ((BitVec.ofNat 8 (payload.length + 1) :: kind :: payload) ++ [h, l])).foldl
      (fun t b => receiveByte t ⟨b, false⟩) s = s := by
  have size : (BitVec.ofNat 8 (payload.length + 1)).toNat = payload.length + 1 := by
    rw [BitVec.toNat_ofNat, Nat.mod_eq_of_lt (by omega)]
  have good : 1 ≤ payload.length + 1 ∧ payload.length + 1 ≤ 64 := by omega
  have front := receive_front served hunts kind fits (k := payload.length + 3) (by omega) (by omega)
  have begun : (frameBytes kind payload).take (payload.length + 3) =
      0xC3#8 :: BitVec.ofNat 8 (payload.length + 1) :: kind :: payload := List.take_left' rfl
  rw [begun] at front
  have holds := checkHolds_iff (n := payload.length + 1)
    (body := BitVec.ofNat 8 (payload.length + 1) :: kind :: payload) rfl h l
  generalize BitVec.ofNat 8 (payload.length + 1) = length at *
  have high : receiveByte (s.setRx (some ⟨0xC3#8 :: length :: kind :: payload, 0⟩)) ⟨h, false⟩ =
      s.setRx (some ⟨0xC3#8 :: length :: kind :: (payload ++ [h]), 0⟩) := by
    rw [receiveByte_open served]
    exact collectByte_of_short size good (by simp) _
  have low : receiveByte (s.setRx (some ⟨0xC3#8 :: length :: kind :: (payload ++ [h]), 0⟩)) ⟨l, false⟩ = s := by
    rw [receiveByte_open served]
    simp only [List.cons_append, List.append_assoc, List.nil_append] at holds ⊢
    rw [collectByte_of_whole size good (by simp), frameComplete_of_bad (bad.imp_left holds.not.mpr)]
    exact setRx_of_hunting hunts
  rw [← List.cons_append, List.foldl_append, front, List.foldl_cons, high, List.foldl_cons, low, List.foldl_nil]

end

/-- Where the link is not served the line is not read (12 R177). -/
theorem receiveBytes_of_unserved {s : State} (unserved : s.linkServed = false) (bytes : List LineByte) :
    bytes.foldl receiveByte s = s := by
  have deaf (b : LineByte) : receiveByte s b = s := by simp [receiveByte, unserved]
  induction bytes with
  | nil => rfl
  | cons b rest ih => rw [List.foldl_cons, deaf, ih]

/-- Settles O40: the check bit by bit, then each discard. -/
theorem badFramesLeaveNoTrace : Obligations.BadFramesLeaveNoTrace := by
  refine ⟨⟨rfl, fun bytes b => ?check⟩, fun s served hunts => ⟨fun b noise => ?noise, fun n bad => ?length,
      fun kind payload h l fits bad => ?bad⟩,
    fun s f opened => ⟨fun b served => ?framing, fun late => ?late, fun early => ?early⟩,
    fun s bytes unserved => congrArg Host.Outcome.next (receiveBytes_of_unserved unserved bytes)⟩
  case check =>
    rw [frameCheck_append]
    simp only [frameCheckBit_eq, bitOrder]
  case noise => exact congrArg Host.Outcome.next (receiveByte_of_noise served hunts noise)
  case length => exact congrArg Host.Outcome.next (receive_of_length served hunts bad)
  case bad => exact congrArg Host.Outcome.next (List.foldl_map.trans (receive_of_bad served hunts kind fits bad))
  case framing => exact congrArg Host.Outcome.next (if_pos served)
  case late =>
    have timeout : frameTimeout s = s.setRx none := by rw [frameTimeout, opened]; exact if_pos late
    exact congrArg Host.Outcome.next timeout
  case early =>
    have timeout : frameTimeout s = s := by rw [frameTimeout, opened]; exact if_neg (Nat.not_lt.mpr early)
    exact congrArg Host.Outcome.next timeout

end Sys2Proof.Machine
end

section
/-! The transmitter's order and LINK_RESET (12 R180, R185). -/

namespace Sys2Proof.Machine

/-! ### BUSY (12 R180) -/

/-- A good frame that finds the slot occupied is answered BUSY and not executed. -/
theorem takeFrame_of_occupied {s : State} (served : s.linkServed = true) {kind : Byte} {payload : List Byte}
    (fits : payload.length ≤ 63) (request : kind.toNat < 0x80) (occupied : s.hlc.slot ≠ .empty) :
    takeFrame kind payload s = s.setHlc (s.hlc.busy kind) := by
  simp [takeFrame, frameDelivered, served, fits, request, occupied]

section
variable {h : Hlc} {kind : Byte} {r : Reply}

theorem Hlc.transmit_of_idle (idle : h.sending = none) : h.transmit r = some { h with sending := some r } := by
  simp only [Hlc.transmit, idle]

theorem Hlc.transmit_of_one {x : Reply} (sending : h.sending = some x) (free : h.waiting = none) :
    h.transmit r = some { h with waiting := some r } := by
  simp only [Hlc.transmit, sending, free]

theorem Hlc.transmit_of_two {x y : Reply} (sending : h.sending = some x) (waiting : h.waiting = some y) :
    h.transmit r = none := by
  simp only [Hlc.transmit, sending, waiting]

/-- A BUSY reply goes to the transmitter, unless the slot's reply waits. -/
theorem Hlc.busy_of_unheld (unheld : ∀ r, h.slot ≠ .replyWaits r) :
    h.busy kind = (h.transmit ⟨kind + 0x80#8, [0x04#8]⟩).getD h := by
  unfold Hlc.busy
  split
  · next r held => exact absurd held (unheld r)
  all_goals rfl

theorem Hlc.busy_of_held (held : h.slot = .replyWaits r) : h.busy kind = h := by
  rw [Hlc.busy, held]

/-! ### REPLY_SENT (12 R180) -/

theorem Hlc.replySent_of_held {x : Reply} (sending : h.sending = some x) (held : h.slot = .replyWaits r) :
    h.replySent = { h with sending := h.waiting, waiting := some r, slot := .empty } := by
  simp only [Hlc.replySent, sending, held]

theorem Hlc.replySent_of_unheld {x : Reply} (sending : h.sending = some x) (unheld : ∀ r, h.slot ≠ .replyWaits r) :
    h.replySent = { h with sending := h.waiting, waiting := none } := by
  cases slot : h.slot with
  | replyWaits r => exact absurd slot (unheld r)
  | empty | awaitingWrite _ | periodicWrite => simp only [Hlc.replySent, sending, slot]

end

/-! ### LINK_RESET (12 R185) -/

/-- What an assertion leaves of the host link controller: the slot without its reply. -/
theorem linkResetAssert_of_served {s : State} (served : s.linkServed = true) : linkResetAssert s =
    (s.setPins { s.pins with linkResetLow := true }).setHlc ⟨none, s.hlc.slot.withoutReply, none, none, [], false⟩ :=
  if_pos served

theorem linkResetAssert_of_unserved {s : State} (unserved : s.linkServed = false) :
    linkResetAssert s = s.setPins { s.pins with linkResetLow := true } :=
  if_neg (by simp [unserved])

theorem linkResetRelease_of_low {s : State} (low : s.pins.linkResetLow = true) : linkResetRelease s =
    (s.setPins { s.pins with linkResetLow := false }).setHlc { s.hlc with rx := none } :=
  if_pos low

/-- Settles O41: BUSY by the slot and the transmitter, then the end of a reply and LINK_RESET by what they find. -/
theorem repliesWaitTheirTurn : Obligations.RepliesWaitTheirTurn := by
  refine ⟨fun s kind payload served fits request occupied => ?busy, fun s =>
    ⟨fun x sending => ⟨fun r held => ?held, fun unheld => ?unheld⟩, fun served => ?reset, fun unserved => ?unserved,
      fun low => ?release⟩⟩
  case busy =>
    have answered : exec (.busy kind payload) s = .next (s.setHlc (s.hlc.busy kind)) :=
      congrArg Host.Outcome.next (takeFrame_of_occupied served fits request occupied)
    rw [answered]
    refine ⟨fun unheld idle => ?_, fun x unheld one free => ?_, fun x y unheld one two => ?_, fun r held => ?_⟩
    · rw [Hlc.busy_of_unheld unheld, Hlc.transmit_of_idle idle]
      rfl
    · rw [Hlc.busy_of_unheld unheld, Hlc.transmit_of_one one free]
      rfl
    · rw [Hlc.busy_of_unheld unheld, Hlc.transmit_of_two one two]
      rfl
    · rw [Hlc.busy_of_held held]
      rfl
  case held => exact congrArg (fun h => Host.Outcome.next (s.setHlc h)) (Hlc.replySent_of_held sending held)
  case unheld => exact congrArg (fun h => Host.Outcome.next (s.setHlc h)) (Hlc.replySent_of_unheld sending unheld)
  case reset =>
    have asserted : exec .linkResetAssert s = .next _ := congrArg Host.Outcome.next (linkResetAssert_of_served served)
    rw [asserted]
    refine ⟨fun r free => ?_, fun periodic => ?_, fun r awaited => ?_, _, rfl, rfl, ?_⟩
    · rcases free with slot | slot <;> rw [slot] <;> rfl
    · rw [periodic]
      rfl
    · rw [awaited]
      rfl
    · simp [State.linkServed]
  case unserved => exact congrArg Host.Outcome.next (linkResetAssert_of_unserved unserved)
  case release => exact congrArg Host.Outcome.next (linkResetRelease_of_low low)

end Sys2Proof.Machine
end

section
/-! The ranges of the parameter table (05 R94, 11 R172, R175): each index sets one parameter to a value in its range. -/

namespace Sys2Proof.Machine

/-! ### One parameter -/

theorem PerKind.get_set {α : Type} (t : PerKind α) (k j : Kind) (x : α) :
    (t.set k x).get j = if j = k then x else t.get j := by
  cases k <;> cases j <;> rfl

/-- A field of a friendly window set within its own range: weekdays to 127, steps to 143. -/
theorem FriendlyWindow.inRange.setField {w : FriendlyWindow} (range : w.inRange) (field : Nat) {v : Nat}
    (le : v ≤ if field = 0 then 127 else 143) : (w.setField field v).inRange := by
  obtain ⟨days, start, stop⟩ := range
  unfold FriendlyWindow.setField
  split
  · exact ⟨le, start, stop⟩
  · exact ⟨days, le, stop⟩
  · next other _ => exact ⟨days, start, le.trans_eq (if_neg other)⟩

/-- An action setting in its range joins the settings. -/
theorem Params.InRange.withAction {p : Params} (range : p.InRange) (k : Kind) {v : Nat} (le : v ≤ 7) :
    Params.InRange { p with actions := p.actions.set k v } :=
  { range with actions := fun j => by rw [PerKind.get_set]; split; exacts [le, range.actions j] }

/-- A field of a friendly window joins the windows. -/
theorem Params.InRange.withWindow {p : Params} (range : p.InRange) (w field : Nat) {v : Nat}
    (le : v ≤ if field = 0 then 127 else 143) :
    Params.InRange { p with windows := p.windows.setField w field v } := by
  obtain ⟨w0, w1, w2, w3⟩ := range.windows
  refine { range with windows := ?_ }
  unfold PerWindow.setField
  split
  · exact ⟨w0.setField field le, w1, w2, w3⟩
  · exact ⟨w0, w1.setField field le, w2, w3⟩
  · exact ⟨w0, w1, w2.setField field le, w3⟩
  · exact ⟨w0, w1, w2, w3.setField field le⟩

/-- A value in the range of its row keeps every parameter in range, row by row (11 section 11.3). -/
theorem Params.InRange.setAt {p : Params} (range : p.InRange) {index v : Nat} {row : ParamRow}
    (found : paramRow index = some row) (low : row.lo ≤ v) (high : v ≤ row.hi) : (p.setAt index v).InRange := by
  unfold paramRow at found
  unfold Params.setAt
  split at found
  case h_27 =>
    split_ifs at found with action window days <;> obtain rfl := Option.some.inj found
    · simpa [action] using range.withAction _ high
    · simpa [action, window] using range.withWindow _ _ (by simpa [days] using high)
    · simpa [action, window] using range.withWindow _ _ (by simpa [days] using high)
  all_goals obtain rfl := Option.some.inj found
  case h_1 => exact { range with vNom := ⟨low, high⟩ }
  case h_2 => exact { range with dirPolicy := high }
  case h_3 => exact { range with deemedW := high }
  case h_4 => exact { range with thresholds := ⟨high, range.thresholds.2⟩ }
  case h_5 => exact { range with thresholds := ⟨range.thresholds.1, high⟩ }
  case h_6 => exact { range with neutralMarginMa := high }
  case h_7 => exact { range with vlossPct := ⟨low, high⟩ }
  case h_8 => exact { range with vlossMa := ⟨low, high⟩ }
  case h_9 => exact { range with reverseW := high }
  case h_10 => exact { range with allowances := ⟨high, range.allowances.2⟩ }
  case h_11 => exact { range with allowances := ⟨range.allowances.1, high⟩ }
  case h_12 => exact { range with creditThresholds := ⟨high, range.creditThresholds.2⟩ }
  case h_13 => exact { range with creditThresholds := ⟨range.creditThresholds.1, high⟩ }
  case h_14 => exact { range with recoveryPct := high }
  case h_15 => exact { range with ageLimit := high }
  case h_16 => exact { range with cycleDays := ⟨low, high⟩ }
  case h_17 => exact { range with commWeekday := high }
  case h_18 => exact { range with loadLimit := high }
  case h_19 => exact { range with olRecords := ⟨low, high⟩ }
  case h_20 => exact { range with inrushRecords := high }
  case h_21 => exact { range with recloseS := ⟨low, high⟩ }
  case h_22 => exact { range with recloseMax := high }
  case h_23 => exact { range with autoRecloseKeyless := high }
  case h_24 => exact { range with coilMs := ⟨low, high⟩ }
  case h_25 => exact { range with settleMs := ⟨low, high⟩ }
  case h_26 => exact { range with deemedHoldMin := high }

theorem Params.InRange.default : Params.default.InRange := by
  constructor
  case actions => intro k; cases k <;> decide
  case windows => simp [FriendlyWindow.inRange, Params.default]
  all_goals decide

/-- A clamped value lies between the ends of its range. -/
theorem le_clampNat (lo hi x : Nat) : lo ≤ clampNat lo hi x := le_max_left _ _

/-! ### The codes and the COMMISSION request -/

/-- SET_CONFIG clamps its value into the range of its row (05 R94). -/
theorem applySetConfig_inRange {s : State} (range : s.params.InRange) (c : Code) :
    (applySetConfig c s).state.params.InRange := by
  unfold applySetConfig
  dsimp only
  split
  · next row found =>
    have set : (configEffect (valueField c.value 13 8)
        (clampNat row.lo row.hi (valueField c.value 0 13 * row.step)) s).params.InRange := by
      rw [(configEffect_keeps _ _ s).1]
      exact range.setAt found (le_clampNat _ _ _) (clampNat_le _ _ _ (paramRow_lo_le_hi found))
    simpa [apply] using set
  · exact range

/-- Of all classes SET_CONFIG alone moves the parameters. -/
theorem applyCode_inRange {s : State} (range : s.params.InRange) (src : Source) (c : Code) (day : Int) :
    (applyCode src c day s).state.params.InRange := by
  unfold applyCode
  split
  case h_5 => exact applySetConfig_inRange range c
  case h_9 =>
    split
    · simpa using range
    · exact range
  all_goals simpa [applySetClock, applySetWeekmap] using range

theorem judgeCode_inRange {s : State} (range : s.params.InRange) (src : Source) (chars : List Byte) :
    (judgeCode src chars s).state.params.InRange := by
  rcases judgeCode_cases src chars s with same | failed | ⟨c, judged⟩
  · rwa [same]
  · simpa [failed] using range
  have passed : (passAuthentic src c s).params.InRange := by simpa using range
  rw [judged]
  rcases judgeAuthentic_cases src c (passAuthentic src c s) with same | ⟨-, applied⟩
  · rwa [same]
  · rw [applied]; exact applyCode_inRange passed src c _

/-- The entries of an allowed request are set one after the other over the defaults (11 R172, R173). -/
theorem CommissionRequest.params_inRange {r : CommissionRequest} (allowed : r.allowed = true) :
    r.params.InRange := by
  simp only [CommissionRequest.allowed, Bool.and_eq_true, decide_eq_true_eq] at allowed
  obtain ⟨⟨⟨⟨⟨⟨-, weekday⟩, -⟩, entries⟩, -⟩, -⟩, -⟩ := allowed
  refine { List.foldlRecOn (motive := Params.InRange) r.entries _ .default fun p range e mem => ?_ with
    commWeekday := weekday }
  have good := List.all_eq_true.mp entries e mem
  unfold ParamEntry.allowed at good
  split
  · next row found =>
    simp only [found, Bool.and_eq_true, decide_eq_true_eq] at good
    exact range.setAt found good.1.2 good.2
  · exact range

/-! ### The law -/

/-- The law of the parameters, for what is retained. -/
def Retained.InRange (x : Retained) : Prop := x.params.InRange

theorem inRange_iff (s : State) : s.retained.InRange ↔ s.params.InRange := Iff.rfl

/-- The ranges survive every change of the parameters: a SET_CONFIG code, a COMMISSION request, a fresh set. -/
theorem inRange_law : RetainedLaw Retained.InRange := by
  constructor <;> simp only [inRange_iff]
  case fresh => exact .default
  case commissions =>
    intro r s allowed _
    simpa [commissioned, commissionEntry, commissionCalendar] using CommissionRequest.params_inRange allowed
  case judges => exact fun src chars s range => judgeCode_inRange range src chars
  case entersActive | pressed | trims | evaluates | takes | ticks | endsLockout => intros; simpa

/-- Settles O6: the images hold what the running state held, whose parameters move within their rows. -/
theorem stepKeepsParameterRanges : Obligations.StepKeepsParameterRanges :=
  fun _ _ range h => inRange_law.step range h

end Sys2Proof.Machine
end

section
/-! The code history (05 R89): a consumed number joins a list in rising order; of 33 the lowest becomes the floor. -/

namespace Sys2Proof.Machine

/-! ### A number joins a rising list -/

theorem mem_insertAscending (n m : Nat) (l : List Nat) : m ∈ insertAscending n l ↔ m = n ∨ m ∈ l := by
  induction l with
  | nil => simp [insertAscending]
  | cons x rest ih =>
    unfold insertAscending
    split
    · simp
    · simp only [List.mem_cons, ih]; tauto

theorem length_insertAscending (n : Nat) (l : List Nat) : (insertAscending n l).length = l.length + 1 := by
  induction l with
  | nil => rfl
  | cons x rest ih =>
    unfold insertAscending
    split
    · rfl
    · simp [ih]

/-- A new number keeps the order strict (log 42). -/
theorem insertAscending_rising {n : Nat} {l : List Nat} (rising : l.Pairwise (· < ·)) (new : n ∉ l) :
    (insertAscending n l).Pairwise (· < ·) := by
  induction l with
  | nil => exact List.pairwise_singleton _ _
  | cons x rest ih =>
    obtain ⟨first, tail⟩ := List.pairwise_cons.mp rising
    obtain ⟨other, absent⟩ := List.ne_and_not_mem_of_not_mem_cons new
    unfold insertAscending
    split
    · next below =>
      refine List.pairwise_cons.mpr ⟨fun m mem => ?_, rising⟩
      rcases List.mem_cons.mp mem with rfl | mem
      · exact below
      · exact below.trans (first m mem)
    · next above =>
      refine List.pairwise_cons.mpr ⟨fun m mem => ?_, ih tail absent⟩
      rcases (mem_insertAscending n m rest).mp mem with rfl | mem
      · omega
      · exact first m mem

/-! ### A number is consumed -/

theorem Keys.consume_of_room {k : Keys} (n : Nat) (room : k.history.length < 32) :
    k.consume n = { k with history := insertAscending n k.history } :=
  if_pos (by rw [length_insertAscending]; omega)

/-- Of 33 numbers the lowest leaves the history and becomes the floor. -/
theorem Keys.consume_of_full {k : Keys} (n : Nat) (full : k.history.length = 32) :
    ∃ low rest, insertAscending n k.history = low :: rest ∧ k.consume n = { k with history := rest, floor := low } := by
  have length := length_insertAscending n k.history
  cases joined : insertAscending n k.history with
  | nil => simp [joined] at length
  | cons low rest =>
    refine ⟨low, rest, rfl, ?_⟩
    simp only [Keys.consume, joined, List.tail_cons, List.headD_cons]
    rw [joined] at length
    exact if_neg (by omega)

/-- The rest of the keys stay (05 R89). -/
theorem Keys.consume_rest (k : Keys) (n : Nat) : (k.consume n).attempts = k.attempts ∧
    (k.consume n).meterKey = k.meterKey ∧ (k.consume n).keyRevision = k.keyRevision := by
  simp only [Keys.consume]
  split <;> exact ⟨rfl, rfl, rfl⟩

/-- The law of the history survives the consumption of a number that a code may carry (05 R81, R89). -/
theorem Keys.Sound.consume {k : Keys} (sound : k.Sound) {n : Nat} (above : k.floor < n) (new : n ∉ k.history) :
    (k.consume n).Sound := by
  obtain ⟨most, rising, floor⟩ := sound
  have joined := insertAscending_rising rising new
  have length := length_insertAscending n k.history
  by_cases room : k.history.length < 32
  · rw [Keys.consume_of_room n room]
    refine ⟨by dsimp only; omega, joined, fun m mem => ?_⟩
    rcases (mem_insertAscending n m _).mp mem with rfl | mem
    · exact above
    · exact floor m mem
  · obtain ⟨low, rest, split, consumed⟩ := Keys.consume_of_full n (show k.history.length = 32 by omega)
    rw [split] at joined length
    obtain ⟨lowest, tail⟩ := List.pairwise_cons.mp joined
    rw [consumed]
    exact ⟨by simp only [List.length_cons] at length; dsimp only; omega, tail, lowest⟩

/-- Settles O21: the number joins; of 33 in strict order the first is the lowest, and the others lie above it. -/
theorem consumedCodeJoinsTheHistory : Obligations.ConsumedCodeJoinsTheHistory := by
  intro k n sound above new
  refine ⟨fun room => ?_, fun full => ?_, k.consume_rest n⟩
  · rw [Keys.consume_of_room n room]
    exact ⟨fun m => mem_insertAscending n m _, rfl⟩
  · obtain ⟨low, rest, joined, consumed⟩ := Keys.consume_of_full n full
    have members (m : Nat) : m = low ∨ m ∈ rest ↔ m = n ∨ m ∈ k.history := by
      rw [← mem_insertAscending n m, joined, List.mem_cons]
    have lowest := (List.pairwise_cons.mp (joined ▸ insertAscending_rising sound.2.1 new)).1
    have length := length_insertAscending n k.history
    rw [joined, List.length_cons] at length
    rw [consumed]
    refine ⟨by dsimp only; omega, (members low).mp (.inl rfl), fun m => ?_⟩
    rw [← members m]
    exact ⟨fun mem => ⟨.inr mem, lowest m mem⟩, fun ⟨either, higher⟩ => either.resolve_left (Nat.ne_of_gt higher)⟩

end Sys2Proof.Machine
end

section
/-! The code engine's own state (05 R104) after each of its operations, and the law of the history at every step. -/

namespace Sys2Proof.Machine

/-! ### Counters, timers and the pending group -/

@[simp] theorem setAttempts_ce (s : State) (src : Source) (n : Nat) : (s.setAttempts src n).ce =
    { s.ce with keys := { s.ce.keys with attempts := s.ce.keys.attempts.set src n } } := rfl

@[simp] theorem setLockout_ce (s : State) (src : Source) (t : Timer) :
    (s.setLockout src t).ce = { s.ce with lockout := s.ce.lockout.set src t } := rfl

@[simp] theorem setGroup_ce (s : State) (g : Option PendingGroup) : (s.setGroup g).ce = { s.ce with group := g } := rfl

@[simp] theorem consumeCode_ce (n : Nat) (s : State) :
    (consumeCode n s).ce = { s.ce with keys := s.ce.keys.consume n } := rfl

@[simp] theorem apply_ce (o : CodeOutcome) (c : Code) (detail : List Byte) (s : State) :
    (apply o c detail s).state.ce = { s.ce with keys := s.ce.keys.consume c.sequence } := rfl

@[simp] theorem dropGroup_ce (timeout : Bool) (g : PendingGroup) (s : State) :
    (dropGroup timeout g s).ce = { s.ce with group := none } := rfl

/-- A lockout starts at 3,600 s (05 R85). -/
theorem startLockout_ce (src : Source) (s : State) :
    (startLockout src s).ce = { s.ce with lockout := s.ce.lockout.set src (some 3600000) } := by
  simp [startLockout, secondsTimer]

/-- A failed attempt leaves all of the keys but the counter (05 R85). -/
theorem failAttempt_keys (src : Source) (s : State) : (failAttempt src s).ce.keys =
    { s.ce.keys with attempts := s.ce.keys.attempts.set src (s.ce.keys.attempts.get src - 1) } := by
  simp only [failAttempt]
  split
  · rw [startLockout_ce]; rfl
  · rfl

/-- The end of a lockout gives its source five attempts (05 R86). -/
theorem endLockout_ce (src : Source) (s : State) : (endLockout src s).ce =
    { s.ce with
      keys := { s.ce.keys with attempts := s.ce.keys.attempts.set src 5 }
      lockout := s.ce.lockout.set src none } := by
  simp [endLockout]

/-- An authentic code restores its source's attempts, and keeps the pending group that it belongs to (05 R87, R99). -/
theorem passAuthentic_ce (src : Source) (c : Code) (s : State) : (passAuthentic src c s).ce =
    { s.ce with
      keys := { s.ce.keys with attempts := s.ce.keys.attempts.set src 5 }
      group := s.ce.group.filter fun g => g.matchesCode c } := by
  unfold passAuthentic compareGroup
  split
  · next g pending =>
    have pending : s.ce.group = some g := pending
    split
    · next same => simp [pending, Option.filter, same]
    · next other => simp [pending, Option.filter, other]
  · next absent =>
    have absent : s.ce.group = none := absent
    simp [absent]

/-! ### The apply step -/

/-- A single class leaves the code engine, or consumes the code (05 R84). -/
theorem applyCode_ce_of_single (src : Source) {c : Code} (day : Int) (s : State) (single : groupClassOf c.cls = none) :
    (applyCode src c day s).state.ce = s.ce ∨
    (applyCode src c day s).state.ce = { s.ce with keys := s.ce.keys.consume c.sequence } := by
  unfold applyCode
  split
  · unfold applyCredit
    dsimp only
    split
    · exact .inl rfl
    · exact .inr (by simp)
  · exact .inr (by simp [applyDebtAdd])
  · unfold applyRemoteSwitch
    split <;> exact .inr (by simp)
  · exact .inr (by simp [applyClearTamper])
  · unfold applySetConfig
    dsimp only
    split
    · exact .inr (by simp)
    · exact .inl rfl
  · exact .inr (by simp [applyTempLimitCode])
  · exact .inr (by simp [applySetClock])
  · exact .inr (by simp [applySetWeekmap])
  · rw [single]
    exact .inl rfl

/-- A complete group leaves the keys, consumes its number, or brings fresh keys (05 R101, R102). -/
theorem completeGroup_keys (g : PendingGroup) (c : Code) (s : State) :
    (completeGroup g c s).state.ce.keys = s.ce.keys ∨
    (completeGroup g c s).state.ce.keys = s.ce.keys.consume c.sequence ∨
    ∃ content, (completeGroup g c s).state.ce.keys = Keys.changed content := by
  unfold completeGroup
  dsimp only
  split
  · unfold applyRateGroup
    dsimp only
    split
    · exact .inl rfl
    · exact .inr (.inl (by simp [setRate]))
  · unfold applyProfileGroup
    dsimp only
    split
    · exact .inr (.inl (by simp [setProfile]))
    · exact .inl rfl
  · unfold applyKeyGroup
    split
    · exact .inl rfl
    · exact .inr (.inr ⟨_, by simp [changeKeys]; rfl⟩)

theorem applyCode_of_group (src : Source) {c : Code} (day : Int) (s : State) {cls : GroupClass}
    (group : groupClassOf c.cls = some cls) : applyCode src c day s = applyPart cls src c s := by
  unfold groupClassOf at group
  split at group
  case h_4 => cases group
  all_goals next named => obtain rfl := Option.some.inj group; simp only [applyCode, named, groupClassOf]

/-- What the apply step can do to the keys. -/
theorem applyCode_keys (src : Source) (c : Code) (day : Int) (s : State) :
    (applyCode src c day s).state.ce.keys = s.ce.keys ∨
    (applyCode src c day s).state.ce.keys = s.ce.keys.consume c.sequence ∨
    ∃ content, (applyCode src c day s).state.ce.keys = Keys.changed content := by
  cases group : groupClassOf c.cls with
  | none =>
    rcases applyCode_ce_of_single src day s group with same | consumed
    · exact .inl (congrArg Ce.keys same)
    · exact .inr (.inl (congrArg Ce.keys consumed))
  | some cls =>
    rw [applyCode_of_group src day s group]
    unfold applyPart
    dsimp only
    (repeat' split)
    · exact .inl rfl
    · exact .inl rfl
    · exact completeGroup_keys _ _ _
    · exact .inl rfl

/-! ### The acceptance sequence (05 R79) -/

/-- A code that passes steps 4 to 8 is applied. -/
theorem judgeAuthentic_of_passes {s : State} {src : Source} {c : Code} (known : c.cls ≤ 10)
    (permitted : sourcePermitted src c.cls = true) (passes : s.passes c) :
    judgeAuthentic src c s = applyCode src c (issueDay (dayOf s.clock) c.day) s := by
  unfold judgeAuthentic
  simp [permitted, passes.inDate, passes.value, passes.unused, not_le.mpr passes.aboveFloor,
    not_le.mpr (Nat.lt_succ_of_le known)]

/-- A code that reaches the apply step has passed the replay test, the age test and its value checks. -/
theorem judgeAuthentic_passes (src : Source) (c : Code) (s : State) :
    (judgeAuthentic src c s).state = s ∨
    (s.passes c ∧ judgeAuthentic src c s = applyCode src c (issueDay (dayOf s.clock) c.day) s) := by
  unfold judgeAuthentic
  dsimp only
  iterate 2 (split; · exact .inl rfl)
  split
  · exact .inl rfl
  next aboveFloor =>
  split
  · exact .inl rfl
  next unused =>
  split
  · exact .inl rfl
  next inDate =>
  split
  · exact .inl rfl
  next value =>
  exact .inr ⟨⟨not_le.mp aboveFloor, by simpa using unused, by simpa using inDate, by simpa using value⟩, rfl⟩

/-! ### The law -/

/-- The law of the history does not speak of the counters. -/
theorem Keys.Sound.withAttempts {k : Keys} (sound : k.Sound) (x : PerSource Nat) :
    Keys.Sound { k with attempts := x } := sound

/-- Fresh keys hold no number (05 R102, R104). -/
theorem Keys.Sound.of_empty {k : Keys} (empty : k.history = []) : k.Sound := by
  simp [Keys.Sound, empty]

theorem judgeCode_history {s : State} (sound : s.ce.keys.Sound) (src : Source) (chars : List Byte) :
    (judgeCode src chars s).state.ce.keys.Sound := by
  rcases judgeCode_cases src chars s with same | failed | ⟨c, judged⟩
  · rwa [same]
  · rw [failed, failAttempt_keys]; exact sound.withAttempts _
  have passed : (passAuthentic src c s).ce.keys.Sound := by
    rw [passAuthentic_ce]; exact sound.withAttempts _
  rw [judged]
  rcases judgeAuthentic_passes src c (passAuthentic src c s) with same | ⟨passes, applied⟩
  · rwa [same]
  rw [applied]
  rcases applyCode_keys src c _ (passAuthentic src c s) with same | consumed | ⟨content, changed⟩
  · rwa [same]
  · rw [consumed]; exact passed.consume passes.aboveFloor passes.unused
  · rw [changed]; exact .of_empty rfl

/-- The law of the history, for what is retained. -/
def Retained.HistorySound (x : Retained) : Prop := x.keys.Sound

theorem historySound_iff (s : State) : s.retained.HistorySound ↔ s.ce.keys.Sound := Iff.rfl

/-- The law of the history survives every change of the keys: a code, a lockout's end, fresh keys. -/
theorem history_law : RetainedLaw Retained.HistorySound := by
  constructor <;> simp only [historySound_iff]
  case fresh => exact .of_empty rfl
  case commissions =>
    intro r s _ _
    have fresh : (commissioned r s).ce = Ce.commissioned r := by simp [commissioned, commissionEntry, commissionBlocks]
    exact fresh ▸ .of_empty rfl
  case judges => exact fun src chars s sound => judgeCode_history sound src chars
  case endsLockout =>
    intro src s sound
    unfold lockoutEnd
    split
    · rw [endLockout_ce]; exact sound.withAttempts _
    · exact sound
  case entersActive | pressed | trims | evaluates | takes | ticks => intros; simpa

/-- Settles O12: the images hold what the running state held, whose history a code alone makes longer. -/
theorem stepKeepsCodeHistory : Obligations.StepKeepsCodeHistory :=
  fun _ _ sound h => history_law.step sound h

end Sys2Proof.Machine
end

section
/-! The way of a code to its answer (05 R77 to R84): the issue day, what a refusal leaves, and the codes refused. -/

namespace Sys2Proof.Machine

/-! ### The issue day (05 R82) -/

/-- D is the largest day not above today + 2 with the remainder x, at most 4,095 days back from there. -/
theorem issueDay_spec (today : Nat) {x : Nat} (day : x < 4096) :
    issueDay today x ≤ today + 2 ∧ issueDay today x % 4096 = x ∧
    (∀ e : Int, e ≤ today + 2 → e % 4096 = x → e ≤ issueDay today x) ∧ (today : Int) - 4093 ≤ issueDay today x := by
  unfold issueDay
  refine ⟨by omega, by omega, fun e late same => by omega, by omega⟩

theorem codeExpired_iff (s : State) (c : Code) : codeExpired s c = true ↔ c.cls = 0 ∧ 0 < s.params.ageLimit ∧
    (s.params.ageLimit : Int) < (dayOf s.clock : Int) - issueDay (dayOf s.clock) c.day := by
  simp only [codeExpired, Bool.and_eq_true, beq_iff_eq, decide_eq_true_eq, and_assoc]
  rfl

/-- A code past AGE_LIMIT that passes the steps before is EXPIRED (05 R82). -/
theorem judgeAuthentic_of_expired {s : State} {src : Source} {c : Code} (known : c.cls ≤ 10)
    (permitted : sourcePermitted src c.cls = true) (aboveFloor : s.ce.keys.floor < c.sequence)
    (unused : c.sequence ∉ s.ce.keys.history) (expired : codeExpired s c = true) : judgeAuthentic src c s =
      refuse .expired (some c.cls) (bytesOfInt 2 (codeAge (dayOf s.clock) c.day)) s := by
  unfold judgeAuthentic
  simp [permitted, unused, expired, not_le.mpr aboveFloor, not_le.mpr (Nat.lt_succ_of_le known)]

/-- Settles O18: the day by its remainder, then step 7 of a code that passes the steps before. -/
theorem issueDayIsTheLargestThatFits : Obligations.IssueDayIsTheLargestThatFits := by
  intro s c src day today d
  obtain ⟨notAbove, remainder, largest, back⟩ := issueDay_spec (dayOf s.clock) day
  refine ⟨notAbove, remainder, largest, back, codeExpired_iff s c,
    fun known permitted aboveFloor unused => ⟨fun expired => ?_, fun inDate value => ?_⟩⟩
  · rw [judgeAuthentic_of_expired known permitted aboveFloor unused expired]
    exact ⟨rfl, rfl⟩
  · exact judgeAuthentic_of_passes known permitted ⟨aboveFloor, unused, inDate, value⟩

/-! ### A SUBMIT_CODE request on a ready link -/

/-- The characters are judged for the source they came from (05 R77). -/
theorem submitCode_judged {s : State} (ready : s.ready) (active : s.ps.power = .active) (src : Source)
    {chars : List Byte} (fits : chars.length ≤ 62) :
    exec (.submitCode (sourceByte src :: chars)) s = .next (replyJudged (judgeCode src chars s)) := by
  have passes : refusal 0x10#8 (sourceByte src :: chars) s.ps.power = none := by
    rw [active]
    cases src <;> simp [refusal, kindKnown, lengthGood, servedIn, fieldsGood, fieldAt_head, sourceByte]
  have taken := takeFrame_of_ready ready (payload := sourceByte src :: chars) (Nat.succ_le_succ fits) (by decide) passes
  refine congrArg Host.Outcome.next (taken.trans ?_)
  show doSubmitCode (sourceByte src :: chars) s = _
  rw [doSubmitCode, sourceOf_sourceByte, List.tail_cons]

/-- A refusal is answered at once, with the outcome, the class where it is reported, and the detail (05 R103). -/
theorem replyJudged_refuse {u : State} (ready : u.ready) (o : CodeOutcome) (cls : Option Nat) (detail : List Byte) :
    replyJudged (refuse o cls detail u) =
      u.replying ⟨0x90#8, 0x00#8 :: BitVec.ofNat 8 o.number :: BitVec.ofNat 8 (cls.getD 0xFF) :: detail⟩ := by
  refine (handReply_of_ready ready _).trans ?_
  simp [Judged.bytes, refuse, replyTo, Status.byte, bytesOf]

theorem length_of_codeNumber {chars : List Byte} {n : Nat} (spelled : codeNumber chars = some n) :
    chars.length = 21 := by
  unfold codeNumber at spelled
  split at spelled
  · assumption
  · simp at spelled

/-! ### Strings that are not codes (05 R77) -/

theorem digitsFrom_eq (acc : Nat) (chars : List Byte) : digitsFrom acc chars =
    if ∀ b ∈ chars, 0x30 ≤ b.toNat ∧ b.toNat ≤ 0x39 then
      some (chars.foldl (fun n b => n * 10 + (b.toNat - 0x30)) acc)
    else none := by
  induction chars generalizing acc with
  | nil => simp [digitsFrom]
  | cons b rest ih =>
    by_cases digit : 0x30 ≤ b.toNat ∧ b.toNat ≤ 0x39
    · have read : digitOf b = some (b.toNat - 0x30) := if_pos digit
      simp only [digitsFrom, read, ih, List.forall_mem_cons, digit, true_and, List.foldl_cons, and_self]
    · have unread : digitOf b = none := if_neg digit
      simp only [digitsFrom, unread]
      exact (if_neg fun all => digit (all b (List.mem_cons_self ..))).symm

/-- Each further digit multiplies what stands before it by ten. -/
theorem foldl_digits_ge (rest : List Byte) (acc : Nat) :
    acc * 10 ^ rest.length ≤ rest.foldl (fun n b => n * 10 + (b.toNat - 0x30)) acc := by
  induction rest generalizing acc with
  | nil => simp
  | cons b rest ih =>
    calc acc * 10 ^ (rest.length + 1) = acc * 10 * 10 ^ rest.length := by ring
      _ ≤ (acc * 10 + (b.toNat - 0x30)) * 10 ^ rest.length := Nat.mul_le_mul_right _ (Nat.le_add_right _ _)
      _ ≤ _ := ih _

/-- 05 R77: the length, a character that is not a digit, a number of 2^69 or more, a first digit of 6 or above. -/
theorem codeNumber_eq_none {chars : List Byte}
    (bad : chars.length ≠ 21 ∨ (∃ b ∈ chars, b.toNat < 0x30 ∨ 0x39 < b.toNat) ∨
      590295810358705651712 ≤ chars.foldl (fun n b => n * 10 + (b.toNat - 0x30)) 0 ∨
      ∃ b rest, chars = b :: rest ∧ 0x36 ≤ b.toNat) : codeNumber chars = none := by
  unfold codeNumber
  by_cases length : chars.length = 21
  case neg => exact if_neg length
  rw [if_pos length, digitsFrom_eq]
  by_cases digits : ∀ b ∈ chars, 0x30 ≤ b.toNat ∧ b.toNat ≤ 0x39
  case neg => rw [if_neg digits]
  rw [if_pos digits]
  refine if_neg (not_lt.mpr ?_)
  rcases bad with other | ⟨b, mem, other⟩ | great | ⟨b, rest, rfl, six⟩
  · exact absurd length other
  · have := digits b mem
    omega
  · exact great
  · have twenty : rest.length = 20 := by simpa using length
    have first := foldl_digits_ge rest (0 * 10 + (b.toNat - 0x30))
    rw [twenty] at first
    rw [List.foldl_cons]
    omega

/-- A lockout timer that stands at a whole second has one reading, rounded up or down (log 14). -/
theorem lockoutSeconds_whole (k : Nat) : lockoutSeconds (some (1000 * k)) = k := by
  simp only [lockoutSeconds]
  split <;> omega

/-- Settles O27: step 1 by the counter, step 2 by the string. -/
theorem undecodedCodesChangeNothing : Obligations.UndecodedCodesChangeNothing := by
  intro s src chars ready active fits
  refine ⟨fun k lockedOut lockout _ => ?_, fun attempts bad => ?_⟩
  · have judged : judgeCode src chars s = refuse .lockedOut none (bytesOf 2 k) s := by
      rw [judgeCode, if_pos lockedOut, lockout, lockoutSeconds_whole]
    rw [submitCode_judged ready active src fits, judged, replyJudged_refuse ready]
    rfl
  · have judged : judgeCode src chars s = refuse .malformed none [] s := by
      rw [judgeCode, if_neg attempts, codeNumber_eq_none bad]
    rw [submitCode_judged ready active src fits, judged, replyJudged_refuse ready]
    rfl

end Sys2Proof.Machine
end

section
/-! Authentic codes refused at steps 4 to 8 (05 R80 to R83), and the value rules of each class (05 section 5.5). -/

namespace Sys2Proof.Machine

/-! ### An authentic code -/

theorem judgeCode_of_presents {s : State} {src : Source} {chars : List Byte} {c : Code}
    (presented : s.presents src chars c) :
    judgeCode src chars s = judgeAuthentic src c (passAuthentic src c s) := by
  obtain ⟨n, spelled, decoded⟩ := presented.spells
  unfold judgeCode
  rw [if_neg presented.attempts, spelled]
  simp only [decoded, presented.authentic, if_true]

/-- An authentic code is judged by steps 4 to 9 and answered (05 R79). -/
theorem submitCode_of_presents {s : State} {src : Source} {chars : List Byte} {c : Code}
    (presented : s.presents src chars c) : exec (.submitCode (sourceByte src :: chars)) s =
      .next (replyJudged (judgeAuthentic src c (passAuthentic src c s))) := by
  obtain ⟨n, spelled, -⟩ := presented.spells
  rw [submitCode_judged presented.ready presented.active src (by rw [length_of_codeNumber spelled]; decide),
    judgeCode_of_presents presented]

/-- With no group pending an authentic code restores its source's attempts, and nothing else moves (05 R87). -/
theorem passAuthentic_of_no_group (src : Source) (c : Code) {s : State} (absent : s.ce.group = none) :
    passAuthentic src c s = s.setAttempts src 5 := by
  unfold passAuthentic compareGroup
  rw [show (s.setAttempts src 5).ce.group = none from absent]

theorem setAttempts_ready {s : State} (ready : s.ready) (src : Source) (n : Nat) : (s.setAttempts src n).ready := ready

/-- A code refused at steps 4 to 8 with no group pending. -/
theorem submitCode_of_refuse {s : State} {src : Source} {chars : List Byte} {c : Code}
    (presented : s.presents src chars c) (absent : s.ce.group = none) {o : CodeOutcome} {detail : List Byte}
    (refused : judgeAuthentic src c (s.setAttempts src 5) = refuse o (some c.cls) detail (s.setAttempts src 5)) :
    exec (.submitCode (sourceByte src :: chars)) s = .next ((s.setAttempts src 5).replying
      ⟨0x90#8, 0x00#8 :: BitVec.ofNat 8 o.number :: BitVec.ofNat 8 c.cls :: detail⟩) := by
  rw [submitCode_of_presents presented, passAuthentic_of_no_group src c absent, refused,
    replyJudged_refuse (setAttempts_ready presented.ready src 5)]
  rfl

/-! ### Steps 4 to 8 -/

section
variable {s : State} {src : Source} {c : Code}

theorem judgeAuthentic_of_unsupported (unknown : 11 ≤ c.cls) :
    judgeAuthentic src c s = refuse .unsupported (some c.cls) [] s := if_pos unknown

theorem judgeAuthentic_of_notPermitted (known : c.cls ≤ 10) (barred : sourcePermitted src c.cls = false) :
    judgeAuthentic src c s = refuse .notPermitted (some c.cls) [] s := by
  unfold judgeAuthentic
  simp [barred, not_le.mpr (Nat.lt_succ_of_le known)]

variable (known : c.cls ≤ 10) (permitted : sourcePermitted src c.cls = true)
include known permitted

theorem judgeAuthentic_of_stale (stale : c.sequence ≤ s.ce.keys.floor) : judgeAuthentic src c s =
    refuse .stale (some c.cls) (bytesOf 2 c.sequence ++ bytesOf 2 s.ce.keys.floor) s := by
  unfold judgeAuthentic
  simp [permitted, stale, not_le.mpr (Nat.lt_succ_of_le known)]

theorem judgeAuthentic_of_used (aboveFloor : s.ce.keys.floor < c.sequence) (used : c.sequence ∈ s.ce.keys.history) :
    judgeAuthentic src c s = refuse .used (some c.cls) (bytesOf 2 c.sequence) s := by
  unfold judgeAuthentic
  simp [permitted, used, not_le.mpr aboveFloor, not_le.mpr (Nat.lt_succ_of_le known)]

theorem judgeAuthentic_of_badValue (aboveFloor : s.ce.keys.floor < c.sequence)
    (unused : c.sequence ∉ s.ce.keys.history) (inDate : codeExpired s c = false)
    (bad : valueGood c.cls (issueDay (dayOf s.clock) c.day) c.value = false) :
    judgeAuthentic src c s = refuse .badValue (some c.cls) [] s := by
  unfold judgeAuthentic
  simp [permitted, unused, inDate, bad, not_le.mpr aboveFloor, not_le.mpr (Nat.lt_succ_of_le known)]

end

/-! ### The value rules (05 section 5.5) -/

/-- The value breaks a rule of its class. -/
def valueBroken (cls : Nat) (day : Int) (v : Nat) : Prop :=
  (cls ≤ 1 ∧ 2000000 < v) ∨ (cls = 2 ∧ 1 < v) ∨ (cls = 3 ∧ (1439 < v / 2 % 2048 ∨ v % 2 ≠ 0)) ∨
  (cls = 4 ∧ ¬(1 ≤ v / 8192 ∧ v / 8192 ≤ 26) ∧ ¬(32 ≤ v / 8192 ∧ v / 8192 ≤ 40) ∧
    ¬(48 ≤ v / 8192 ∧ v / 8192 ≤ 59)) ∨
  (cls = 5 ∧ v % 256 = 0) ∨
  (cls = 6 ∧ (1439 < v / 1024 ∨ 59 < v / 16 % 64 ∨ v % 16 ≠ 0 ∨ day < 0 ∨
    4294967295 < day * 86400 + ((v / 1024 * 60 + v / 16 % 64 : Nat) : Int))) ∨
  (cls = 7 ∧ v % 16384 ≠ 0) ∨ (cls = 8 ∧ 1 < v / 524288)

/-- The parameter table knows 1..26, 32..40 and 48..59 (11 section 11.3). -/
theorem paramRow_isSome_iff (index : Nat) : (paramRow index).isSome = true ↔
    (1 ≤ index ∧ index ≤ 26) ∨ (32 ≤ index ∧ index ≤ 40) ∨ (48 ≤ index ∧ index ≤ 59) := by
  unfold paramRow
  split
  case h_27 => split_ifs <;> simp only [imp_false, Option.isSome_some, Option.isSome_none, Bool.false_eq_true,
    true_iff, false_iff] at * <;> omega
  all_goals simp

/-- The value rules class by class: what is left when none is broken (05 R83). -/
theorem valueGood_iff {cls : Nat} (known : cls ≤ 10) (day : Int) (v : BitVec 21) :
    valueGood cls day v = true ↔ ¬valueBroken cls day v.toNat := by
  have bound := v.isLt
  interval_cases cls <;>
    simp only [valueGood, valueBroken, valueField_eq, paramRow_isSome_iff, codeClock, groupClassOf,
      GroupClass.partCount, maxClock, Bool.and_eq_true, decide_eq_true_eq, beq_iff_eq, bne_iff_ne,
      Nat.reducePow, Nat.reduceEqDiff, Nat.reduceLeDiff, reduceCtorEq, pow_zero, Nat.div_one, true_and, false_and,
      or_false, false_or, not_false_eq_true, iff_true] <;>
    omega

/-- Settles O29: the value rules, then each step by its own test. -/
theorem authenticRefusalsConsumeNothing : Obligations.AuthenticRefusalsConsumeNothing := by
  intro s src chars c presented absent answered cls v day broken
  have rules (known : c.cls ≤ 10) : valueGood c.cls day c.value = true ↔ ¬broken := valueGood_iff known day c.value
  have refused {o : CodeOutcome} {detail : List Byte}
      (refused : judgeAuthentic src c (s.setAttempts src 5) = refuse o (some c.cls) detail (s.setAttempts src 5)) :
      answered (BitVec.ofNat 8 o.number :: cls :: detail) := submitCode_of_refuse presented absent refused
  refine ⟨rules, fun unknown => refused (judgeAuthentic_of_unsupported unknown), fun keypad barred => ?_,
    fun known carried => ?_⟩
  · subst keypad
    rcases barred with two | ten
    · exact refused (judgeAuthentic_of_notPermitted (by omega) (by simp [sourcePermitted, two]))
    · exact refused (judgeAuthentic_of_notPermitted (by omega) (by simp [sourcePermitted, ten]))
  have permitted : sourcePermitted src c.cls = true := by
    rcases carried with rfl | ⟨two, ten⟩
    · rfl
    · exact sourcePermitted_of_ne src two ten
  refine ⟨fun stale => refused (judgeAuthentic_of_stale known permitted stale),
    fun aboveFloor used => refused (judgeAuthentic_of_used known permitted aboveFloor used),
    fun aboveFloor unused expired => refused (judgeAuthentic_of_expired known permitted aboveFloor unused expired),
    fun aboveFloor unused inDate bad => refused
      (judgeAuthentic_of_badValue known permitted aboveFloor unused inDate ?_)⟩
  exact Bool.eq_false_iff.mpr fun good => (rules known).mp good bad

end Sys2Proof.Machine
end

section
/-! Failed attempts, lockouts and PROBE (05 R85, R86, R99, 08 R139), and the notices that they raise. -/

namespace Sys2Proof.Machine

/-! ### The notices of a start and an end (08 R140, R141) -/

theorem logOpen_oneNotice (c : CondId) (inHoldup : Bool) (actions : Actions) (measure : Option Int) (s : State) :
    OneNotice s (logOpen c inHoldup actions measure s).1 := by
  unfold logOpen
  dsimp only
  split
  · exact .of_same rfl
  split
  · exact raise_oneNotice (.logFull c) (s.setTl _)
  · exact .of_same rfl

/-- An evaluation raises at most the notice of the contactor that TAMPER moves (06 R121, 08 R143). -/
theorem evaluateTamper_oneNotice (s : State) : OneNotice s (evaluateTamper s) := by
  unfold evaluateTamper holdTamper
  split <;> split
  · exact .of_same rfl
  · exact addReason_oneNotice .tamper ((setFlags s).setTm _)
  · exact removeReason_oneNotice .tamper .ordinary ((setFlags s).setTm _)
  · exact .of_same rfl

/-- A start raises three notices at most: LOG_FULL, TAMPER and the contactor's. -/
theorem startCond_queue_le (c : CondId) (measure : Option Int) (s : State) :
    (startCond c measure s).hlc.queue.length ≤ s.hlc.queue.length + 3 := by
  have opened := logOpen_oneNotice c (s.ps.power == .holdup) (actionsOf (s.params.actions.get c.kind) c) measure
    (starting c s)
  have told : (recorded c measure s).hlc.queue.length ≤
      (logOpen c (s.ps.power == .holdup) (actionsOf (s.params.actions.get c.kind) c) measure
        (starting c s)).1.hlc.queue.length + 1 := Hlc.join_length_le _ _
  have evaluated := evaluateTamper_oneNotice (recorded c measure s)
  rw [startCond_eq]
  simp only [OneNotice, starting_hlc] at opened told evaluated
  omega

/-- An end raises two notices at most: TAMPER and the contactor's. -/
theorem endCond_queue_le (c : CondId) (s : State) :
    (endCond c s).hlc.queue.length ≤ s.hlc.queue.length + 2 := by
  unfold endCond
  dsimp only
  generalize closed : State.setTl _ _ = u
  have same : u.hlc = s.hlc := by rw [← closed]; rfl
  have told := raise_oneNotice (.tamperEnd c (s.cond c).ongoing) u
  have evaluated := evaluateTamper_oneNotice (endEffect c (raise (.tamperEnd c (s.cond c).ongoing) u))
  have kept : (endEffect c (raise (.tamperEnd c (s.cond c).ongoing) u)).hlc =
      (raise (.tamperEnd c (s.cond c).ongoing) u).hlc := by cases c <;> rfl
  simp only [OneNotice, same, kept] at told evaluated
  omega

/-- A notice that finds room joins last. -/
theorem raise_queue_getLast (body : NoticeBody) {s : State} (room : s.hlc.queue.length < 16) :
    (raise body s).hlc.queue.getLast? = some ⟨body, s.clock⟩ := by
  show (s.hlc.join _).queue.getLast? = _
  rw [Hlc.join_queue _ _ room, List.getLast?_concat]

/-! ### PROBE (08 R139) -/

theorem PerSource.set_get {α : Type} (t : PerSource α) (src : Source) : t.set src (t.get src) = t := by
  cases src <;> rfl

theorem noProbeSource_iff (s : State) : noProbeSource s = true ↔ s.tm.probeSources = ⟨false, false⟩ := by
  unfold noProbeSource
  obtain ⟨keypad, remote⟩ := s.tm.probeSources
  simp

section
variable (src : Source) (s : State)

/-- A lockout's start is among PROBE's sources, and starts it where it had none. -/
theorem lockoutStartToTm_spec :
    (lockoutStartToTm src s).tm.probeSources = s.tm.probeSources.set src true ∧
    (s.tm.probeSources = ⟨false, false⟩ → ((lockoutStartToTm src s).cond .probe).state = .active) ∧
    (lockoutStartToTm src s).be = s.be ∧
    (lockoutStartToTm src s).hlc.queue.length ≤ s.hlc.queue.length + 3 := by
  unfold lockoutStartToTm
  split
  · next held =>
    refine ⟨?_, fun alone => ?_, rfl, Nat.le_add_right _ _⟩
    · conv_lhs => rw [← PerSource.set_get s.tm.probeSources src, held]
    · rw [alone] at held
      cases src <;> cases held
  dsimp only
  split
  · exact ⟨startCond_probeSources _ _ _, fun _ => by rw [startCond_cond, if_pos rfl],
      startCond_be .probe none _, startCond_queue_le .probe none (s.setTm _)⟩
  · next others =>
    exact ⟨rfl, fun alone => absurd ((noProbeSource_iff s).mpr alone) others, rfl, Nat.le_add_right _ _⟩

/-- A lockout's end leaves PROBE's sources, and ends it with the last. -/
theorem lockoutEndToTm_spec :
    (lockoutEndToTm src s).tm.probeSources = s.tm.probeSources.set src false ∧
    (s.tm.probeSources.get src = true → s.tm.probeSources.set src false = ⟨false, false⟩ →
      (lockoutEndToTm src s).cond .probe =
        { s.cond .probe with state := .idle, lastEnd := some s.clock, ongoing := .none }) ∧
    (s.tm.probeSources.set src false ≠ ⟨false, false⟩ → (lockoutEndToTm src s).tm.conds = s.tm.conds ∧
      (lockoutEndToTm src s).tl = s.tl ∧ (lockoutEndToTm src s).sss = s.sss) ∧
    (lockoutEndToTm src s).be = s.be ∧ (lockoutEndToTm src s).hlc.queue.length ≤ s.hlc.queue.length + 2 := by
  unfold lockoutEndToTm
  split
  case isFalse free =>
    have absent : s.tm.probeSources.get src = false := by simpa using free
    refine ⟨?_, fun held => absurd held free, fun _ => ⟨rfl, rfl, rfl⟩, rfl, Nat.le_add_right _ _⟩
    conv_lhs => rw [← PerSource.set_get s.tm.probeSources src, absent]
  dsimp only
  split
  · next last =>
    have alone := (noProbeSource_iff _).mp last
    exact ⟨endCond_probeSources _ _, fun _ _ => by rw [endCond_cond, if_pos rfl]; rfl,
      fun others => absurd alone others, endCond_be .probe _, endCond_queue_le .probe (s.setTm _)⟩
  · next left =>
    exact ⟨rfl, fun _ alone => absurd ((noProbeSource_iff _).mpr alone) left, fun _ => ⟨rfl, rfl, rfl⟩, rfl,
      Nat.le_add_right _ _⟩

end

/-! ### The end of a lockout and of a group's time (05 R86, R99) -/

theorem lockoutEnd_of_due {src : Source} {s : State} (active : s.ps.power = .active)
    (due : s.ce.lockout.get src = some 0) : lockoutEnd src s = endLockout src s :=
  if_pos ⟨active, by rw [due]; rfl⟩

theorem groupTimeout_of_due {s : State} (active : s.ps.power = .active) {g : PendingGroup}
    (pending : s.ce.group = some g) (due : g.timer = 0) : groupTimeout s = dropGroup true g s := by
  simp [groupTimeout, active, pending, due]

/-- Settles O53: TM's report between the counter and the notice, and the group dropped. -/
theorem codeTimersExpire : Obligations.CodeTimersExpire := by
  intro s active
  refine ⟨fun src due => ⟨endLockout src s, congrArg Host.Outcome.next (lockoutEnd_of_due active due),
    endLockout_ce src s, ?_⟩, fun g pending due room => ?_⟩
  · have told : endLockout src s =
        raise (.lockout src true) (lockoutEndToTm src ((s.setAttempts src 5).setLockout src none)) := rfl
    obtain ⟨sources, ends, stays, be, queue⟩ := lockoutEndToTm_spec src ((s.setAttempts src 5).setLockout src none)
    refine ⟨sources, ends, stays, fun room => ?_, by simp, by simp, be, by simp⟩
    rw [told, raise_queue_getLast _ (queue.trans_lt (show s.hlc.queue.length + 2 < 16 by omega))]
    simp [State.clock]
  · refine congrArg Host.Outcome.next ((groupTimeout_of_due active pending due).trans ?_)
    simp only [dropGroup, raise, raiseAt, Hlc.join]
    rw [if_pos (show (s.setGroup none).hlc.queue.length < 16 from room)]
    rfl

/-! ### A failed attempt (05 R85) -/

/-- Settles O28: the counter alone above 1; at 1 the lockout, whose notice joins behind TM's. -/
theorem failedAuthenticationCostsAnAttempt : Obligations.FailedAuthenticationCostsAnAttempt := by
  intro s src chars n k ready active left _ _ spelled forged
  have judged : judgeCode src chars s =
      refuse .authFail none (bytesOf 1 ((failAttempt src s).ce.keys.attempts.get src)) (failAttempt src s) := by
    unfold judgeCode
    rw [if_neg (by omega), spelled]
    simp [forged]
  have counted : (failAttempt src s).ce.keys.attempts.get src = k - 1 := by
    rw [failAttempt_keys, left]
    cases src <;> rfl
  have still : (failAttempt src s).ready :=
    State.ready_of_noticed ready (failAttempt_noticed src s (.refl _)) (by simp) (by simp)
  have answered : exec (.submitCode (sourceByte src :: chars)) s = .next ((failAttempt src s).replying
      ⟨0x90#8, [0x00#8, 0x05#8, 0xFF#8, BitVec.ofNat 8 (k - 1)]⟩) := by
    rw [submitCode_judged ready active src (by rw [length_of_codeNumber spelled]; decide), judged,
      replyJudged_refuse still, counted]
    simp [bytesOf, CodeOutcome.number]
  refine ⟨fun two => ?_, fun one => ?_⟩
  · have lowered : failAttempt src s = s.setAttempts src (k - 1) := by
      unfold failAttempt
      rw [left]
      exact if_neg (by omega)
    rw [answered, lowered]
  · subst one
    have locked : failAttempt src s = startLockout src (s.setAttempts src 0) := by
      unfold failAttempt
      rw [left]
      rfl
    obtain ⟨sources, starts, be, queue⟩ :=
      lockoutStartToTm_spec src ((s.setAttempts src 0).setLockout src (secondsTimer 3600))
    refine ⟨_, answered, ?_⟩
    rw [locked]
    refine ⟨startLockout_ce src _, rfl, sources, starts, fun room => ?_, by simp [State.replying],
      by simp [State.replying], be, by simp [State.replying]⟩
    refine (raise_queue_getLast _ (queue.trans_lt (show s.hlc.queue.length + 3 < 16 by omega))).trans ?_
    simp [State.clock]

end Sys2Proof.Machine
end

section
/-! CLEAR_TAMPER (05 R93): the latches of the mask (08 R145) and the records that ended before the cutoff (09 R158). -/

namespace Sys2Proof.Machine

/-! ### The mask and the cutoff -/

/-- Bit k of the mask is the kind of number k. -/
theorem maskOf_get (mask : Nat) (k : Kind) : (maskOf mask).get k = mask.testBit (allKinds.idxOf k) := by
  cases k <;> rfl

/-- An end that lies before a cutoff. -/
def endedBefore (cutoff : Int) (e : Option Nat) : Bool := e.any fun n => decide ((n : Int) < cutoff)

theorem Cond.clearedBy_eq (x : Cond) (cutoff : Int) :
    x.clearedBy cutoff = (x.latch && x.state == .idle && endedBefore cutoff x.lastEnd) := by
  unfold Cond.clearedBy endedBefore
  cases x.lastEnd <;> rfl

theorem TamperRecord.clearedBy_eq (r : TamperRecord) (mask : PerKind Bool) (cutoff : Int) :
    r.clearedBy mask cutoff = (mask.get r.cond.kind && endedBefore cutoff r.stop) := by
  unfold TamperRecord.clearedBy endedBefore
  cases r.stop <;> rfl

/-! ### The latches (08 R145) -/

theorem mem_allConds (x : CondId) : x ∈ allConds := by
  cases x with
  | vloss p | reverse p | bypass p => cases p <;> simp [allConds]
  | _ => simp [allConds]

/-- Latches dropped one after the other: those of the list, and no others. -/
theorem foldl_dropLatch_cond (l : List CondId) (s : State) (x : CondId) :
    (l.foldl (fun t c => t.setCond c { t.cond c with latch := false }) s).cond x =
      { s.cond x with latch := (s.cond x).latch && !decide (x ∈ l) } := by
  induction l generalizing s with
  | nil => simp
  | cons c rest ih =>
    rw [List.foldl_cons, ih, State.setCond_cond]
    by_cases same : x = c
    · simp [same]
    · simp [same]

theorem foldl_dropLatch_hold (l : List CondId) (s : State) :
    (l.foldl (fun t c => t.setCond c { t.cond c with latch := false }) s).tm.hold = s.tm.hold := by
  induction l generalizing s with
  | nil => rfl
  | cons c rest ih => rw [List.foldl_cons, ih]; rfl

/-- The latches a code clears drop, and the deemed hold goes on. -/
theorem clearLatches_tm (mask : PerKind Bool) (cutoff : Int) (s : State) :
    (∀ x, (clearLatches mask cutoff s).1.cond x = { s.cond x with
      latch := (s.cond x).latch && !(mask.get x.kind && (s.cond x).clearedBy cutoff) }) ∧
    (clearLatches mask cutoff s).1.tm.hold = s.tm.hold ∧
    (clearLatches mask cutoff s).2 = allConds.countP fun x => mask.get x.kind && (s.cond x).clearedBy cutoff := by
  refine ⟨fun x => ?_, ?_, List.countP_eq_length_filter.symm⟩
  · simp only [clearLatches, evaluateTamper_cond, foldl_dropLatch_cond, latchesCleared, List.mem_filter, mem_allConds,
      true_and, Bool.decide_eq_true]
  · simp only [clearLatches, evaluateTamper_tm]
    exact foldl_dropLatch_hold _ s

/-! ### The unrecorded counts (09 R158) -/

theorem zeroMasked_get (mask : PerKind Bool) (counts : PerKind Nat) (k : Kind) :
    (zeroMasked mask counts).get k = if mask.get k = true then 0 else counts.get k := by
  cases k <;> rfl

/-- The counts of the mask's kinds drop to 0 where a record is removed or the log is not full. -/
theorem Tl.clear_unrecorded (x : Tl) (mask : PerKind Bool) (cutoff : Int) (k : Kind) :
    (x.clear mask cutoff).1.unrecorded.get k =
      if mask.get k = true ∧ ((x.kept mask cutoff).length < x.records.length ∨ x.records.length < 64) then 0
      else x.unrecorded.get k := by
  simp only [Tl.clear, ne_eq, Nat.sub_eq_zero_iff_le, not_le]
  split
  · next opens => rw [zeroMasked_get]; simp [opens]
  · next closed => simp [closed]

/-! ### The code -/

/-- CLEAR_TAMPER is consumed: TM's part first, then TL's (05 R93). -/
theorem submitClearTamper {s : State} {src : Source} {chars : List Byte} {c : Code} {mask : PerKind Bool} {cutoff : Int}
    (presented : s.presents src chars c) (passes : s.passes c) (cls : c.cls = 3)
    (masks : mask = maskOf (valueField c.value 12 9))
    (cuts : cutoff = codeCutoff (issueDay (dayOf s.clock) c.day) c.value) :
    ∃ t, exec (.submitCode (sourceByte src :: chars)) s = .next t ∧
      s.consumed t src c ([0x00#8, 0x03#8] ++ bytesOf 1 (clearLatches mask cutoff (passAuthentic src c s)).2 ++
        bytesOf 1 (s.tl.clear mask cutoff).2) ∧
      AppliedAs ((clearLatches mask cutoff (passAuthentic src c s)).1.setTl (s.tl.clear mask cutoff).1) t := by
  subst masks cuts
  have applied : applyCode src c (issueDay (dayOf s.clock) c.day) (passAuthentic src c s) = apply .accepted c
      (bytesOf 1 (clearLatches (maskOf (valueField c.value 12 9))
          (codeCutoff (issueDay (dayOf s.clock) c.day) c.value) (passAuthentic src c s)).2 ++
        bytesOf 1 (s.tl.clear (maskOf (valueField c.value 12 9))
          (codeCutoff (issueDay (dayOf s.clock) c.day) c.value)).2)
      ((clearLatches (maskOf (valueField c.value 12 9)) (codeCutoff (issueDay (dayOf s.clock) c.day) c.value)
        (passAuthentic src c s)).1.setTl (s.tl.clear (maskOf (valueField c.value 12 9))
          (codeCutoff (issueDay (dayOf s.clock) c.day) c.value)).1) := by
    simp [applyCode, cls, applyClearTamper]
  have done := submitCode_consumed presented passes (by omega) (sourcePermitted_of_ne src (by omega) (by omega)) applied
    (by simp) (by simp)
  rw [cls, ← List.append_assoc] at done
  exact done

/-- Settles O33: the latches by their conditions, the records and the counts by TL's clear. -/
theorem clearTamperRemovesWhatEndedBefore : Obligations.ClearTamperRemovesWhatEndedBefore := by
  intro s src chars c presented passes cls _ v cutoff masked before freed kept
  have mask (k : Kind) : (maskOf (valueField c.value 12 9)).get k = masked k := by
    have field : valueField c.value 12 9 = v / 4096 := by rw [valueField_eq]; omega
    rw [maskOf_get, field]
    rfl
  have cuts : cutoff = codeCutoff (issueDay (dayOf s.clock) c.day) c.value := by
    simp only [cutoff, codeCutoff, valueField_eq]
    push_cast
    rfl
  have found (x : CondId) : (passAuthentic src c s).cond x = s.cond x := by simp [State.cond]
  have frees (x : CondId) : ((maskOf (valueField c.value 12 9)).get x.kind &&
      ((passAuthentic src c s).cond x).clearedBy cutoff) = freed x := by
    rw [mask, found, Cond.clearedBy_eq, ← Bool.and_assoc, ← Bool.and_assoc]
    rfl
  have keeps : s.tl.kept (maskOf (valueField c.value 12 9)) cutoff = kept := by
    unfold Tl.kept
    simp only [TamperRecord.clearedBy_eq, mask]
    rfl
  obtain ⟨t, take, consumed, applied⟩ := submitClearTamper presented passes cls rfl cuts
  obtain ⟨conds, hold, count⟩ := clearLatches_tm (maskOf (valueField c.value 12 9)) cutoff (passAuthentic src c s)
  simp only [frees] at conds count
  simp only [found] at conds
  rw [count] at consumed
  have tl : t.tl = (s.tl.clear (maskOf (valueField c.value 12 9)) cutoff).1 := applied.tl
  have removed : (s.tl.clear (maskOf (valueField c.value 12 9)) cutoff).2 = s.tl.records.length - kept.length := by
    rw [← keeps]; rfl
  rw [removed] at consumed
  refine ⟨t, take, consumed, ?_, by rw [tl]; rfl, fun x => ?_, fun k => ?_, ?_, ?_⟩
  · rw [tl, ← keeps]; rfl
  · exact (congrArg (fun y : Tm => y.conds.get x) applied.tm).trans (conds x)
  · rw [tl, Tl.clear_unrecorded, keeps, mask]
  · rw [applied.tm]; exact hold.trans (by simp)
  · rw [applied.cl, applied.params, applied.mli, applied.be, applied.tc, applied.ll, applied.pins]
    simp

end Sys2Proof.Machine
end

section
/-! The parts of a code group (05 R98 to R100): held, answered as duplicates, or joined to a content. -/

namespace Sys2Proof.Machine

/-! ### One part -/

/-- The part a code carries: two bits of index and nineteen of payload (05 section 5.5). -/
def Code.part (c : Code) : GroupPart := ⟨c.value.toNat / 524288, c.value.extractLsb' 0 19⟩

theorem valueField_part (c : Code) : valueField c.value 19 2 = c.part.index := by
  rw [valueField_eq]
  simp only [Code.part]
  omega

/-- The group with the code's part behind those received. -/
def PendingGroup.plus (g : PendingGroup) (c : Code) : PendingGroup := { g with parts := g.parts ++ [c.part] }

theorem PendingGroup.indices_plus (g : PendingGroup) (c : Code) : (g.plus c).indices = g.indices ++ [c.part.index] := by
  simp [PendingGroup.indices, PendingGroup.plus]

/-- The group a first part opens, for ten minutes (05 R98, R99). -/
def PendingGroup.opened (cls : GroupClass) (src : Source) (c : Code) : PendingGroup :=
  ⟨cls, c.sequence, src, [c.part], 600000⟩

theorem isComplete_plus_iff (g : PendingGroup) (c : Code) : (g.plus c).isComplete = true ↔
    ∀ i, i < g.cls.partCount → i = c.part.index ∨ i ∈ g.indices := by
  unfold PendingGroup.isComplete
  rw [PendingGroup.indices_plus]
  simp [PendingGroup.plus, or_comm]

/-- The set of one part is its own bit. -/
theorem bytesOf_partSet_single (c : Code) :
    bytesOf 1 (partSet [c.part.index]) = [BitVec.ofNat 8 (2 ^ c.part.index)] := by
  have below : c.part.index < 4 := by simp only [Code.part]; omega
  interval_cases c.part.index <;> rfl

section
variable {cls : GroupClass} {src : Source} {c : Code} {s : State}

theorem applyPart_opens (absent : s.ce.group = none) : applyPart cls src c s =
    refuse .groupHeld (some c.cls) [BitVec.ofNat 8 (2 ^ c.part.index)]
      (s.setGroup (some (.opened cls src c))) := by
  rw [← bytesOf_partSet_single]
  simp only [applyPart, absent, valueField_part]
  rfl

/-- A further part is a duplicate, or completes its group, or is held (05 R98). -/
theorem applyPart_joins {g : PendingGroup} (pending : s.ce.group = some g) : applyPart cls src c s =
    if c.part.index ∈ g.indices then refuse .duplicatePart (some c.cls) (bytesOf 1 (partSet g.indices)) s
    else if (g.plus c).isComplete = true then completeGroup (g.plus c) c s
    else refuse .groupHeld (some c.cls) (bytesOf 1 (partSet (g.plus c).indices)) (s.setGroup (some (g.plus c))) := by
  simp only [applyPart, pending, valueField_part, List.contains_iff_mem]
  rfl

end

/-! ### A part on its way to the apply step -/

theorem sourcePermitted_of_group {src : Source} {c : Code} {cls : GroupClass} (group : groupClassOf c.cls = some cls)
    (carried : src = .remote ∨ c.cls ≠ 10) : sourcePermitted src c.cls = true := by
  rcases carried with rfl | other
  · rfl
  · refine sourcePermitted_of_ne src (fun two => ?_) other
    rw [two] at group
    cases group

theorem cls_le_of_group {n : Nat} {cls : GroupClass} (group : groupClassOf n = some cls) : n ≤ 10 := by
  unfold groupClassOf at group
  split at group
  case h_4 => cases group
  all_goals decide

/-- What the code passes does not depend on the attempts or on the pending group. -/
theorem State.passes.passAuthentic {s : State} {c : Code} (passes : s.passes c) (src : Source) :
    (passAuthentic src c s).passes c := by
  obtain ⟨aboveFloor, unused, inDate, value⟩ := passes
  refine ⟨?_, ?_, ?_, ?_⟩
  · rw [passAuthentic_ce]; exact aboveFloor
  · rw [passAuthentic_ce]; exact unused
  · simpa [codeExpired] using inDate
  · simpa using value

/-- An authentic code of the pending group's class and sequence keeps it (05 R99). -/
theorem passAuthentic_of_matching (src : Source) {c : Code} {s : State} {g : PendingGroup}
    (pending : s.ce.group = some g) (same : g.matchesCode c = true) : passAuthentic src c s = s.setAttempts src 5 := by
  unfold Machine.passAuthentic compareGroup
  rw [show (s.setAttempts src 5).ce.group = some g from pending]
  exact if_pos same

theorem matchesCode_iff (g : PendingGroup) (c : Code) :
    g.matchesCode c = true ↔ groupClassOf c.cls = some g.cls ∧ g.sequence = c.sequence := by
  simp [PendingGroup.matchesCode]

section
variable {s : State} {src : Source} {chars : List Byte} {c : Code} (presented : s.presents src chars c)
include presented

/-- A part that passes every check is applied (05 R79, R98). -/
theorem submitCode_part (passes : s.passes c) {cls : GroupClass} (group : groupClassOf c.cls = some cls)
    (carried : src = .remote ∨ c.cls ≠ 10) : exec (.submitCode (sourceByte src :: chars)) s =
      .next (replyJudged (applyPart cls src c (passAuthentic src c s))) := by
  rw [submitCode_of_presents presented, judgeAuthentic_of_passes (cls_le_of_group group)
    (sourcePermitted_of_group group carried) (passes.passAuthentic src), applyCode_of_group _ _ _ group]

/-- A first part opens its group and is held (05 R98). -/
theorem submitFirstPart (passes : s.passes c) {cls : GroupClass} (group : groupClassOf c.cls = some cls)
    (carried : src = .remote ∨ c.cls ≠ 10) (absent : s.ce.group = none) :
    exec (.submitCode (sourceByte src :: chars)) s =
      .next (((s.setAttempts src 5).setGroup (some (.opened cls src c))).replying
        ⟨0x90#8, [0x00#8, 0x02#8, BitVec.ofNat 8 c.cls, BitVec.ofNat 8 (2 ^ c.part.index)]⟩) := by
  rw [submitCode_part presented passes group carried, passAuthentic_of_no_group src c absent,
    applyPart_opens (s := s.setAttempts src 5) absent,
    replyJudged_refuse (u := (s.setAttempts src 5).setGroup _) presented.ready]
  rfl

variable (passes : s.passes c) {g : PendingGroup} (pending : s.ce.group = some g)
  (group : groupClassOf c.cls = some g.cls) (sequence : g.sequence = c.sequence)
  (carried : src = .remote ∨ c.cls ≠ 10)
include passes pending group sequence carried

theorem submitMatchingPart : exec (.submitCode (sourceByte src :: chars)) s =
    .next (replyJudged (applyPart g.cls src c (s.setAttempts src 5))) := by
  rw [submitCode_part presented passes group carried,
    passAuthentic_of_matching src pending ((matchesCode_iff g c).mpr ⟨group, sequence⟩)]

/-- A part already received is DUPLICATE_PART (05 R98). -/
theorem submitDuplicatePart (held : c.part.index ∈ g.indices) : exec (.submitCode (sourceByte src :: chars)) s =
    .next ((s.setAttempts src 5).replying
      ⟨0x90#8, [0x00#8, 0x0D#8, BitVec.ofNat 8 c.cls] ++ bytesOf 1 (partSet g.indices)⟩) := by
  rw [submitMatchingPart presented passes pending group sequence carried,
    applyPart_joins (s := s.setAttempts src 5) pending, if_pos held,
    replyJudged_refuse (setAttempts_ready presented.ready src 5)]
  rfl

variable (new : c.part.index ∉ g.indices)
include new

/-- A further part that does not complete its group is held (05 R98). -/
theorem submitFurtherPart (unfinished : ∃ i, i < g.cls.partCount ∧ i ≠ c.part.index ∧ i ∉ g.indices) :
    exec (.submitCode (sourceByte src :: chars)) s =
      .next (((s.setAttempts src 5).setGroup (some (g.plus c))).replying
        ⟨0x90#8, [0x00#8, 0x02#8, BitVec.ofNat 8 c.cls] ++ bytesOf 1 (partSet (g.indices ++ [c.part.index]))⟩) := by
  obtain ⟨i, below, other, absent⟩ := unfinished
  have still : ¬(g.plus c).isComplete = true := fun full =>
    ((isComplete_plus_iff g c).mp full i below).elim other absent
  rw [submitMatchingPart presented passes pending group sequence carried,
    applyPart_joins (s := s.setAttempts src 5) pending, if_neg new, if_neg still,
    replyJudged_refuse (u := (s.setAttempts src 5).setGroup _) presented.ready, PendingGroup.indices_plus]
  rfl

/-- The part that completes its group brings the whole content to judgement (05 R100). -/
theorem submitLastPart (full : ∀ i, i < g.cls.partCount → i = c.part.index ∨ i ∈ g.indices) :
    exec (.submitCode (sourceByte src :: chars)) s =
      .next (replyJudged (completeGroup (g.plus c) c (s.setAttempts src 5))) := by
  rw [submitMatchingPart presented passes pending group sequence carried,
    applyPart_joins (s := s.setAttempts src 5) pending, if_neg new, if_pos ((isComplete_plus_iff g c).mpr full)]

end

end Sys2Proof.Machine
end

section
/-! Complete groups (05 R100 to R102): the content joined from its parts, and what each class makes of it. -/

namespace Sys2Proof.Machine

/-! ### The content (05 R100) -/

theorem payloadAt_lt (parts : List GroupPart) (i : Nat) : payloadAt parts i < 2 ^ 19 := by
  unfold payloadAt
  split
  · exact BitVec.isLt _
  · decide

theorem joinParts_two (parts : List GroupPart) : joinParts parts 2 =
    payloadAt parts 0 * 524288 + payloadAt parts 1 ∧ joinParts parts 2 < 2 ^ 38 := by
  have p0 := payloadAt_lt parts 0
  have p1 := payloadAt_lt parts 1
  simp only [joinParts, List.range_succ, List.range_zero, List.nil_append, List.foldl_append, List.foldl_cons,
    List.foldl_nil]
  omega

theorem joinParts_four (parts : List GroupPart) : joinParts parts 4 =
    payloadAt parts 0 * 2 ^ 57 + payloadAt parts 1 * 2 ^ 38 + payloadAt parts 2 * 2 ^ 19 + payloadAt parts 3 ∧
    joinParts parts 4 < 2 ^ 76 := by
  have p0 := payloadAt_lt parts 0
  have p1 := payloadAt_lt parts 1
  have p2 := payloadAt_lt parts 2
  have p3 := payloadAt_lt parts 3
  simp only [joinParts, List.range_succ, List.range_zero, List.nil_append, List.foldl_append, List.foldl_cons,
    List.foldl_nil]
  omega

/-! ### The answers to a complete group -/

/-- What an applied code leaves: its effect, the consumption, the reply and the checkpoint write (05 R84). -/
theorem appliedAs_of_apply (o : CodeOutcome) (c : Code) (detail : List Byte) (u : State) :
    AppliedAs u (replyJudged (apply o c detail u)) := by
  constructor
  case queue | overflow => rw [replyJudged_apply_hlc]
  all_goals simp

theorem replyJudged_ce (j : Judged) : (replyJudged j).ce = j.state.ce := (replyJudged_frame j).2.2.2.2.2.1

/-- The state in which a complete group is judged: attempts restored, the group gone. -/
def State.judging (s : State) (src : Source) : State := (s.setAttempts src 5).setGroup none

@[simp] theorem State.judging_frame (s : State) (src : Source) : (s.judging src).params = s.params ∧
    (s.judging src).mli = s.mli ∧ (s.judging src).be = s.be ∧ (s.judging src).tc = s.tc ∧
    (s.judging src).cl = s.cl ∧ (s.judging src).sss = s.sss ∧ (s.judging src).ll = s.ll ∧
    (s.judging src).tm = s.tm ∧ (s.judging src).tl = s.tl ∧ (s.judging src).ps = s.ps ∧
    (s.judging src).hlc = s.hlc ∧ (s.judging src).pins = s.pins := by simp [State.judging]

/-- A content that breaks its class's rules: the group is gone without notice, nothing is consumed (05 R101). -/
theorem replyJudged_brokenGroup {s : State} (ready : s.ready) (src : Source) (c : Code) :
    replyJudged (refuse .badValue (some c.cls) [] (s.judging src)) =
      (s.judging src).replying ⟨0x90#8, [0x00#8, 0x0B#8, BitVec.ofNat 8 c.cls]⟩ :=
  replyJudged_refuse (u := s.judging src) ready _ _ _

/-- A group whose effect leaves the code engine and the power supervisor is consumed, and is gone (05 R100). -/
theorem groupConsumed {s u : State} {src : Source} {c : Code} (free : s.ps.write = none) (o : CodeOutcome)
    (detail : List Byte) (ce : u.ce = (s.judging src).ce) (ps : u.ps = s.ps) :
    (replyJudged (apply o c detail u)).ce.group = none ∧
    s.consumed (replyJudged (apply o c detail u)) src c ([BitVec.ofNat 8 o.number, BitVec.ofNat 8 c.cls] ++ detail) :=
  ⟨by rw [replyJudged_ce, apply_ce, ce]; rfl, consumed_of_apply o detail free ps (by rw [ce]; rfl)⟩

/-! ### SET_RATE (05 R101) -/

/-- One rate of the table is replaced; the rest of the calendar's tables, the clock and the account stay (03 R46). -/
theorem setRate_spec (band : Band) (block : Block) (rate : Nat) (s : State) :
    (∀ b k, ((setRate band block rate s).tc.sched.rates.get b).get k =
      if b = band ∧ k = block then rate else (s.tc.sched.rates.get b).get k) ∧
    (setRate band block rate s).tc.sched.profileA = s.tc.sched.profileA ∧
    (setRate band block rate s).tc.sched.profileB = s.tc.sched.profileB ∧
    (setRate band block rate s).tc.sched.weekMap = s.tc.sched.weekMap ∧
    (setRate band block rate s).clock = s.clock ∧ (setRate band block rate s).acct = s.acct := by
  unfold setRate
  dsimp only
  rw [evaluateCalendar_tc, evaluateCalendar_clock, evaluateCalendar_acct]
  refine ⟨fun b k => ?_, rfl, rfl, rfl, rfl, rfl⟩
  show (((s.tc.sched.rates.set band ((s.tc.sched.rates.get band).set block rate)).get b).get k) = _
  rw [PerBand.get_set]
  by_cases row : b = band
  · subst row
    simp [PerBlock.get_set]
  · simp [row]

/-- The band and the block that two fields of a content name. -/
theorem ratePlace_iff {band block : Nat} (four : band < 4) (three : block < 3) (b : Band) (k : Block) :
    (b = Fin.ofNat 4 band ∧ k = Fin.ofNat 3 block) ↔ b.val = band ∧ k.val = block := by
  simp [Fin.ext_iff, Nat.mod_eq_of_lt four, Nat.mod_eq_of_lt three]

/-- The content's fields: band, block and rate, with seven bits that must be 0. -/
theorem applyRateGroup_eq {content band block rate : Nat} (c : Code) (s : State) (bound : content < 2 ^ 38)
    (bands : band = content / 2 ^ 36) (blocks : block = content / 2 ^ 34 % 4)
    (rates : rate = content / 128 % 2 ^ 27) : applyRateGroup content c s =
    if block = 3 ∨ content % 128 ≠ 0 then refuse .badValue (some c.cls) [] s
    else apply (if rate ≤ 100000000 then .accepted else .acceptedClamped) c
      (bytesOf 1 band ++ bytesOf 1 block ++ bytesOf 4 (min rate 100000000))
      (setRate (Fin.ofNat 4 band) (Fin.ofNat 3 block) (min rate 100000000) s) := by
  have high : contentField content 36 2 = band := by simp only [contentField]; omega
  have middle : contentField content 34 2 = block := blocks.symm
  have low : contentField content 7 27 = rate := rates.symm
  have zero : contentField content 0 7 = content % 128 := by simp [contentField]
  simp only [applyRateGroup, high, middle, low, zero]

/-- A SET_RATE content is refused, or its rate joins the table (05 R101). -/
theorem rateGroup_judged {s : State} {src : Source} {c : Code} {content band block rate : Nat}
    (ready : s.ready) (free : s.ps.write = none) (bound : content < 2 ^ 38)
    (bands : band = content / 2 ^ 36) (blocks : block = content / 2 ^ 34 % 4)
    (rates : rate = content / 128 % 2 ^ 27) (cls : c.cls = 8) :
    (block = 3 ∨ content % 128 ≠ 0 → replyJudged (applyRateGroup content c (s.judging src)) =
      (s.judging src).replying ⟨0x90#8, [0x00#8, 0x0B#8, BitVec.ofNat 8 c.cls]⟩) ∧
    (block ≠ 3 → content % 128 = 0 → ∃ t, replyJudged (applyRateGroup content c (s.judging src)) = t ∧
      t.ce.group = none ∧
      s.consumed t src c ([if rate ≤ 100000000 then 0x00#8 else 0x01#8, 0x08#8] ++ bytesOf 1 band ++
        bytesOf 1 block ++ bytesOf 4 (min rate 100000000)) ∧
      AppliedAs (setRate (Fin.ofNat 4 band) (Fin.ofNat 3 block) (min rate 100000000) (s.judging src)) t) := by
  have judged := applyRateGroup_eq c (s.judging src) bound bands blocks rates
  refine ⟨fun bad => ?_, fun known zero => ?_⟩
  · rw [judged, if_pos bad]
    exact replyJudged_brokenGroup ready src c
  · rw [judged, if_neg (not_or.mpr ⟨known, not_not.mpr zero⟩)]
    obtain ⟨gone, consumed⟩ := groupConsumed (s := s) (src := src) (c := c)
      (u := setRate (Fin.ofNat 4 band) (Fin.ofNat 3 block) (min rate 100000000) (s.judging src)) free
      (if rate ≤ 100000000 then .accepted else .acceptedClamped)
      (bytesOf 1 band ++ bytesOf 1 block ++ bytesOf 4 (min rate 100000000)) (by simp [setRate]) (by simp)
    have number : BitVec.ofNat 8 (if rate ≤ 100000000 then CodeOutcome.accepted else .acceptedClamped).number =
        if rate ≤ 100000000 then 0x00#8 else 0x01#8 := by split <;> rfl
    rw [number, cls] at consumed
    simp only [List.append_assoc] at consumed ⊢
    exact ⟨_, rfl, gone, consumed, appliedAs_of_apply _ _ _ _⟩

/-! ### SET_PROFILE (05 R101) -/

/-- The ten bits of switch point j: eight of start over two of band. -/
theorem pointBits_eq_zero_iff (y : Nat) : y % 1024 = 0 ↔ y / 4 % 256 = 0 ∧ y % 4 = 0 := by omega

/-- A field of m points is 0 when each of them is. -/
theorem points_eq_zero_iff (x m : Nat) : x % 2 ^ (10 * m) = 0 ↔ ∀ i < m, x / 2 ^ (10 * i) % 1024 = 0 := by
  induction m with
  | zero => simp [Nat.mod_one]
  | succ m ih =>
    have split : x % 2 ^ (10 * (m + 1)) = x % 2 ^ (10 * m) + 2 ^ (10 * m) * (x / 2 ^ (10 * m) % 1024) := by
      rw [show 10 * (m + 1) = 10 * m + 10 by ring, pow_add, Nat.mod_mul]; rfl
    have pos : 2 ^ (10 * m) ≠ 0 := by positivity
    rw [split, Nat.add_eq_zero_iff, ih, Nat.mul_eq_zero, or_iff_right pos, Nat.forall_lt_succ_right]

/-- The fields of the points behind the count are 0 exactly when the bits below them are (05 R101). -/
theorem unusedPoints_iff (content : Nat) {count : Nat} (six : count ≤ 6) :
    contentField content 12 (10 * (6 - count)) = 0 ↔ ∀ j, j < 6 → count ≤ j →
      content / 2 ^ (64 - 10 * j) % 256 = 0 ∧ content / 2 ^ (62 - 10 * j) % 4 = 0 := by
  have field (i : Nat) (below : i < 6) : content / 2 ^ 12 / 2 ^ (10 * i) % 1024 = 0 ↔
      content / 2 ^ (64 - 10 * (5 - i)) % 256 = 0 ∧ content / 2 ^ (62 - 10 * (5 - i)) % 4 = 0 := by
    have low : 2 ^ 12 * 2 ^ (10 * i) = 2 ^ (62 - 10 * (5 - i)) := by rw [← pow_add]; congr 1; omega
    have high : 2 ^ (62 - 10 * (5 - i)) * 4 = 2 ^ (64 - 10 * (5 - i)) := by
      rw [show 64 - 10 * (5 - i) = 62 - 10 * (5 - i) + 2 by omega, pow_add]; rfl
    rw [Nat.div_div_eq_div_mul, low, pointBits_eq_zero_iff, Nat.div_div_eq_div_mul, high]
  rw [contentField, points_eq_zero_iff]
  refine ⟨fun zero j below behind => ?_, fun zero i below => ?_⟩
  · have point := (field (5 - j) (by omega)).mp (zero (5 - j) (by omega))
    rwa [show 5 - (5 - j) = j by omega] at point
  · exact (field i (by omega)).mpr (zero (5 - i) (by omega) (by omega))

/-- Starts increase when each is below the next. -/
theorem startsIncrease_iff (points : List SwitchPoint) :
    startsIncrease points = true ↔ points.IsChain fun x y => x.start < y.start := by
  induction points with
  | nil => simp [startsIncrease]
  | cons x rest ih =>
    cases rest with
    | nil => simp [startsIncrease]
    | cons y rest => rw [startsIncrease, Bool.and_eq_true, decide_eq_true_eq, ih, List.isChain_cons_cons]

/-- The rules of a SET_PROFILE content, field by field (05 R101). -/
theorem profileGood_iff {content count : Nat} (counts : count = content / 2 ^ 72 % 8) : profileGood content = true ↔
    1 ≤ count ∧ count ≤ 6 ∧ (∀ j, j < count → content / 2 ^ (64 - 10 * j) % 256 ≤ 143) ∧
    (∀ j, j < count - 1 → content / 2 ^ (64 - 10 * j) % 256 < content / 2 ^ (64 - 10 * (j + 1)) % 256) ∧
    (∀ j, j < 6 → count ≤ j →
      content / 2 ^ (64 - 10 * j) % 256 = 0 ∧ content / 2 ^ (62 - 10 * j) % 4 = 0) ∧ content % 4096 = 0 := by
  have field : contentField content 72 3 = count := counts.symm
  have last : contentField content 0 12 = content % 4096 := by simp [contentField]
  simp only [profileGood, field, last, Bool.and_eq_true, decide_eq_true_eq, beq_iff_eq, and_assoc,
    List.all_eq_true, List.forall_mem_map, List.mem_range]
  refine and_congr_right fun _ => and_congr_right fun six => ?_
  rw [unusedPoints_iff content six, startsIncrease_iff, List.isChain_iff_getElem]
  simp [contentPoint, contentField, Nat.lt_sub_iff_add_lt]

/-- One profile is replaced; the other, the rates, the week map, the clock and the account stay (03 R47). -/
theorem setProfile_spec (which : ProfileId) (points : List SwitchPoint) (s : State) :
    (setProfile which points s).tc.sched.profileA = (if which = .a then points else s.tc.sched.profileA) ∧
    (setProfile which points s).tc.sched.profileB = (if which = .a then s.tc.sched.profileB else points) ∧
    (setProfile which points s).tc.sched.rates = s.tc.sched.rates ∧
    (setProfile which points s).tc.sched.weekMap = s.tc.sched.weekMap ∧
    (setProfile which points s).clock = s.clock ∧ (setProfile which points s).acct = s.acct := by
  unfold setProfile
  dsimp only
  rw [evaluateCalendar_tc, evaluateCalendar_clock, evaluateCalendar_acct]
  cases which <;> exact ⟨rfl, rfl, rfl, rfl, rfl, rfl⟩

/-- The profile a content replaces (05 R101). -/
def contentProfile (content : Nat) : ProfileId := if content / 2 ^ 75 = 0 then .a else .b

theorem contentProfile_eq_a_iff (content : Nat) : contentProfile content = .a ↔ content / 2 ^ 75 = 0 := by
  unfold contentProfile
  split
  · next zero => exact ⟨fun _ => zero, fun _ => rfl⟩
  · next other => exact ⟨nofun, fun zero => absurd zero other⟩

/-- The points of a content in their order (05 R101). -/
def contentPoints (content count : Nat) : List SwitchPoint := (List.range count).map fun j =>
  ⟨content / 2 ^ (64 - 10 * j) % 256, Fin.ofNat 4 (content / 2 ^ (62 - 10 * j) % 4)⟩

/-- A SET_PROFILE content is refused, or its points become the profile that it names (05 R101). -/
theorem profileGroup_judged {s : State} {src : Source} {c : Code} {content count : Nat} (ready : s.ready)
    (free : s.ps.write = none) (bound : content < 2 ^ 76) (counts : count = content / 2 ^ 72 % 8) (cls : c.cls = 9) :
    (profileGood content = false → replyJudged (applyProfileGroup content c (s.judging src)) =
      (s.judging src).replying ⟨0x90#8, [0x00#8, 0x0B#8, BitVec.ofNat 8 c.cls]⟩) ∧
    (profileGood content = true → ∃ t, replyJudged (applyProfileGroup content c (s.judging src)) = t ∧
      t.ce.group = none ∧ s.consumed t src c ([0x00#8, 0x09#8] ++ bytesOf 1 (content / 2 ^ 75)) ∧
      AppliedAs (setProfile (contentProfile content) (contentPoints content count) (s.judging src)) t) := by
  have which : contentField content 75 1 = content / 2 ^ 75 := by simp only [contentField]; omega
  have points : (List.range (contentField content 72 3)).map (contentPoint content) = contentPoints content count := by
    rw [counts]; rfl
  refine ⟨fun bad => ?_, fun good => ?_⟩
  · rw [applyProfileGroup, if_neg (by simp [bad])]
    exact replyJudged_brokenGroup ready src c
  · simp only [applyProfileGroup, good, if_true, which, points]
    obtain ⟨gone, consumed⟩ := groupConsumed (s := s) (src := src) (c := c)
      (u := setProfile (contentProfile content) (contentPoints content count) (s.judging src)) free .accepted
      (bytesOf 1 (content / 2 ^ 75)) (by simp [setProfile]) (by simp)
    rw [cls] at consumed
    exact ⟨_, rfl, gone, consumed, appliedAs_of_apply _ _ _ _⟩

/-! ### KEY_CHANGE (05 R102) -/

/-- The keys and the revision of a content, with all else of the code engine renewed. -/
theorem changeKeys_ce (content : Nat) {s : State} (absent : s.ce.group = none) : (changeKeys content s).ce =
    ⟨⟨BitVec.ofNat 64 (content / 4096), content / 256 % 16, 0, [], ⟨5, 5⟩⟩, ⟨none, none⟩, none⟩ := by
  have key : BitVec.ofNat 64 (contentField content 12 64) = BitVec.ofNat 64 (content / 4096) := by
    apply BitVec.eq_of_toNat_eq
    simp [contentField]
  have reports (before : PerSource Nat) (src : Source) (u : State) : (endIfLocked before src u).ce = u.ce := by simp
  unfold changeKeys
  rw [reports, reports]
  simp only [State.setCe_ce, absent, Keys.changed, key]
  rfl

theorem changeKeys_be (content : Nat) (s : State) : (changeKeys content s).be = s.be := by
  have reports (before : PerSource Nat) (src : Source) (u : State) : (endIfLocked before src u).be = u.be := by
    unfold endIfLocked
    split
    · exact (lockoutEndToTm_spec src u).2.2.2.1
    · rfl
  unfold changeKeys
  rw [reports, reports]
  rfl

/-- A KEY_CHANGE content is refused, or its key and revision are taken (05 R102). -/
theorem keyGroup_judged {s : State} {src : Source} {c : Code} {content : Nat} (ready : s.ready)
    (free : s.ps.write = none) (cls : c.cls = 10) :
    (content % 256 ≠ 0 ∨ content / 256 % 16 = s.ce.keys.keyRevision →
      replyJudged (applyKeyGroup content c (s.judging src)) =
        (s.judging src).replying ⟨0x90#8, [0x00#8, 0x0B#8, BitVec.ofNat 8 c.cls]⟩) ∧
    (content % 256 = 0 → content / 256 % 16 ≠ s.ce.keys.keyRevision →
      ∃ t, replyJudged (applyKeyGroup content c (s.judging src)) = t ∧
        t.ce = ⟨⟨BitVec.ofNat 64 (content / 4096), content / 256 % 16, 0, [], ⟨5, 5⟩⟩, ⟨none, none⟩, none⟩ ∧
        t.hlc.slot = .awaitingWrite (some ⟨0x90#8, [0x00#8, 0x00#8, 0x0A#8]⟩) ∧
        (∃ w, t.ps.write = some w ∧ w.img.occasion = .code) ∧ t.cl = s.cl ∧ t.params = s.params ∧ t.be = s.be ∧
        t.tc = s.tc ∧ t.ll = s.ll) := by
  have revision : contentField content 8 4 = content / 256 % 16 := rfl
  have zero : contentField content 0 8 = content % 256 := by simp [contentField]
  have judged : applyKeyGroup content c (s.judging src) =
      if content / 256 % 16 = s.ce.keys.keyRevision ∨ content % 256 ≠ 0 then
        refuse .badValue (some c.cls) [] (s.judging src)
      else ⟨changeKeys content (s.judging src), .accepted, some c.cls, [], true⟩ := by
    simp only [applyKeyGroup, revision, zero]
    rfl
  refine ⟨fun bad => ?_, fun clean other => ?_⟩
  · rw [judged, if_pos bad.symm]
    exact replyJudged_brokenGroup ready src c
  · rw [judged, if_neg (not_or.mpr ⟨other, not_not.mpr clean⟩)]
    refine ⟨_, rfl, ?_, ?_, ?_, ?_⟩
    · rw [replyJudged_ce]; exact changeKeys_ce content rfl
    · simp [replyJudged, Judged.bytes, replyTo, Status.byte, bytesOf, CodeOutcome.number, cls]
    · obtain ⟨w, written, occasion, -⟩ := startWrite_of_free
        (s := (changeKeys content (s.judging src)).setHlc _) (by simp [free]) .code
      exact ⟨w, written, occasion⟩
    · simp [changeKeys_be]

end Sys2Proof.Machine
end

section
/-! The codes of a group as the host meets them (05 R98 to R102): the completing part of each class, and the codes that
drop a pending group. -/

namespace Sys2Proof.Machine

/-! ### The completing part of each class -/

section
variable {s : State} {src : Source} {chars : List Byte} {c : Code} {g : PendingGroup} {content : Nat}
  (presented : s.presents src chars c) (passes : s.passes c) (pending : s.ce.group = some g)
  (sequence : g.sequence = c.sequence) (new : c.part.index ∉ g.indices)
include presented passes pending sequence new

theorem submitRateGroup (number : c.cls = 8) (cls : g.cls = .setRate)
    (full : ∀ i, i < 2 → i = c.part.index ∨ i ∈ g.indices)
    (joined : content = payloadAt (g.parts ++ [c.part]) 0 * 524288 + payloadAt (g.parts ++ [c.part]) 1) :
    content < 2 ^ 38 ∧ exec (.submitCode (sourceByte src :: chars)) s =
      .next (replyJudged (applyRateGroup content c (s.judging src))) := by
  obtain ⟨joins, bound⟩ := joinParts_two (g.parts ++ [c.part])
  rw [joins, ← joined] at bound
  refine ⟨bound, ?_⟩
  rw [submitLastPart presented passes pending (by rw [number, cls]; rfl) sequence (.inr (by omega)) new
    (by rw [cls]; exact full)]
  simp only [completeGroup, PendingGroup.plus, cls, GroupClass.partCount, joins, ← joined]
  rfl

theorem submitProfileGroup (number : c.cls = 9) (cls : g.cls = .setProfile)
    (full : ∀ i, i < 4 → i = c.part.index ∨ i ∈ g.indices)
    (joined : content = payloadAt (g.parts ++ [c.part]) 0 * 2 ^ 57 + payloadAt (g.parts ++ [c.part]) 1 * 2 ^ 38 +
      payloadAt (g.parts ++ [c.part]) 2 * 2 ^ 19 + payloadAt (g.parts ++ [c.part]) 3) :
    content < 2 ^ 76 ∧ exec (.submitCode (sourceByte src :: chars)) s =
      .next (replyJudged (applyProfileGroup content c (s.judging src))) := by
  obtain ⟨joins, bound⟩ := joinParts_four (g.parts ++ [c.part])
  rw [joins, ← joined] at bound
  refine ⟨bound, ?_⟩
  rw [submitLastPart presented passes pending (by rw [number, cls]; rfl) sequence (.inr (by omega)) new
    (by rw [cls]; exact full)]
  simp only [completeGroup, PendingGroup.plus, cls, GroupClass.partCount, joins, ← joined]
  rfl

theorem submitKeyGroup (remote : src = .remote) (number : c.cls = 10) (cls : g.cls = .keyChange)
    (full : ∀ i, i < 4 → i = c.part.index ∨ i ∈ g.indices)
    (joined : content = payloadAt (g.parts ++ [c.part]) 0 * 2 ^ 57 + payloadAt (g.parts ++ [c.part]) 1 * 2 ^ 38 +
      payloadAt (g.parts ++ [c.part]) 2 * 2 ^ 19 + payloadAt (g.parts ++ [c.part]) 3) :
    exec (.submitCode (sourceByte src :: chars)) s =
      .next (replyJudged (applyKeyGroup content c (s.judging src))) := by
  obtain ⟨joins, -⟩ := joinParts_four (g.parts ++ [c.part])
  rw [submitLastPart presented passes pending (by rw [number, cls]; rfl) sequence (.inl remote) new
    (by rw [cls]; exact full)]
  simp only [completeGroup, PendingGroup.plus, cls, GroupClass.partCount, joins, ← joined]
  rfl

end

/-! ### A pending group that is dropped (05 R99) -/

/-- Judging an authentic code touches the host link by notices alone. -/
theorem judgeAuthentic_noticed {h : Hlc} (src : Source) (c : Code) (s : State) (hs : Noticed h s.hlc) :
    Noticed h (judgeAuthentic src c s).state.hlc := by
  rcases judgeAuthentic_passes src c s with same | ⟨-, applied⟩
  · rwa [same]
  · rw [applied]; exact applyCode_noticed src c _ s hs

theorem Hlc.handReply_queue (h : Hlc) (r : Reply) : (h.handReply r).queue = h.queue := by
  unfold Hlc.handReply
  rcases h.transmit_cases r with ⟨-, sent⟩ | ⟨-, -, waits⟩ | ⟨-, -, full⟩
  · rw [sent]
  · rw [waits]
  · rw [full]

/-- An answer leaves the notices that wait. -/
theorem replyJudged_queue (j : Judged) : (replyJudged j).hlc.queue = j.state.hlc.queue := by
  unfold replyJudged
  dsimp only
  split
  · simp
  · exact Hlc.handReply_queue _ _

/-- A pending group that the code does not belong to is gone, and its notice has joined. -/
theorem passAuthentic_of_other (src : Source) {c : Code} {s : State} {g : PendingGroup} (pending : s.ce.group = some g)
    (other : g.matchesCode c = false) : (passAuthentic src c s).ce.group = none ∧
    (passAuthentic src c s).hlc =
      s.hlc.join ⟨.groupDropped g.cls g.sequence g.indices g.firstSource false, s.clock⟩ := by
  refine ⟨by rw [passAuthentic_ce, pending]; simp [Option.filter, other], ?_⟩
  unfold passAuthentic compareGroup
  rw [show (s.setAttempts src 5).ce.group = some g from pending]
  simp only [other]
  rfl

/-- An authentic single code leaves no group pending, applied or refused (05 R99). -/
theorem judgeAuthentic_single_group (src : Source) {c : Code} (s : State) (single : groupClassOf c.cls = none) :
    (judgeAuthentic src c (passAuthentic src c s)).state.ce.group = none := by
  have dropped : (passAuthentic src c s).ce.group = none := by rw [passAuthentic_of_single src s single]; rfl
  rcases judgeAuthentic_passes src c (passAuthentic src c s) with same | ⟨-, applied⟩
  · rw [same]; exact dropped
  · rw [applied]
    rcases applyCode_ce_of_single src (issueDay (dayOf (passAuthentic src c s).clock) c.day) (passAuthentic src c s)
      single with same | consumed
    · rw [same]; exact dropped
    · rw [consumed]; exact dropped

/-- An authentic code of another class or sequence drops the pending group and is judged on its own (05 R99). -/
theorem submitOtherCode {s : State} {src : Source} {chars : List Byte} {c : Code} {g : PendingGroup}
    (presented : s.presents src chars c) (pending : s.ce.group = some g)
    (other : groupClassOf c.cls ≠ some g.cls ∨ g.sequence ≠ c.sequence) :
    ∃ t, exec (.submitCode (sourceByte src :: chars)) s = .next t ∧
      (s.hlc.queue.length < 16 →
        s.hlc.queue ++ [⟨.groupDropped g.cls g.sequence g.indices g.firstSource false, s.clock⟩] <+: t.hlc.queue) ∧
      (11 ≤ c.cls → t.ce.group = none) ∧
      ∀ cls, groupClassOf c.cls = some cls → s.passes c → src = .remote ∨ c.cls ≠ 10 →
        t.ce.group = some (.opened cls src c) := by
  have unlike : g.matchesCode c = false := Bool.eq_false_iff.mpr fun same =>
    have ⟨class', sequence⟩ := (matchesCode_iff g c).mp same
    other.elim (absurd class') (absurd sequence)
  obtain ⟨dropped, joined⟩ := passAuthentic_of_other src pending unlike
  refine ⟨_, submitCode_of_presents presented, fun room => ?_, fun unknown => ?_, fun cls group passes carried => ?_⟩
  · rw [replyJudged_queue, ← Hlc.join_queue _ _ room, ← joined]
    exact (judgeAuthentic_noticed src c _ (.refl _)).queue_grows
  · rw [replyJudged_ce, judgeAuthentic_of_unsupported unknown]
    exact dropped
  · rw [replyJudged_ce, judgeAuthentic_of_passes (cls_le_of_group group) (sourcePermitted_of_group group carried)
      (passes.passAuthentic src), applyCode_of_group _ _ _ group, applyPart_opens dropped]
    rfl

/-- Settles O34: the parts held, the completing part of each class, then the codes that drop a pending group. -/
theorem groupsAreAppliedWhole : Obligations.GroupsAreAppliedWhole := by
  intro s src chars c presented part cls done broken
  have free := presented.storeFree
  refine ⟨fun passes absent => ⟨fun number => ?_, fun number => ?_, fun number remote => ?_⟩,
    fun g passes pending group sequence carried held =>
      submitDuplicatePart presented passes pending group sequence carried held,
    fun g passes pending group sequence carried new unfinished => ?further,
    fun g passes pending number class' sequence new full => ?rate,
    fun g passes pending number class' sequence new full => ?profile,
    fun g passes pending number remote class' sequence new full => ?key, fun single => ?single,
    fun g pending other => submitOtherCode presented pending other⟩
  · exact submitFirstPart presented passes (cls := .setRate) (by rw [number]; rfl) (.inr (by omega)) absent
  · exact submitFirstPart presented passes (cls := .setProfile) (by rw [number]; rfl) (.inr (by omega)) absent
  · exact submitFirstPart presented passes (cls := .keyChange) (by rw [number]; rfl) (.inl remote) absent
  case further =>
    obtain ⟨i, below, rest⟩ := unfinished
    exact submitFurtherPart presented passes pending group sequence carried new
      ⟨i, by cases named : g.cls <;> simpa [named, GroupClass.partCount] using below, rest⟩
  case rate =>
    intro p content band block rate
    obtain ⟨bound, judged⟩ := submitRateGroup (content := content) presented passes pending sequence new number class'
      full rfl
    obtain ⟨bad, good⟩ := rateGroup_judged (src := src) (band := band) (block := block) (rate := rate) presented.ready
      free bound rfl rfl rfl number
    refine ⟨fun breaks => judged.trans (congrArg _ (bad breaks)), fun known zero => ?_⟩
    obtain ⟨t, applied, gone, consumed, effect⟩ := good known zero
    obtain ⟨rates, profileA, profileB, weekMap, clock, acct⟩ :=
      setRate_spec (Fin.ofNat 4 band) (Fin.ofNat 3 block) (min rate 100000000) (s.judging src)
    refine ⟨t, judged.trans (congrArg _ applied), gone, consumed, fun b k => ?_, ?_⟩
    · rw [effect.tc, rates b k, if_congr (ratePlace_iff (by omega) (by omega) b k) rfl rfl]
      rfl
    · rw [effect.tc, effect.clock, effect.acct, effect.params, effect.tm, effect.tl, effect.ll]
      exact ⟨profileA, profileB, weekMap, clock, acct, by simp⟩
  case profile =>
    intro p content count start band good points
    obtain ⟨bound, judged⟩ := submitProfileGroup (content := content) presented passes pending sequence new number
      class' full rfl
    obtain ⟨bad, applies⟩ := profileGroup_judged (src := src) (count := count) presented.ready free bound rfl number
    have rules : profileGood content = true ↔ good := profileGood_iff rfl
    refine ⟨fun breaks => judged.trans (congrArg _ (bad (Bool.eq_false_iff.mpr fun kept => breaks (rules.mp kept)))),
      fun kept => ?_⟩
    obtain ⟨t, applied, gone, consumed, effect⟩ := applies (rules.mpr kept)
    obtain ⟨profileA, profileB, rates, weekMap, clock, acct⟩ :=
      setProfile_spec (contentProfile content) (contentPoints content count) (s.judging src)
    simp only [contentProfile_eq_a_iff] at profileA profileB
    refine ⟨t, judged.trans (congrArg _ applied), gone, consumed, ?_⟩
    rw [effect.tc, effect.clock, effect.acct, effect.params, effect.tm, effect.tl, effect.ll]
    exact ⟨profileA, profileB, rates, weekMap, clock, acct, by simp⟩
  case key =>
    intro p content
    have judged := submitKeyGroup (content := content) presented passes pending sequence new remote number class'
      full rfl
    obtain ⟨bad, good⟩ := keyGroup_judged (src := src) (content := content) presented.ready free number
    refine ⟨fun breaks => judged.trans (congrArg _ (bad breaks)), fun clean other => ?_⟩
    obtain ⟨t, applied, rest⟩ := good clean other
    exact ⟨t, judged.trans (congrArg _ applied), rest⟩
  case single =>
    refine ⟨_, submitCode_of_presents presented, ?_⟩
    rw [replyJudged_ce]
    exact judgeAuthentic_single_group src s (groupClassOf_of_single single)

end Sys2Proof.Machine
end
